-- ==== Sys2Proof/Word.lean ====
section
/-! DEFINITION. The plain values of the PX416: bytes, station numbers, home indexes, identities, trees, four-place tables (one place per tree or per tariff band), times of day and moments, and saturating counts (00_scope.md, 3 and 4). -/

namespace Sys2Proof

/-- One byte of a frame, a header or a burst. -/
abbrev Byte := BitVec 8

/-- A station of the district link, 0 to 15 (00_scope.md, Table 2). -/
abbrev Station := Fin 16

/-- The position of a home record in the Home Table, 0 to 127. -/
abbrev HomeIndex := Fin 128

/-- A home terminal's 64-bit serial number. -/
abbrev Identity := BitVec 64

/-- The 32-bit account number of an admission. -/
abbrev Account := BitVec 32

/-- One of the four tariff bands. -/
abbrev Band := Fin 4

/-- A rank of the rank table, 0 to 3. -/
abbrev Rank := Fin 4

/-- One passive optical tree. -/
inductive Tree where
  | a | b | c | d
deriving DecidableEq, Repr

/-- The place of a tree in a four-place table: A is 0 and D is 3. -/
def Tree.idx : Tree → Fin 4
  | .a => 0
  | .b => 1
  | .c => 2
  | .d => 3

/-- The four trees in order. -/
def Tree.all : List Tree := [.a, .b, .c, .d]

/-- The tree a number 0 to 3 names; no tree for a number above 3. -/
def Tree.ofNat? : Nat → Option Tree
  | 0 => some .a
  | 1 => some .b
  | 2 => some .c
  | 3 => some .d
  | _ => none

/-- Four values of one kind: one per tree, or one per tariff band. -/
structure Quad (α : Type) where
  q0 : α
  q1 : α
  q2 : α
  q3 : α
deriving DecidableEq, Repr

namespace Quad
variable {α β : Type}

/-- The value at a place. -/
def get (q : Quad α) : Fin 4 → α
  | 0 => q.q0
  | 1 => q.q1
  | 2 => q.q2
  | 3 => q.q3

/-- The table with the value at one place replaced. -/
def set (q : Quad α) (i : Fin 4) (x : α) : Quad α :=
  match i with
  | 0 => { q with q0 := x }
  | 1 => { q with q1 := x }
  | 2 => { q with q2 := x }
  | 3 => { q with q3 := x }

/-- The same value at every place. -/
def fill (x : α) : Quad α := ⟨x, x, x, x⟩

/-- A function applied at every place. -/
def map (f : α → β) (q : Quad α) : Quad β := ⟨f q.q0, f q.q1, f q.q2, f q.q3⟩

/-- The four values in order. -/
def toList (q : Quad α) : List α := [q.q0, q.q1, q.q2, q.q3]

/-- The sum of four numbers. -/
def sum (q : Quad Nat) : Nat := q.q0 + q.q1 + q.q2 + q.q3

end Quad

/-- A sum that stops at a limit (00_scope.md, 4.2: a saturating count). -/
def satAdd (limit a b : Nat) : Nat := min limit (a + b)

/-- A 16-bit saturating counter raised by 1. -/
def bump (n : Nat) : Nat := satAdd 65535 n 1

/-- A value set to the nearest end of its range when it lies outside it (00_scope.md, 4.2). -/
def clamp (lo hi x : Nat) : Nat := max lo (min hi x)

/-- A time of day. -/
structure TimeOfDay where
  hh : Nat
  mm : Nat
  ss : Nat
deriving DecidableEq, Repr

/-- 00:00:00. -/
def TimeOfDay.zero : TimeOfDay := ⟨0, 0, 0⟩

/-- A date and time, called a moment (R136). -/
structure Moment where
  year : Nat
  month : Nat
  day : Nat
  time : TimeOfDay
deriving DecidableEq, Repr

end Sys2Proof
end

