-- ==== Sys2Proof/Config.lean ====
section
/-! DEFINITION. What CONFIGURE gives the part (11_start_up_and_configuration.md, Table 11-2). -/

namespace Sys2Proof

/-- The fields of CONFIGURE as applied, defaults filled in (Table 11-2, R178, R179). `ranks` is the rank table as the
District Link Controller holds it, the management station at rank 0 (R164). -/
structure Config where
  capacity : Nat
  ranks : Vector Rank 16
  enable : Quad Bool
  spread : Quad Nat
  discovery : Nat
  quiet : Nat
  dark : Nat
  overlap : Nat
  drift : Nat
  kOnline : Nat
  soak : Nat
  lostTimeout : Nat
  close : TimeOfDay
deriving DecidableEq, Repr

end Sys2Proof
end

