-- ==== Sys2Proof/Syntax.lean ====
section
/-! DEFINITION. The commands of the PX416: one constructor of `Instr` for each row of spec/opcode_table.json, with what each brings from outside the part. -/

namespace Sys2Proof

/-- The states of a home record, in the order of Table 1-1. -/
inductive HomeState where
  | free | claiming | measuring | soaking | online | lost | isolated | closing | forward
deriving DecidableEq, Repr

/-- What the link header of a received frame names: the destination byte and the source station. A source byte above 15 makes
a bad frame (R170, check 3), so here the source is a station. -/
structure Rx where
  dest : Byte
  src : Station
deriving DecidableEq, Repr

/-- What the upstream receiver saw of one window (R29, R30, R32, R35).
`levels` is the received level code of each block of the window, guard block first. `head0` and `head1` are the level codes of the burst's own
two head blocks, wherever in the search span the head lies; they are not read when no head is found. `runsOn` says that the light of the guard
block continues from the block before it with no dark between. `head` is a head found in the upstream light: its start less the
expected start, in eighth-blocks, and its 7 bytes (tag, report, payload byte count, head check). `payload` is what follows the
head: the payload bytes and the 2-byte payload check. `chargeFirst` and `guardFirst` settle the two orders the spec leaves open
(R102: the DRIFT charge of a LOST home before its transition; R30, R35: the guard light before the burst). -/
structure BurstRx where
  levels : List Byte
  head0 : Byte
  head1 : Byte
  runsOn : Bool
  head : Option (Int × List Byte)
  payload : List Byte
  chargeFirst : Bool
  guardFirst : Bool
deriving DecidableEq, Repr

/-- A head seen in a MEASURE zone: its arrival offset from block 0 of the zone in eighth-blocks, the level codes of its two
head blocks and its 7 bytes (R33). -/
structure ZoneHead where
  offset : Nat
  level0 : Byte
  level1 : Byte
  bytes : List Byte
deriving DecidableEq, Repr

/-- What the upstream receiver saw of one zone: the identity bursts of a DISCOVER zone in the order found, each as its bytes,
and the heads of a MEASURE zone in the order found (R33). -/
structure ZoneRx where
  bursts : List (List Byte)
  heads : List ZoneHead
deriving DecidableEq, Repr

/-- A held routine frame that a producer offers again (R168). -/
inductive HeldFrame where
  | claim (h : HomeIndex)
  | share
  | overcommit
  | holdFull
deriving DecidableEq, Repr

/-- How far a FIND walk has come (R21). `examinedTo n`: the walk has examined the first `n` entries of its range by now and has not completed.
`asItStands`: the walk completes. Either way the entries it had not examined before are judged as they stand at this moment. -/
inductive WalkReport where
  | asItStands
  | examinedTo (n : Nat)
deriving DecidableEq, Repr

/-- The commands and events of the part, one constructor per row of spec/opcode_table.json. A frame received on the district
link carries its link header and its payload bytes; a REQUEST carries its request number and the argument bytes that follow
the kind (Table 12-4). -/
inductive Instr where
  | pinReset (stn mgt : Station)
  | roundBoundary
  | controlMessageReoffer (t : Tree) (place : Nat)
  | heldFrameReoffer (f : HeldFrame)
  | soakEnd (h : HomeIndex)
  | claimHoldExpiry (h : HomeIndex)
  | probeSettled (t : Tree)
  | epochEnd
  | laserOffRefresh (h : HomeIndex)
  | sharePeriodEnd
  | secondTick
  | lostTimeout (h : HomeIndex)
  | periodClose
  | forwardRetentionExpiry (h : HomeIndex)
  | mapPoint
  | burstReceived (t : Tree) (b : BurstRx)
  | zoneReceived (t : Tree) (z : ZoneRx)
  | quietWindowMeasured (t : Tree) (level : Byte)
  | downstreamPacket (home : Nat) (packet : List Byte)
  | captureCheckComplete
  | claimCheckComplete
  | releaseCheckComplete
  | findWalkComplete (r : WalkReport)
  | emissionWalk
  | idleGapElapsed
  | frameSent
  | linkCollision
  | jamEnd
  | backoffEnd
  | badFrame (bytes : List Byte)
  | claim (rx : Rx) (payload : List Byte)
  | object (rx : Rx) (payload : List Byte)
  | release (rx : Rx) (payload : List Byte)
  | share (rx : Rx) (payload : List Byte)
  | event (rx : Rx) (payload : List Byte)
  | response (rx : Rx) (payload : List Byte)
  | configure (rx : Rx) (num : BitVec 16) (args : List Byte)
  | time (rx : Rx) (num : BitVec 16) (args : List Byte)
  | tariff (rx : Rx) (num : BitVec 16) (args : List Byte)
  | admitHome (rx : Rx) (num : BitVec 16) (args : List Byte)
  | withdraw (rx : Rx) (num : BitVec 16) (args : List Byte)
  | unbar (rx : Rx) (num : BitVec 16) (args : List Byte)
  | retire (rx : Rx) (num : BitVec 16) (args : List Byte)
  | pardon (rx : Rx) (num : BitVec 16) (args : List Byte)
  | setClass (rx : Rx) (num : BitVec 16) (args : List Byte)
  | search (rx : Rx) (num : BitVec 16) (args : List Byte)
  | abortSearch (rx : Rx) (num : BitVec 16) (args : List Byte)
  | stopTree (rx : Rx) (num : BitVec 16) (args : List Byte)
  | startTree (rx : Rx) (num : BitVec 16) (args : List Byte)
  | queryHome (rx : Rx) (num : BitVec 16) (args : List Byte)
  | find (rx : Rx) (num : BitVec 16) (args : List Byte)
  | readLists (rx : Rx) (num : BitVec 16) (args : List Byte)
  | queryStation (rx : Rx) (num : BitVec 16) (args : List Byte)
  | collect (rx : Rx) (num : BitVec 16) (args : List Byte)
  | releaseRecord (rx : Rx) (num : BitVec 16) (args : List Byte)
  | unknownClass (rx : Rx) (cls : Byte) (payload : List Byte)
  | unknownRequestKind (rx : Rx) (payload : List Byte)
deriving DecidableEq, Repr

end Sys2Proof
end

