-- ==== Sys2Proof/WellFormed.lean ====
section
/-! DEFINITION. When a command's operands are what the part's faces can bring: frame lengths, request kinds, and the shape of a received burst. -/

namespace Sys2Proof

/-- A payload of a district link frame holds 0 to 96 bytes (Table 12-1). -/
def payloadOk (payload : List Byte) : Bool := decide (payload.length ≤ 96)

/-- The arguments of a REQUEST follow its 2-byte number and its kind, so they hold 0 to 93 bytes (12.3). -/
def argsOk (args : List Byte) : Bool := decide (args.length ≤ 93)

/-- A window is a guard block, two head blocks and its payload blocks; a head found lies in the search span and is 7 bytes, and a head found
where it was expected has the window's two head blocks for its own (R29, R30, Table 12-6). -/
def BurstRx.ok (b : BurstRx) : Bool :=
  decide (3 ≤ b.levels.length) && decide (b.levels.length ≤ 2000) &&
    match b.head with
    | none => true
    | some (δ, bytes) =>
      decide (-64 ≤ δ) && decide (δ ≤ 63) && decide (bytes.length = 7) &&
        (!decide (δ = 0) || (decide (b.levels[1]? = some b.head0) && decide (b.levels[2]? = some b.head1)))

/-- The kind byte of a REQUEST payload, when there is one. -/
def requestKindByte (payload : List Byte) : Option Byte := payload[2]?

/-- A request kind code outside 1 to 19, or no kind byte at all (12.3). -/
def unknownKind (payload : List Byte) : Bool :=
  match requestKindByte payload with
  | none => true
  | some k => decide (k.toNat = 0) || decide (19 < k.toNat)

/-- A class code outside 1 to 7 (Table 12-1). -/
def unknownClassCode (cls : Byte) : Bool := decide (cls.toNat = 0) || decide (7 < cls.toNat)

/-- The command is one that the part's faces can bring. `badFrame` takes any bytes: the receiver judges them (R170). -/
def Instr.wellFormed : Instr → Bool
  | .pinReset _ _ => true
  | .roundBoundary => true
  | .controlMessageReoffer _ _ => true
  | .heldFrameReoffer _ => true
  | .soakEnd _ => true
  | .claimHoldExpiry _ => true
  | .probeSettled _ => true
  | .epochEnd => true
  | .laserOffRefresh _ => true
  | .sharePeriodEnd => true
  | .secondTick => true
  | .lostTimeout _ => true
  | .periodClose => true
  | .forwardRetentionExpiry _ => true
  | .mapPoint => true
  | .burstReceived _ b => b.ok
  | .zoneReceived _ z => z.heads.all fun h => decide (h.bytes.length = 7)
  | .quietWindowMeasured _ _ => true
  | .downstreamPacket _ _ => true
  | .captureCheckComplete => true
  | .claimCheckComplete => true
  | .releaseCheckComplete => true
  | .findWalkComplete r =>
    match r with
    | .asItStands => true
    | .examinedTo n => decide (n ≤ 128)
  | .emissionWalk => true
  | .idleGapElapsed => true
  | .frameSent => true
  | .linkCollision => true
  | .jamEnd => true
  | .backoffEnd => true
  | .badFrame _ => true
  | .claim _ p => payloadOk p
  | .object _ p => payloadOk p
  | .release _ p => payloadOk p
  | .share _ p => payloadOk p
  | .event _ p => payloadOk p
  | .response _ p => payloadOk p
  | .configure _ _ a => argsOk a
  | .time _ _ a => argsOk a
  | .tariff _ _ a => argsOk a
  | .admitHome _ _ a => argsOk a
  | .withdraw _ _ a => argsOk a
  | .unbar _ _ a => argsOk a
  | .retire _ _ a => argsOk a
  | .pardon _ _ a => argsOk a
  | .setClass _ _ a => argsOk a
  | .search _ _ a => argsOk a
  | .abortSearch _ _ a => argsOk a
  | .stopTree _ _ a => argsOk a
  | .startTree _ _ a => argsOk a
  | .queryHome _ _ a => argsOk a
  | .find _ _ a => argsOk a
  | .readLists _ _ a => argsOk a
  | .queryStation _ _ a => argsOk a
  | .collect _ _ a => argsOk a
  | .releaseRecord _ _ a => argsOk a
  | .unknownClass _ cls p => unknownClassCode cls && payloadOk p
  | .unknownRequestKind _ p => unknownKind p && payloadOk p

end Sys2Proof
end

