-- ==== Sys2Proof/Decode.lean ====
section
/-! DEFINITION. The byte layouts a command arrives in: big-endian fields, the 16-bit check, the district link frame and its classes and request kinds (R170, R180, 12.2, 12.3), their encoder, and `decodeTableWord`. The opcode table gives no row any bits. -/

namespace Sys2Proof

/-- A number read from bytes, most significant byte first (R180). -/
def beNat (bs : List Byte) : Nat := bs.foldl (fun n b => n * 256 + b.toNat) 0

/-- A number as `k` bytes, most significant byte first (R180). -/
def toBE : Nat → Nat → List Byte
  | 0, _ => []
  | k + 1, n => BitVec.ofNat 8 (n / 256 ^ k) :: toBE k n

/-- One bit taken into the 16-bit CRC with generator x^16 + x^12 + x^5 + 1 (R170). -/
def crcBit (c : BitVec 16) (b : Bool) : BitVec 16 :=
  if c.msb != b then (c <<< 1) ^^^ 0x1021#16 else c <<< 1

/-- One byte taken into the CRC, most significant bit first (R170). -/
def crcByte (c : BitVec 16) (b : Byte) : BitVec 16 :=
  [7, 6, 5, 4, 3, 2, 1, 0].foldl (fun c i => crcBit c (b.getLsbD i)) c

/-- The check over a run of bytes: initial value all ones, no reflection, no final XOR (R170). -/
def crc16 (bs : List Byte) : BitVec 16 := bs.foldl crcByte 0xFFFF#16

/-- The two bytes of a check, high byte first (R180). -/
def crcBytes (bs : List Byte) : List Byte := toBE 2 (crc16 bs).toNat

/-- A run of bytes followed by its own correct check. -/
def checked (bs check : List Byte) : Bool := decide (check = crcBytes bs)

/-- A frame as the receiver takes it from the line after checks 1 to 3 of R170. -/
structure LineFrame where
  rx : Rx
  cls : Byte
  payload : List Byte
deriving DecidableEq, Repr

/-- Checks 1 to 3 of R170 on the bytes between two quiet stretches of the line: a start flag, header fields, a length of 96 or
less, that many payload bytes and a correct frame check, and a source of 0 to 15. -/
def lineFrame (bytes : List Byte) : Option LineFrame :=
  match bytes with
  | flag :: dest :: src :: cls :: len :: rest =>
    let payload := rest.take len.toNat
    let check := (rest.drop len.toNat).take 2
    if flag = 0x7E#8 ∧ len.toNat ≤ 96 ∧ len.toNat + 2 ≤ rest.length ∧
        checked (dest :: src :: cls :: len :: payload) check = true then
      if h : src.toNat < 16 then some ⟨⟨dest, ⟨src.toNat, h⟩⟩, cls, payload⟩ else none
    else none
  | _ => none

/-- The request a kind code names (Table 12-4). -/
def requestOf (rx : Rx) (num : BitVec 16) (args : List Byte) : Nat → Option Instr
  | 1 => some (.configure rx num args)
  | 2 => some (.time rx num args)
  | 3 => some (.tariff rx num args)
  | 4 => some (.admitHome rx num args)
  | 5 => some (.withdraw rx num args)
  | 6 => some (.unbar rx num args)
  | 7 => some (.retire rx num args)
  | 8 => some (.pardon rx num args)
  | 9 => some (.setClass rx num args)
  | 10 => some (.search rx num args)
  | 11 => some (.abortSearch rx num args)
  | 12 => some (.stopTree rx num args)
  | 13 => some (.startTree rx num args)
  | 14 => some (.queryHome rx num args)
  | 15 => some (.find rx num args)
  | 16 => some (.readLists rx num args)
  | 17 => some (.queryStation rx num args)
  | 18 => some (.collect rx num args)
  | 19 => some (.releaseRecord rx num args)
  | _ => none

/-- A REQUEST payload: request number, kind and arguments (12.3). -/
def decodeRequest (rx : Rx) (payload : List Byte) : Instr :=
  match payload with
  | n1 :: n0 :: kind :: args =>
    (requestOf rx (BitVec.ofNat 16 (beNat [n1, n0])) args kind.toNat).getD (.unknownRequestKind rx payload)
  | _ => .unknownRequestKind rx payload

/-- The command of a frame that passed checks 1 to 3, by its class code (Table 12-1). -/
def decodeClass (rx : Rx) (cls : Byte) (payload : List Byte) : Instr :=
  match cls.toNat with
  | 1 => .claim rx payload
  | 2 => .object rx payload
  | 3 => .release rx payload
  | 4 => .share rx payload
  | 5 => .event rx payload
  | 6 => decodeRequest rx payload
  | 7 => .response rx payload
  | _ => .unknownClass rx cls payload

/-- The command the receiver makes of the bytes it takes from the line (R170, R171). -/
def decodeLine (bytes : List Byte) : Instr :=
  match lineFrame bytes with
  | none => .badFrame bytes
  | some f => decodeClass f.rx f.cls f.payload

/-- A frame laid out as Table 12-1 gives it. -/
def frameBytes (dest src cls : Byte) (payload : List Byte) : List Byte :=
  let body := dest :: src :: cls :: BitVec.ofNat 8 payload.length :: payload
  0x7E#8 :: (body ++ crcBytes body)

/-- The class code and payload of a received frame's command: the inverse of `decodeClass`. -/
def Instr.lineParts : Instr → Option (Rx × Byte × List Byte)
  | .claim rx p => some (rx, 1, p)
  | .object rx p => some (rx, 2, p)
  | .release rx p => some (rx, 3, p)
  | .share rx p => some (rx, 4, p)
  | .event rx p => some (rx, 5, p)
  | .response rx p => some (rx, 7, p)
  | .configure rx n a => some (rx, 6, toBE 2 n.toNat ++ 1 :: a)
  | .time rx n a => some (rx, 6, toBE 2 n.toNat ++ 2 :: a)
  | .tariff rx n a => some (rx, 6, toBE 2 n.toNat ++ 3 :: a)
  | .admitHome rx n a => some (rx, 6, toBE 2 n.toNat ++ 4 :: a)
  | .withdraw rx n a => some (rx, 6, toBE 2 n.toNat ++ 5 :: a)
  | .unbar rx n a => some (rx, 6, toBE 2 n.toNat ++ 6 :: a)
  | .retire rx n a => some (rx, 6, toBE 2 n.toNat ++ 7 :: a)
  | .pardon rx n a => some (rx, 6, toBE 2 n.toNat ++ 8 :: a)
  | .setClass rx n a => some (rx, 6, toBE 2 n.toNat ++ 9 :: a)
  | .search rx n a => some (rx, 6, toBE 2 n.toNat ++ 10 :: a)
  | .abortSearch rx n a => some (rx, 6, toBE 2 n.toNat ++ 11 :: a)
  | .stopTree rx n a => some (rx, 6, toBE 2 n.toNat ++ 12 :: a)
  | .startTree rx n a => some (rx, 6, toBE 2 n.toNat ++ 13 :: a)
  | .queryHome rx n a => some (rx, 6, toBE 2 n.toNat ++ 14 :: a)
  | .find rx n a => some (rx, 6, toBE 2 n.toNat ++ 15 :: a)
  | .readLists rx n a => some (rx, 6, toBE 2 n.toNat ++ 16 :: a)
  | .queryStation rx n a => some (rx, 6, toBE 2 n.toNat ++ 17 :: a)
  | .collect rx n a => some (rx, 6, toBE 2 n.toNat ++ 18 :: a)
  | .releaseRecord rx n a => some (rx, 6, toBE 2 n.toNat ++ 19 :: a)
  | .unknownClass rx cls p => some (rx, cls, p)
  | .unknownRequestKind rx p => some (rx, 6, p)
  | .pinReset _ _ => none
  | .roundBoundary => none
  | .controlMessageReoffer _ _ => none
  | .heldFrameReoffer _ => none
  | .soakEnd _ => none
  | .claimHoldExpiry _ => none
  | .probeSettled _ => none
  | .epochEnd => none
  | .laserOffRefresh _ => none
  | .sharePeriodEnd => none
  | .secondTick => none
  | .lostTimeout _ => none
  | .periodClose => none
  | .forwardRetentionExpiry _ => none
  | .mapPoint => none
  | .burstReceived _ _ => none
  | .zoneReceived _ _ => none
  | .quietWindowMeasured _ _ => none
  | .downstreamPacket _ _ => none
  | .captureCheckComplete => none
  | .claimCheckComplete => none
  | .releaseCheckComplete => none
  | .findWalkComplete _ => none
  | .emissionWalk => none
  | .idleGapElapsed => none
  | .frameSent => none
  | .linkCollision => none
  | .jamEnd => none
  | .backoffEnd => none
  | .badFrame _ => none

/-- The bytes on the line of a received frame's command; none for a command that is no frame and for a bad frame. -/
def Instr.encodeLine (i : Instr) : Option (List Byte) :=
  i.lineParts.map fun (rx, cls, p) => frameBytes rx.dest (BitVec.ofNat 8 rx.src.val) cls p

/-! ## Bits -/

/-- A byte's bits in the order they go on the district link: least significant bit first (R180). -/
def byteBits (b : Byte) : List Bool := (List.range 8).map fun i => b.getLsbD i

/-- The bits of a run of bytes on the district link (R180). -/
def lineBits (bytes : List Byte) : List Bool := bytes.flatMap byteBits

/-- The byte of eight bits taken from the line, the first being the least significant (R180). -/
def byteOfBits (b0 b1 b2 b3 b4 b5 b6 b7 : Bool) : Byte :=
  BitVec.ofNat 8 (b0.toNat + 2 * b1.toNat + 4 * b2.toNat + 8 * b3.toNat + 16 * b4.toNat + 32 * b5.toNat + 64 * b6.toNat + 128 * b7.toNat)

/-- The bytes the receiver assembles from the bits of the line; fewer than eight bits at the end are no byte. -/
def bytesOfBits : List Bool → List Byte
  | b0 :: b1 :: b2 :: b3 :: b4 :: b5 :: b6 :: b7 :: rest => byteOfBits b0 b1 b2 b3 b4 b5 b6 b7 :: bytesOfBits rest
  | _ => []

/-- The command the receiver makes of the bits it takes from the line. -/
def decodeLineBits (bits : List Bool) : Instr := decodeLine (bytesOfBits bits)

/-- The bits on the line of a received frame's command. -/
def Instr.encodeLineBits (i : Instr) : Option (List Bool) := i.encodeLine.map lineBits

/-- The command that a word of the opcode table's bits spells. spec/opcode_table.json gives no row a pattern of bits, so no
word spells a command. -/
def decodeTableWord (_nbits _w : Nat) : Option Instr := none

end Sys2Proof
end

