-- ==== Sys2Proof/Machine/State.lean ====
section
/-! DEFINITION. Every piece of state the spec gives the PX416, as plain data, its value after a pin reset, and the reasons a step could stop. -/

namespace Sys2Proof.Machine

/-- Why a step could fault. It has no constructor: the spec gives the PX416 no behaviour that stops it, and every command of
the table answers a next state. -/
inductive Fault where
deriving DecidableEq, Repr

/-- Why a step could be refused. A request the part refuses is not this: its refusal is a RESPONSE, part of a next state. -/
inductive Refusal where
  /-- A command of the opcode table without a meaning yet, raised by `exec` alone; safe, since the machine stops. No arm of `exec` raises it. -/
  | notModelled (mnemonic : String)
deriving DecidableEq, Repr

/-! ## The home record (Table 1-1) -/

/-- Why an entry is CLOSING (Table 1-1). -/
inductive LeaveReason where
  | management | lostTimeout | moved
deriving DecidableEq, Repr

/-- The silence of a home (Table 1-1). -/
inductive Silence where
  | none | search
deriving DecidableEq, Repr

/-- A measurement sample: arrival offset in eighth-blocks and level code (R33, R63). -/
structure Sample where
  offset : Nat
  level : Nat
deriving DecidableEq, Repr

/-- One meter bank (Table 9-1). `overUp` and `overDown` are the overflow counts. `pendingOut`, `discarded` and `periodEnd` are
present in a closed bank. The `pendingIn` of the open bank is the home's pending carried in (9.1). -/
structure Bank where
  up : Quad Nat
  down : Quad Nat
  upResidue : Quad Nat
  downResidue : Quad Nat
  overUp : Nat
  overDown : Nat
  withheld : Nat
  periodStart : Option Moment
  periodEnd : Option Moment
  spans : Nat
  clockStep : Bool
  saturated : Bool
  isolatedInPeriod : Bool
  pendingIn : Nat
  pendingOut : Option Nat
  discarded : Option Nat
deriving DecidableEq, Repr

/-- A cleared bank: period start unset, spans 1, flags clear (R1). -/
def Bank.cleared : Bank :=
  { up := Quad.fill 0, down := Quad.fill 0, upResidue := Quad.fill 0, downResidue := Quad.fill 0, overUp := 0, overDown := 0,
    withheld := 0, periodStart := none, periodEnd := none, spans := 1, clockStep := false, saturated := false,
    isolatedInPeriod := false, pendingIn := 0, pendingOut := none, discarded := none }

/-- The claim context of a CLAIMING entry (Table 3-1). `unsent` counts the CLAIMs of the claim queued and not yet reported sent, so that its CLAIM is sent
while `unsent` is 0; `held` counts those of them the engine keeps because the transmit queue had no room (R55), and `again` says that one of them was queued
again (R57, R167). -/
structure ClaimContext where
  unsent : Nat
  hold : Nat
  waits : Nat
  held : Nat
  again : Bool
deriving DecidableEq, Repr

/-- The measurement phase of a MEASURING entry (Table 3-1). -/
inductive MeasurePhase where
  | announcing | sampling | setting
deriving DecidableEq, Repr

/-- A home record (Table 1-1) with the working values other blocks keep per entry: the claim context and the measurement phase
of the Enrollment Engine (Table 3-1), and the refresh count of the Rogue Monitor (Table 6-1). `refreshDue` is the model's own:
the refresh count would have reached 100 and its LASER_OFF_REFRESH has not been taken (R111). The bank role is `secondOpen`
(which bank is open) and `closedWaiting`. -/
structure Home where
  state : HomeState
  identity : Option Identity
  account : Option Account
  tree : Option Tree
  tag : Option Nat
  g : Nat
  p : Nat
  report : Nat
  since : Nat
  deferred : Bool
  missed : Nat
  lostTimer : Nat
  eq : Option Nat
  level : Nat
  drift : Int
  attempts : Nat
  samples : List Sample
  soak : Nat
  score : Nat
  silence : Silence
  bankA : Bank
  bankB : Bank
  secondOpen : Bool
  closedWaiting : Bool
  pending : Quad Nat
  discarded : Nat
  movedFrom : Option Station
  forwardTo : Option Station
  retention : Nat
  leaveReason : Option LeaveReason
  claim : Option ClaimContext
  phase : Option MeasurePhase
  refresh : Option Nat
  refreshDue : Bool
deriving DecidableEq, Repr

/-- A FREE entry: every field at its FREE value (R1). -/
def Home.free : Home :=
  { state := .free, identity := none, account := none, tree := none, tag := none, g := 0, p := 0, report := 0, since := 0,
    deferred := false, missed := 0, lostTimer := 0, eq := none, level := 0, drift := 0, attempts := 0, samples := [], soak := 0,
    score := 0, silence := .none, bankA := Bank.cleared, bankB := Bank.cleared, secondOpen := false, closedWaiting := false,
    pending := Quad.fill 0, discarded := 0, movedFrom := none, forwardTo := none, retention := 0, leaveReason := none,
    claim := none, phase := none, refresh := none, refreshDue := false }

/-! ## Trees: maps, control messages, searches -/

/-- The place of a tag in its tree's tag table (1.3). -/
inductive TagPlace where
  | free
  | held (h : HomeIndex)
  | draining
deriving DecidableEq, Repr

/-- A window of a grant map: whose it is, and the map entry's tag, start block and length (R81). -/
structure Window where
  home : HomeIndex
  tag : Nat
  start : Nat
  length : Nat
deriving DecidableEq, Repr

/-- What a zone is for; a MEASURE zone names its candidate and the candidate's tag (R44). -/
inductive ZonePurpose where
  | discover
  | measure (h : HomeIndex) (tag : Nat)
deriving DecidableEq, Repr

/-- A zone: its purpose and its length Z in blocks. -/
structure Zone where
  purpose : ZonePurpose
  length : Nat
deriving DecidableEq, Repr

/-- A grant map with the reservations of its round: the windows, the zone and whether the quiet window is reserved (R25, R72). -/
structure GrantMap where
  windows : List Window
  zone : Option Zone
  quiet : Bool
deriving DecidableEq, Repr

/-- An empty map: no window, no zone and no quiet window (R42). -/
def GrantMap.empty : GrantMap := ⟨[], none, false⟩

/-- Who queued a DELAY-SET (Table 2-2): the Enrollment Engine for an accepted attempt, or the Tree Line for drift. -/
inductive DelaySource where
  | enrollment | drift
deriving DecidableEq, Repr

/-- A control message's type and what it carries beside its tag (Table 2-2). -/
inductive CtlKind where
  | silence (on : Bool)
  | laserOff
  | tagAssign (identity : Identity)
  | delaySet (eq : Nat) (source : DelaySource)
  | laserOn
  | drop
deriving DecidableEq, Repr

/-- A control message: type, tag and sending count (R26). `awaited` marks a message among the outstanding messages of the
tree's running probe (Table 7-1, R122, R127). -/
structure CtlMsg where
  kind : CtlKind
  tag : Nat
  count : Nat
  awaited : Bool
deriving DecidableEq, Repr

/-- What started a search (Table 7-1). -/
inductive SearchCause where
  | dark | request
deriving DecidableEq, Repr

/-- What a probe is for (Table 7-1). -/
inductive SearchStep where
  | baseline | descend | confirm | recheck | final
deriving DecidableEq, Repr

/-- Whether a probe is settling or observing (Table 7-1). -/
inductive ProbePhase where
  | settling | observing
deriving DecidableEq, Repr

/-- A place of the candidate list: the home index and the identity its entry held at the start (Table 7-1). -/
structure Candidate where
  home : HomeIndex
  identity : Identity
deriving DecidableEq, Repr

/-- A trail entry: first position, count and the probe number at which it was pushed (Table 7-1). -/
structure TrailEntry where
  first : Nat
  count : Nat
  probe : Nat
deriving DecidableEq, Repr

/-- How a search ended (Table 7-3). -/
inductive SearchOutcome where
  | clear | found | unresolved | aborted
deriving DecidableEq, Repr

/-- The reason of an end, where Table 7-3 gives one. -/
inductive SearchReason where
  | none | foreign | candidates | limit | request | stop
deriving DecidableEq, Repr

/-- The last outcome of a search context (Table 7-1). -/
structure LastSearch where
  outcome : SearchOutcome
  reason : SearchReason
  cause : SearchCause
  probes : Nat
  n : Nat
  found : Nat
deriving DecidableEq, Repr

/-- One search context (Table 7-1). n is the length of `candidates`. The trail is kept newest first. The outstanding messages
are the control messages marked `awaited`, in the tree's queue and among its held messages. -/
structure SearchContext where
  running : Bool
  cause : SearchCause
  candidates : List Candidate
  step : SearchStep
  first : Nat
  count : Nat
  trail : List TrailEntry
  probe : Nat
  phase : ProbePhase
  settle : Nat
  observations : Nat
  dark : Nat
  target : List Nat
  found : List HomeIndex
  foundCount : Nat
  last : Option LastSearch
deriving DecidableEq, Repr

/-- An IDLE context with the last outcome given (R118). The cause, step and phase of an IDLE context are never read; they stand at the first
name of their lists (assumption 4). -/
def SearchContext.idle (last : Option LastSearch) : SearchContext :=
  { running := false, cause := .dark, candidates := [], step := .baseline, first := 0, count := 0, trail := [], probe := 0,
    phase := .settling, settle := 0, observations := 0, dark := 0, target := [], found := [], foundCount := 0, last := last }

/-- The figures of a tree's latest build (Table 4-1). -/
structure LastBuild where
  x : Nat
  a : Nat
  p : Nat
  placed : Nat
  deferred : Nat
deriving DecidableEq, Repr

/-- Everything kept once per tree: the Tree Line (chapter 2), the tag table and guarantee pool of the Home Table (1.3), the capture list
and discovery count of the Enrollment Engine (Table 3-1), the Round Scheduler's figures (Table 4-1), the Rogue Monitor's counters
(Tables 6-1 and 6-3) and the search context (chapter 7).
`held` holds the control messages that producers keep while the queue has no room (R28, R109, R122), oldest first. The model's own fields
are `windowsTaken`, `zoneTaken`, `quietTaken` and `lastBlockLit` (how much of the round has been received, and whether the latest window
received was lit in its last block, R35), `searchSinceMap` (a search has started since the map point, R45), and `lateQuiet` (the reserved quiet
window of the round before this one has not been handed over yet, R123; the Bool says that it is one of the observed rounds of a probe). While
`lateQuiet` is present `quietTaken` stands set, so that this round's own quiet window waits behind it. -/
structure TreeLine where
  running : Bool
  active : GrantMap
  shadow : GrantMap
  queue : List CtlMsg
  held : List CtlMsg
  windowsTaken : Nat
  zoneTaken : Bool
  quietTaken : Bool
  lateQuiet : Option Bool
  lastBlockLit : Bool
  searchSinceMap : Bool
  badBursts : Nat
  badPayloads : Nat
  lostMessages : Nat
  tags : Vector TagPlace 62
  pool : Nat
  captures : List Identity
  discovery : Nat
  rotation : HomeIndex
  lastBuild : LastBuild
  deferredHomes : Nat
  darkCounter : Nat
  holdOff : Nat
  overruns : Nat
  earlies : Nat
  drifts : Nat
  overlaps : Nat
  darks : Nat
  isolations : Nat
  darkSearches : Nat
  search : SearchContext
deriving DecidableEq, Repr

/-- A tree after a pin reset: STOPPED with empty maps and queue (R24), every tag free and an empty pool (R2), no capture and a discovery count
of 0 (R43), the Scheduler's figures 0 (R68), the Rogue Monitor's 0 (R99) and an IDLE search context (R118). -/
def TreeLine.atReset : TreeLine :=
  { running := false, active := GrantMap.empty, shadow := GrantMap.empty, queue := [], held := [], windowsTaken := 0,
    zoneTaken := false, quietTaken := false, lateQuiet := none, lastBlockLit := false, searchSinceMap := false, badBursts := 0, badPayloads := 0,
    lostMessages := 0, tags := Vector.replicate 62 .free, pool := 0, captures := [], discovery := 0, rotation := 0,
    lastBuild := ⟨0, 0, 0, 0, 0⟩, deferredHomes := 0, darkCounter := 0, holdOff := 0, overruns := 0, earlies := 0, drifts := 0,
    overlaps := 0, darks := 0, isolations := 0, darkSearches := 0, search := SearchContext.idle none }

/-! ## Station state -/

/-- The round clock (R23). `number` is the round number; the three positions follow. The model's own marks `epochDue`, `shareDue` and
`secondDue` say that the latest boundary was an epoch end, a share period end or a second tick whose command has not been taken, and
`mapPassed` that this round's map point has been taken. -/
structure RoundClock where
  number : BitVec 32
  round : Nat
  epochInShare : Nat
  epochInSecond : Nat
  epochDue : Bool
  shareDue : Bool
  secondDue : Bool
  mapPassed : Bool
deriving DecidableEq, Repr

/-- Who asked for a walk and what it needs to act on the result (1.7). -/
inductive WalkSource where
  | capture (t : Tree)
  | claim (claimant : Station) (index : Byte)
  | release (claimant : Station)
  | find (station : Station) (num : BitVec 16)
deriving DecidableEq, Repr

/-- A request of the identity search engine's queue (1.7). -/
structure WalkRequest where
  source : WalkSource
  identity : Identity
  start : Nat
  count : Nat
deriving DecidableEq, Repr

/-- A FIND's match as it was examined (R21): the entry, its state, its tree and its forward-to. -/
structure FindMatch where
  home : HomeIndex
  state : HomeState
  tree : Option Tree
  forwardTo : Option Station
deriving DecidableEq, Repr

/-- How far the FIND walk at the head of the search queue has come (R21): how many entries of its range it has examined, and the match it found
among them. The model's own: the spec gives the walk and not the numbers that hold its progress. -/
structure FindProgress where
  examined : Nat
  found : Option FindMatch
deriving DecidableEq, Repr

/-- A FIND walk that has examined nothing yet. -/
def FindProgress.start : FindProgress := ⟨0, none⟩

/-- An entry of the admission list (Table 3-1). -/
structure Admission where
  identity : Identity
  account : Account
  g : Nat
  p : Nat
deriving DecidableEq, Repr

/-- Why an identity is in the unknown list (Table 3-5). -/
inductive UnknownReason where
  | notAdmitted | tableFull | tagsFull | capacity | noReply | outOfReach
deriving DecidableEq, Repr

/-- An entry of the unknown list (Table 3-1). -/
structure Unknown where
  identity : Identity
  tree : Tree
  reason : UnknownReason
  seconds : Nat
deriving DecidableEq, Repr

/-- The Enrollment Engine's lists, oldest first, and its counters (Tables 3-1 and 3-6). -/
structure Enrollment where
  admission : List Admission
  barred : List Identity
  unknown : List Unknown
  collisions : Nat
  extraCaptures : Nat
  barredCaptures : Nat
  ignoredCaptures : Nat
  droppedAdmissions : Nat
  unmatchedFrames : Nat
deriving DecidableEq, Repr

/-- A place of the peer view: F, D and age (Table 5-1). -/
structure Peer where
  f : Nat
  d : Nat
  age : Nat
deriving DecidableEq, Repr

/-- District Share (Table 5-1). The uplink capacity C is the configuration's. -/
structure ShareState where
  fSelf : Nat
  dSelf : Nat
  peers : Vector (Option Peer) 16
  heldNotice : Option (Nat × Nat)
  heldOvercommit : Option (Nat × Nat × Nat)
  e : Nat
  overCommitted : Bool
  fSum : Nat
  dSum : Nat
  n : Nat
  s : Nat
  recorded : Nat
  ignored : Nat
deriving DecidableEq, Repr

/-- A tariff band table entry (Table 8-2). The weekday mask is a byte, bit d for weekday d. -/
structure BandEntry where
  enabled : Bool
  start : TimeOfDay
  stop : TimeOfDay
  mask : Byte
  band : Band
deriving DecidableEq, Repr

/-- A disabled entry: times 00:00:00, mask empty, band 0 (R137). -/
def BandEntry.disabled : BandEntry := ⟨false, TimeOfDay.zero, TimeOfDay.zero, 0, 0⟩

/-- The latest clock step: AHEAD or BACK with its size in seconds (Table 8-1). -/
inductive ClockStep where
  | ahead (seconds : Nat)
  | back (seconds : Nat)
deriving DecidableEq, Repr

/-- The Calendar Clock (Table 8-1). `closesFired` is the model's own: the close moments of closes that have fired and whose PERIOD_CLOSE
has not been taken, oldest first (R145). -/
structure Calendar where
  set : Bool
  now : Moment
  weekday : Nat
  band : Band
  table : Quad BandEntry
  waiting : Option (Quad BandEntry)
  closeTime : TimeOfDay
  nextClose : Option Moment
  stepCount : Nat
  lastStep : Option ClockStep
  closesFired : List Moment
deriving DecidableEq, Repr

/-- A billing record (Table 9-3). -/
structure Record where
  number : BitVec 16
  home : HomeIndex
  identity : Option Identity
  account : Option Account
  periodStart : Option Moment
  periodEnd : Option Moment
  days : Nat
  time : TimeOfDay
  spans : Nat
  up : Quad Nat
  down : Quad Nat
  overUp : Nat
  overDown : Nat
  withheld : Nat
  discarded : Nat
  pendingIn : Nat
  pendingOut : Nat
  upResidue : Quad Nat
  downResidue : Quad Nat
  final : Bool
  clockUnset : Bool
  clockStep : Bool
  saturated : Bool
  isolatedInPeriod : Bool
  leaveReason : Option LeaveReason
  movedFrom : Option Station
  movedTo : Option Station
deriving DecidableEq, Repr

/-- The emission walk's state (Table 9-2). -/
inductive WalkState where
  | idle | walking | blocked
deriving DecidableEq, Repr

/-- The emission walk: its pointer, state and pass count (Table 9-2). -/
structure EmissionWalk where
  pointer : HomeIndex
  state : WalkState
  passes : Nat
deriving DecidableEq, Repr

/-- Metering's station state (Table 9-2) but for the walk. `heldFull` is the held HOLD_FULL with its depth, head and tail record numbers. -/
structure Metering where
  hold : List Record
  nextNumber : BitVec 16
  heldFull : Option (Nat × BitVec 16 × BitVec 16)
  enqueued : Nat
  finals : Nat
  skippedSwaps : Nat
  holdFulls : Nat
deriving DecidableEq, Repr

/-! ## The district link -/

/-- A request's status (Table 10-3). -/
inductive Status where
  | ok | notReady | rank | range | absent | moved | state | busy | full | capacity | empty | notHead | notFound
deriving DecidableEq, Repr

/-- Why an entry was isolated, in EVENT ISOLATED (Table 12-3). -/
inductive IsolateCause where
  | score | search
deriving DecidableEq, Repr

/-- The kinds of evidence charged to a home (6.2). -/
inductive Evidence where
  | overrun | early | drift | identity
deriving DecidableEq, Repr

/-- What an IDENTITY_CONFLICT names beside the entry: its cause, with the capturing tree or the other station (R175). -/
inductive ConflictCause where
  | localTree (t : Tree)
  | objected (station : Station)
  | late (station : Station)
  | mutualClaim (station : Station)
deriving DecidableEq, Repr

/-- An event and what it carries (R175, Table 12-3). -/
inductive EventKind where
  | isolated (h : HomeIndex) (identity : Option Identity) (account : Option Account) (tree : Option Tree) (tag : Option Nat)
      (score : Nat) (cause : IsolateCause) (evidence : Option Evidence)
  | identityConflict (identity : Identity) (h : HomeIndex) (tree : Option Tree) (cause : ConflictCause)
  | searchEnd (t : Tree) (last : LastSearch) (found : List Candidate)
  | overcommit (c fSum n : Nat)
  | holdFull (depth : Nat) (head tail : BitVec 16)
deriving DecidableEq, Repr

/-- What an OBJECT says (3.4). -/
inductive ObjectKind where
  | held | wait
deriving DecidableEq, Repr

/-- A frame's class and content, fixed when it is queued (R165). -/
inductive Content where
  | claim (identity : Identity) (t : Tree) (index : HomeIndex)
  | object (identity : Identity) (index : Byte) (kind : ObjectKind)
  | release (identity : Identity) (releaser claimant : Station) (index : Byte)
  | share (f d : Nat)
  | event (e : EventKind)
  | response (num : BitVec 16) (kind : Byte) (status : Status) (part : Byte) (body : List Byte)
deriving DecidableEq, Repr

/-- A frame of the transmit queue. `orphan` is the model's own: the CLAIM was on the line when its entry left CLAIMING, so the report of its
end is no longer about a claim (R55, R169). -/
structure Frame where
  dest : Byte
  content : Content
  orphan : Bool
deriving DecidableEq, Repr

/-- The sender phase (Table 10-1). BACKOFF holds the back-off drawn, in bit times (R166). -/
inductive SenderPhase where
  | idle | gap | sending | jam
  | backoff (bits : Nat)
deriving DecidableEq, Repr

/-- The District Link Controller (Table 10-1) and its counters (Table 10-4). The transmit queue is the current frame, with its attempt
count, together with `waiting`: urgent frames ahead of routine, each priority oldest first. The rank table is the configuration's. -/
structure Link where
  current : Option (Frame × Nat)
  waiting : List Frame
  phase : SenderPhase
  framesSent : Nat
  framesReceived : Nat
  badFrames : Nat
  unknownClasses : Nat
  rankDiscards : Nat
  collisions : Nat
  collisionDrops : Nat
  urgentDrops : Nat
  responsesDropped : Nat
  eventsDropped : Nat
  requestsRefused : Nat
deriving DecidableEq, Repr

/-- What a command put on the part's faces. The model's own: the spec gives these as things the part sends, not as state. The bytes of a frame go on
the district link least significant bit first (`lineBits`, R180). -/
inductive Output where
  | header (t : Tree) (bytes : List Byte)
  | upstreamPacket (h : HomeIndex) (packet : List Byte)
  | downstreamPacket (t : Tree) (home : HomeIndex) (packet : List Byte)
  | attempt
  | frame (bytes : List Byte)
  | jam
deriving DecidableEq, Repr

/-! ## The state -/

/-- The PX416. The start-up state is RUN when the configuration is present and WAIT_CONFIG when it is absent (Table 11-1).
`findWalk` is the progress of a FIND walk, `out` what the latest command put on the part's faces, in order, and `pending` the commands waiting to be
taken, first in first out: the three are the model's own. -/
structure State where
  own : Station
  mgt : Station
  config : Option Config
  clock : RoundClock
  homes : Vector Home 128
  forwardList : List HomeIndex
  walks : List WalkRequest
  findWalk : FindProgress
  walkDrops : Nat
  trees : Quad TreeLine
  enrol : Enrollment
  demandSum : Nat
  eUsed : Nat
  share : ShareState
  identities : Nat
  discardedEvidence : Nat
  cal : Calendar
  meter : Metering
  emission : EmissionWalk
  link : Link
  refusedDownstream : Nat
  out : List Output
  pending : List Instr
deriving DecidableEq, Repr

/-- The part at the end of a pin reset with the straps given: WAIT_CONFIG (R176), round 0 (R23), an empty Home Table (R2), four trees as
R24, R43, R68, R99 and R118 give them, District Share as R88, the Calendar Clock as R137, Metering as R148 and the link controller as
R164. The E used at the latest map point has no stated reset value; it is 0 (assumption 4). -/
def State.afterReset (stn mgt : Station) : State :=
  { own := stn
    mgt := mgt
    config := none
    clock := ⟨0, 0, 0, 0, false, false, false, false⟩
    homes := Vector.replicate 128 Home.free
    forwardList := []
    walks := []
    findWalk := FindProgress.start
    walkDrops := 0
    trees := Quad.fill TreeLine.atReset
    enrol := ⟨[], [], [], 0, 0, 0, 0, 0, 0⟩
    demandSum := 0
    eUsed := 0
    share := ⟨0, 0, Vector.replicate 16 none, none, none, 32, false, 0, 0, 0, 0, 0, 0⟩
    identities := 0
    discardedEvidence := 0
    cal := ⟨false, ⟨0, 1, 1, TimeOfDay.zero⟩, 0, 0, Quad.fill BandEntry.disabled, none, TimeOfDay.zero, none, 0, none, []⟩
    meter := ⟨[], 0, none, 0, 0, 0, 0⟩
    emission := ⟨0, .idle, 0⟩
    link := ⟨none, [], .idle, 0, 0, 0, 0, 0, 0, 0, 0, 0, 0, 0⟩
    refusedDownstream := 0
    out := []
    pending := [] }

/-- The machine right after reset. The spec gives the strap pins no value; the straps here read STN 4 and MGT 0, the numbers of the worked
start-up of 11.3, so that the part can be configured (assumption 3). -/
def State.reset : State := State.afterReset 4 0

end Sys2Proof.Machine
end

