-- ==== Sys2Proof/Machine/Ops.lean ====
section
/-! DEFINITION. The named operations every meaning is written over: reading and replacing one home, one tree or one block's state, and the predicates on a home's state that several chapters share. -/

namespace Sys2Proof.Machine

/-- RUN: CONFIGURE has been accepted (Table 11-1). -/
def State.inRun (s : State) : Bool := s.config.isSome

/-- The home record at an index. -/
def State.home (s : State) (h : HomeIndex) : Home := s.homes[h]

/-- The state with the record at an index replaced. -/
def State.setHome (s : State) (h : HomeIndex) (x : Home) : State := { s with homes := s.homes.set h x }

/-- The state with the record at an index changed. -/
def State.onHome (s : State) (h : HomeIndex) (f : Home → Home) : State := s.setHome h (f (s.home h))

/-- The home indexes in increasing order. -/
def homeIndexes : List HomeIndex := List.finRange 128

/-- The state with every record changed at once. -/
def State.mapHomes (s : State) (f : HomeIndex → Home → Home) : State :=
  { s with homes := ⟨⟨(List.finRange 128).map fun h => f h (s.home h)⟩, by simp⟩ }

/-- The state of one tree. -/
def State.tree (s : State) (t : Tree) : TreeLine := s.trees.get t.idx

/-- The state with one tree's state replaced. -/
def State.setTree (s : State) (t : Tree) (x : TreeLine) : State := { s with trees := s.trees.set t.idx x }

/-- The state with one tree's state changed. -/
def State.onTree (s : State) (t : Tree) (f : TreeLine → TreeLine) : State := s.setTree t (f (s.tree t))

/-- The state with the Enrollment Engine's lists and counters changed. -/
def State.onEnrol (s : State) (f : Enrollment → Enrollment) : State := { s with enrol := f s.enrol }

/-- The state with the link controller changed. -/
def State.onLink (s : State) (f : Link → Link) : State := { s with link := f s.link }

/-- The state with District Share changed. -/
def State.onShare (s : State) (f : ShareState → ShareState) : State := { s with share := f s.share }

/-- The state with Metering's station state changed. -/
def State.onMeter (s : State) (f : Metering → Metering) : State := { s with meter := f s.meter }

/-- The state with the Calendar Clock changed. -/
def State.onCal (s : State) (f : Calendar → Calendar) : State := { s with cal := f s.cal }

/-- The state with the round clock changed. -/
def State.onClock (s : State) (f : RoundClock → RoundClock) : State := { s with clock := f s.clock }

/-- Something put on the part's faces. -/
def State.emit (s : State) (o : Output) : State := { s with out := s.out ++ [o] }

/-- The state in which a command begins: nothing put on the faces by it yet. -/
def State.begin (s : State) : State := { s with out := [] }

/-- The outcome of a command whose effect is the state change given. -/
def State.does (s : State) (f : State → State) : Host.Outcome State Fault Refusal := .next (f s.begin)

/-- In service: SOAKING, ONLINE or LOST (Table 1-2). -/
def inService : HomeState → Bool
  | .soaking | .online | .lost => true
  | .free | .claiming | .measuring | .isolated | .closing | .forward => false

/-- The states whose g counts in the tree's guarantee pool (R8). -/
def inPool : HomeState → Bool
  | .claiming | .measuring | .soaking | .online | .lost | .isolated => true
  | .free | .closing | .forward => false

/-- The entry is in service on a tree. -/
def Home.servedOn (x : Home) (t : Tree) : Bool := inService x.state && decide (x.tree = some t)

/-- The entry stands in a state on a tree. -/
def Home.standsOn (x : Home) (st : HomeState) (t : Tree) : Bool := decide (x.state = st) && decide (x.tree = some t)

/-- The entry that holds an identity: the first non-FREE one in index order (R21). -/
def State.holder (s : State) (id : Identity) : Option HomeIndex :=
  homeIndexes.find? fun h => decide ((s.home h).state ≠ .free) && decide ((s.home h).identity = some id)

/-- The rank of a station, when the rank table is known (R164). -/
def State.rankOf (s : State) (st : Station) : Option Rank := s.config.map fun c => c.ranks[st]

end Sys2Proof.Machine
end

