-- ==== Sys2Proof/Machine/Calendar.lean ====
section
/-! DEFINITION. The Calendar Clock's arithmetic (08_calendar_clock_and_tariff_bands.md): moments, the advance of one second, band matching, the next close moment, the close test and period duration. -/

namespace Sys2Proof

/-- Leap years: year mod 4 = 0 (Table 8-1). -/
def leapYear (year : Nat) : Bool := decide (year % 4 = 0)

/-- The length of a month in a year (8.1). -/
def monthLength (year month : Nat) : Nat :=
  match month with
  | 2 => if leapYear year then 29 else 28
  | 4 | 6 | 9 | 11 => 30
  | _ => 31

/-- The days of the months before a month in a year. -/
def daysBefore (year : Nat) : Nat → Nat
  | 0 => 0
  | 1 => 0
  | m + 1 => daysBefore year m + monthLength year m

/-- The day number of a date, 1 January of year 00 being day 0 (R136). -/
def Moment.dayNumber (m : Moment) : Nat :=
  365 * m.year + (m.year + 3) / 4 + daysBefore m.year m.month + (m.day - 1)

/-- Seconds of a time of day. -/
def timeSeconds (t : TimeOfDay) : Nat := 3600 * t.hh + 60 * t.mm + t.ss

/-- The moment number (R136). -/
def Moment.number (m : Moment) : Nat := 86400 * m.dayNumber + timeSeconds m.time

/-- A valid time of day (R143). -/
def timeValid (t : TimeOfDay) : Bool := decide (t.hh ≤ 23) && decide (t.mm ≤ 59) && decide (t.ss ≤ 59)

/-- A valid date and time (R139). -/
def Moment.valid (m : Moment) : Bool :=
  decide (m.year ≤ 99) && decide (1 ≤ m.month) && decide (m.month ≤ 12) && decide (1 ≤ m.day) &&
    decide (m.day ≤ monthLength m.year m.month) && timeValid m.time

/-- The date that follows, by the carries of R138, at the same time of day. -/
def Moment.nextDate (m : Moment) : Moment :=
  if m.day < monthLength m.year m.month then { m with day := m.day + 1 }
  else if m.month < 12 then { m with day := 1, month := m.month + 1 }
  else { m with day := 1, month := 1, year := if m.year < 99 then m.year + 1 else 0 }

/-- One second later within the day, with whether the day has passed (R138). -/
def timeAdvance (t : TimeOfDay) : TimeOfDay × Bool :=
  if t.ss < 59 then ({ t with ss := t.ss + 1 }, false)
  else if t.mm < 59 then ({ t with ss := 0, mm := t.mm + 1 }, false)
  else if t.hh < 23 then ({ hh := t.hh + 1, mm := 0, ss := 0 }, false)
  else (TimeOfDay.zero, true)

/-- One second later (R138). -/
def Moment.advance (m : Moment) : Moment :=
  match timeAdvance m.time with
  | (t, false) => { m with time := t }
  | (t, true) => { m.nextDate with time := t }

/-- The weekday after one second: it rises at midnight and returns from 6 to 0 (R138). -/
def weekdayAdvance (m : Moment) (weekday : Nat) : Nat :=
  if (timeAdvance m.time).2 then (if weekday < 6 then weekday + 1 else 0) else weekday

end Sys2Proof

namespace Sys2Proof.Machine

/-- The span of a band entry holds a time of day: it wraps past midnight when start is later than end (R141). -/
def BandEntry.spans (e : BandEntry) (t : TimeOfDay) : Bool :=
  let a := timeSeconds e.start
  let b := timeSeconds e.stop
  let x := timeSeconds t
  if a ≤ b then decide (a ≤ x) && decide (x ≤ b) else decide (a ≤ x) || decide (x ≤ b)

/-- An entry matches a reading (R141). -/
def BandEntry.matchesAt (e : BandEntry) (weekday : Nat) (t : TimeOfDay) : Bool :=
  e.enabled && e.mask.getLsbD weekday && e.spans t

/-- The band of the first entry that matches, or 0 (R142). -/
def bandAt (table : Quad BandEntry) (weekday : Nat) (t : TimeOfDay) : Band :=
  match table.toList.find? fun e => e.matchesAt weekday t with
  | some e => e.band
  | none => 0

/-- The calendar with its current band evaluated (R142). -/
def Calendar.evaluate (c : Calendar) : Calendar := { c with band := bandAt c.table c.weekday c.now.time }

/-- The earliest moment strictly after a moment whose time of day is the close time (R144). -/
def closeAfter (m : Moment) (close : TimeOfDay) : Moment :=
  if timeSeconds m.time < timeSeconds close then { m with time := close } else { m.nextDate with time := close }

/-- The calendar with its next close moment computed from the time it holds (R144). -/
def Calendar.computeClose (c : Calendar) : Calendar := { c with nextClose := some (closeAfter c.now c.closeTime) }

/-- The close test against a next close moment; the seconds of a hundred years are added when the clock holds year 99 and the
close lies in year 00 (R145). -/
def closeReached (now close : Moment) : Bool :=
  decide (close.number + (if now.year = 99 ∧ close.year = 0 then 3155760000 else 0) ≤ now.number)

/-- The close test (R145): when it finds the next close moment reached, a close fires with the time held as its close moment and the next close
moment is computed. -/
def Calendar.closeTest (c : Calendar) : Calendar :=
  match c.nextClose with
  | none => c
  | some close =>
    if closeReached c.now close then { c with closesFired := c.closesFired ++ [c.now] }.computeClose else c

/-- The waiting table becomes the table in force (R143). -/
def Calendar.installTable (c : Calendar) : Calendar :=
  match c.waiting with
  | none => c
  | some t => { c with table := t, waiting := none }

/-- The Calendar Clock at a second tick (R138): a waiting table is installed; a set clock advances, evaluates the band and makes the close test. -/
def Calendar.tick (c : Calendar) : Calendar :=
  let c := c.installTable
  if c.set then
    ({ c with now := c.now.advance, weekday := weekdayAdvance c.now c.weekday }.evaluate).closeTest
  else c

/-- The time of the clock, or unset (R137). -/
def Calendar.reading (c : Calendar) : Option Moment := if c.set then some c.now else none

/-- Whether a TIME is a step: the clock was set and the two moments differ by more than 1 second (R140, 1). -/
def Calendar.isStep (c : Calendar) (m : Moment) : Bool :=
  c.set && (decide (c.now.number + 1 < m.number) || decide (m.number + 1 < c.now.number))

/-- The step figures after a TIME (R140, 1). -/
def Calendar.markStep (c : Calendar) (m : Moment) : Calendar :=
  if c.isStep m then
    { c with
      stepCount := bump c.stepCount
      lastStep := some (if c.now.number < m.number then .ahead (m.number - c.now.number)
                        else .back (c.now.number - m.number)) }
  else c

/-- The Calendar Clock's part of an accepted TIME: the step figures, the fields, the band, the close test and the next close moment (R140). -/
def Calendar.apply (c : Calendar) (m : Moment) (weekday : Nat) : Calendar :=
  let c := { c.markStep m with now := m, weekday := weekday, set := true }
  c.evaluate.closeTest.computeClose

/-- The duration from a start to an end: days and a time of day; 0 days 00:00:00 when the end is before the start (R146). -/
def duration (start stop : Moment) : Nat × TimeOfDay :=
  if stop.number < start.number then (0, TimeOfDay.zero)
  else
    let a := timeSeconds start.time
    let b := timeSeconds stop.time
    let days := stop.dayNumber - start.dayNumber
    let part := if b < a then b + 86400 - a else b - a
    (if b < a then days - 1 else days, ⟨part / 3600, part / 60 % 60, part % 60⟩)

end Sys2Proof.Machine
end

