-- ==== Sys2Proof/Machine/Formats.lean ====
section
/-! DEFINITION. The encoding of everything the part sends (R180, 12_frame_formats_and_signals.md): codes of named values, fields, control messages, the round header, frame payloads and the billing record. -/

namespace Sys2Proof.Machine

/-- An absent value: every bit of its field set (R180). -/
def absent (k : Nat) : List Byte := List.replicate k 0xFF#8

/-- A number that may be absent, in `k` bytes (R180). -/
def optBE (k : Nat) : Option Nat → List Byte
  | some n => toBE k n
  | none => absent k

/-- A set-or-clear value: 0 clear, 1 set (R180). -/
def flagByte (b : Bool) : List Byte := [if b then 1 else 0]

/-- A station that may be absent (R180). -/
def optStation (o : Option Station) : List Byte := optBE 1 (o.map Fin.val)

/-- A tree that may be absent: 0 to 3 for A to D (R180). -/
def optTree (o : Option Tree) : List Byte := optBE 1 (o.map fun t => t.idx.val)

/-- An identity that may be absent. -/
def optIdentity (o : Option Identity) : List Byte := optBE 8 (o.map BitVec.toNat)

/-- An account that may be absent. -/
def optAccount (o : Option Account) : List Byte := optBE 4 (o.map BitVec.toNat)

/-- A time of day: three bytes (R180). -/
def timeBytes (t : TimeOfDay) : List Byte := toBE 1 t.hh ++ toBE 1 t.mm ++ toBE 1 t.ss

/-- A moment: six bytes, all 0xFF when unset (R180). -/
def momentBytes : Option Moment → List Byte
  | some m => toBE 1 m.year ++ toBE 1 m.month ++ toBE 1 m.day ++ timeBytes m.time
  | none => absent 6

/-- A decimal meter in `k` bytes, two digits to a byte, most significant digit first (R180). -/
def toBCD : Nat → Nat → List Byte
  | 0, _ => []
  | k + 1, n => BitVec.ofNat 8 (n / 100 ^ k % 100 / 10 * 16 + n / 100 ^ k % 10) :: toBCD k n

/-- A number whose range reaches below 0: one byte in two's complement (R180). -/
def signedByte (x : Int) : List Byte := [BitVec.ofInt 8 x]

/-- The place of a home state in the order of Table 1-1 (R180). -/
def stateCode : HomeState → Nat
  | .free => 0
  | .claiming => 1
  | .measuring => 2
  | .soaking => 3
  | .online => 4
  | .lost => 5
  | .isolated => 6
  | .closing => 7
  | .forward => 8

/-- The leave reason of a record: 0 none (Table 12-5). -/
def leaveCode : Option LeaveReason → Nat
  | none => 0
  | some .management => 1
  | some .lostTimeout => 2
  | some .moved => 3

/-- NONE or SEARCH, in that order (Table 1-1, R180). -/
def silenceCode : Silence → Nat
  | .none => 0
  | .search => 1

/-- The unknown-list reasons in the order of Table 3-5 (R180). -/
def unknownCode : UnknownReason → Nat
  | .notAdmitted => 0
  | .tableFull => 1
  | .tagsFull => 2
  | .capacity => 3
  | .noReply => 4
  | .outOfReach => 5

/-- The walk states in the order of Table 9-2 (R180). -/
def walkCode : WalkState → Nat
  | .idle => 0
  | .walking => 1
  | .blocked => 2

/-- The search steps in the order of Table 7-1 (R180). -/
def stepCode : SearchStep → Nat
  | .baseline => 0
  | .descend => 1
  | .confirm => 2
  | .recheck => 3
  | .final => 4

/-- SETTLING or OBSERVING, in that order (Table 7-1, R180). -/
def phaseCode : ProbePhase → Nat
  | .settling => 0
  | .observing => 1

/-- 1 DARK, 2 REQUEST (Table 12-3). -/
def causeCode : SearchCause → Nat
  | .dark => 1
  | .request => 2

/-- 1 CLEAR, 2 FOUND, 3 UNRESOLVED, 4 ABORTED (Table 12-3). -/
def outcomeCode : SearchOutcome → Nat
  | .clear => 1
  | .found => 2
  | .unresolved => 3
  | .aborted => 4

/-- 0 none, 1 FOREIGN, 2 CANDIDATES, 3 LIMIT, 4 REQUEST, 5 STOP (Table 12-3). -/
def reasonCode : SearchReason → Nat
  | .none => 0
  | .foreign => 1
  | .candidates => 2
  | .limit => 3
  | .request => 4
  | .stop => 5

/-- The evidence of EVENT ISOLATED: 0 none (Table 12-3). -/
def evidenceCode : Option Evidence → Nat
  | none => 0
  | some .overrun => 1
  | some .early => 2
  | some .drift => 3
  | some .identity => 4

/-- The status codes of a RESPONSE (12.3). -/
def statusCode : Status → Nat
  | .ok => 0
  | .notReady => 1
  | .rank => 2
  | .range => 3
  | .absent => 4
  | .moved => 5
  | .state => 6
  | .busy => 7
  | .full => 8
  | .capacity => 9
  | .empty => 10
  | .notHead => 11
  | .notFound => 12

/-- The cause and the other party of an IDENTITY_CONFLICT (Table 12-3). -/
def conflictBytes : ConflictCause → List Byte
  | .localTree t => [1] ++ toBE 1 t.idx.val
  | .objected st => [2] ++ toBE 1 st.val
  | .late st => [3] ++ toBE 1 st.val
  | .mutualClaim st => [4] ++ toBE 1 st.val

/-- The payload of an EVENT (Table 12-3). -/
def eventBytes : EventKind → List Byte
  | .isolated h id acc tree tag score cause evidence =>
    [1] ++ toBE 1 h.val ++ optIdentity id ++ optAccount acc ++ optTree tree ++ optBE 1 tag ++ toBE 1 score ++
      [match cause with | .score => 1 | .search => 2] ++ toBE 1 (evidenceCode evidence)
  | .identityConflict id h tree cause =>
    [2] ++ toBE 8 id.toNat ++ toBE 1 h.val ++ optTree tree ++ conflictBytes cause
  | .searchEnd t last found =>
    [3] ++ toBE 1 t.idx.val ++ toBE 1 (outcomeCode last.outcome) ++ toBE 1 (reasonCode last.reason) ++
      toBE 1 (causeCode last.cause) ++ toBE 1 last.probes ++ toBE 1 last.n ++ toBE 1 last.found ++
      found.flatMap fun c => toBE 1 c.home.val ++ toBE 8 c.identity.toNat
  | .overcommit c fSum n => [4] ++ toBE 2 c ++ toBE 4 fSum ++ toBE 1 n
  | .holdFull depth head tail => [5] ++ toBE 1 depth ++ toBE 2 head.toNat ++ toBE 2 tail.toNat

/-- The class code of a frame's content (Table 12-1). -/
def Content.classCode : Content → Byte
  | .claim _ _ _ => 1
  | .object _ _ _ => 2
  | .release _ _ _ _ => 3
  | .share _ _ => 4
  | .event _ => 5
  | .response _ _ _ _ _ => 7

/-- The payload of a frame's content (Tables 12-2 and 12-3, 12.3). -/
def Content.bytes : Content → List Byte
  | .claim id t h => toBE 8 id.toNat ++ toBE 1 t.idx.val ++ toBE 1 h.val
  | .object id index kind => toBE 8 id.toNat ++ [index] ++ [match kind with | .held => 1 | .wait => 2]
  | .release id releaser claimant index => toBE 8 id.toNat ++ toBE 1 releaser.val ++ toBE 1 claimant.val ++ [index]
  | .share f d => toBE 2 f ++ toBE 3 d
  | .event e => eventBytes e
  | .response num kind status part body => toBE 2 num.toNat ++ [kind] ++ toBE 1 (statusCode status) ++ [part] ++ body

/-- A frame of this station as the line carries it (Table 12-1). -/
def Frame.lineBytes (own : Station) (f : Frame) : List Byte :=
  frameBytes f.dest (BitVec.ofNat 8 own.val) f.content.classCode f.content.bytes

/-- A frame of this station as the bits that go on the line (R180). -/
def Frame.lineBits (own : Station) (f : Frame) : List Bool := Sys2Proof.lineBits (f.lineBytes own)

/-- A control message of a round header: type, tag and a body of 8 bytes (12.4). -/
def CtlMsg.bytes (m : CtlMsg) : List Byte :=
  match m.kind with
  | .silence on => [1] ++ toBE 1 m.tag ++ flagByte on ++ List.replicate 7 0
  | .laserOff => [2] ++ toBE 1 m.tag ++ List.replicate 8 0
  | .tagAssign id => [3] ++ toBE 1 m.tag ++ toBE 8 id.toNat
  | .delaySet eq _ => [4] ++ toBE 1 m.tag ++ toBE 2 eq ++ List.replicate 6 0
  | .laserOn => [5] ++ toBE 1 m.tag ++ List.replicate 8 0
  | .drop => [6] ++ toBE 1 m.tag ++ List.replicate 8 0

/-- The zone fields of a round header: purpose, length and measure tag (Table 12-6). -/
def zoneBytes : Option Zone → List Byte
  | none => [0] ++ toBE 2 0 ++ [0]
  | some z =>
    match z.purpose with
    | .discover => [1] ++ toBE 2 z.length ++ [0]
    | .measure _ tag => [2] ++ toBE 2 z.length ++ toBE 1 tag

/-- A round header (R25, Table 12-6): the number of the round it opens, the zone, the quiet window, the map and the control messages, and its check. -/
def headerBytes (number : BitVec 32) (map : GrantMap) (msgs : List CtlMsg) : List Byte :=
  let body := toBE 4 number.toNat ++ zoneBytes map.zone ++ flagByte map.quiet ++ toBE 1 map.windows.length ++
    toBE 1 msgs.length ++ (map.windows.flatMap fun w => toBE 1 w.tag ++ toBE 2 w.start ++ toBE 2 w.length) ++
    msgs.flatMap CtlMsg.bytes
  body ++ crcBytes body

/-- The flags byte of a record (Table 12-5). -/
def Record.flagsByte (r : Record) : List Byte :=
  toBE 1 ((if r.final then 1 else 0) + (if r.clockUnset then 2 else 0) + (if r.clockStep then 4 else 0) +
    (if r.saturated then 8 else 0) + (if r.isolatedInPeriod then 16 else 0))

/-- A billing record: 123 bytes (Table 12-5). -/
def Record.bytes (r : Record) : List Byte :=
  toBE 2 r.number.toNat ++ toBE 1 r.home.val ++ optIdentity r.identity ++ optAccount r.account ++ momentBytes r.periodStart ++
    momentBytes r.periodEnd ++ toBE 2 r.days ++ timeBytes r.time ++ toBE 1 r.spans ++ r.up.toList.flatMap (toBCD 5) ++
    r.down.toList.flatMap (toBCD 5) ++ toBE 6 r.overUp ++ toBE 6 r.overDown ++ toBCD 3 r.withheld ++ toBE 5 r.discarded ++
    toBE 5 r.pendingIn ++ toBE 5 r.pendingOut ++ r.upResidue.toList.flatMap (toBE 2) ++ r.downResidue.toList.flatMap (toBE 2) ++
    r.flagsByte ++ toBE 1 (leaveCode r.leaveReason) ++ optStation r.movedFrom ++ optStation r.movedTo

end Sys2Proof.Machine
end

