-- ==== Sys2Proof/Machine/Link.lean ====
section
/-! DEFINITION. The transmit queue and the sender (R165 to R169), the offering of events, responses and claim frames, and the checks of a received frame and of a request (R170 to R173). -/

namespace Sys2Proof.Machine

/-- Urgent content: OBJECT, RELEASE and the events ISOLATED, IDENTITY_CONFLICT and SEARCH_END (3.4, R175). -/
def Content.urgent : Content → Bool
  | .object _ _ _ => true
  | .release _ _ _ _ => true
  | .event (.isolated _ _ _ _ _ _ _ _) => true
  | .event (.identityConflict _ _ _ _) => true
  | .event (.searchEnd _ _ _) => true
  | .event (.overcommit _ _ _) => false
  | .event (.holdFull _ _ _) => false
  | .claim _ _ _ => false
  | .share _ _ => false
  | .response _ _ _ _ _ => false

/-- The content is an event. -/
def Content.isEvent : Content → Bool
  | .event _ => true
  | .claim _ _ _ | .object _ _ _ | .release _ _ _ _ | .share _ _ | .response _ _ _ _ _ => false

/-- The content is a SHARE. -/
def Content.isShare : Content → Bool
  | .share _ _ => true
  | .claim _ _ _ | .object _ _ _ | .release _ _ _ _ | .event _ | .response _ _ _ _ _ => false

/-- The frame is the CLAIM of the entry at an index, its claim still standing. -/
def Frame.claims (f : Frame) (h : HomeIndex) : Bool :=
  match f.content with
  | .claim _ _ index => decide (index = h) && !f.orphan
  | .object _ _ _ | .release _ _ _ _ | .share _ _ | .event _ | .response _ _ _ _ _ => false

/-- All frames of the transmit queue, the current frame first. -/
def Link.frames (l : Link) : List Frame := (l.current.map Prod.fst).toList ++ l.waiting

/-- How many frames the queue holds, the current frame counting as a place (R168). -/
def Link.total (l : Link) : Nat := l.frames.length

/-- How many routine frames the queue holds, the current frame counting as a place (R168). -/
def Link.routine (l : Link) : Nat := l.frames.countP fun f => !f.content.urgent

/-- The queue has room for content of a priority (R168). -/
def Link.roomFor (l : Link) (urgent : Bool) : Bool :=
  decide (l.total < 12) && (urgent || decide (l.routine < 8))

/-- A frame in its place: an urgent one behind the urgent frames, a routine one at the tail (R168). -/
def insertFrame (f : Frame) : List Frame → List Frame
  | [] => [f]
  | x :: xs => if f.content.urgent && !x.content.urgent then f :: x :: xs else x :: insertFrame f xs

/-- An IDLE sender takes the frame at the front as its current frame, attempt 1, and waits its gap (R165). -/
def Link.choose (l : Link) : Link :=
  match l.phase, l.waiting with
  | .idle, f :: rest => { l with current := some (f, 1), waiting := rest, phase := .gap }
  | _, _ => l

/-- A frame that found room joins the queue. -/
def Link.take (l : Link) (f : Frame) : Link := { l with waiting := insertFrame f l.waiting }.choose

/-- The current frame is on the line: SENDING or JAM (R165). -/
def Link.onLine (l : Link) : Bool :=
  match l.phase with
  | .sending | .jam => true
  | .idle | .gap | .backoff _ => false

/-- The current frame leaves the queue; the next is chosen (R165, R166). -/
def Link.finish (l : Link) : Link := { l with current := none, phase := .idle }.choose

/-- An event lost (R175). -/
def Link.loseEvent (l : Link) : Link := { l with eventsDropped := bump l.eventsDropped }

/-- An urgent frame offered: taken, or dropped and counted (R168). -/
def Link.offerUrgent (l : Link) (f : Frame) : Link :=
  if l.roomFor true then l.take f
  else
    let l := { l with urgentDrops := bump l.urgentDrops }
    if f.content.isEvent then l.loseEvent else l

/-- An urgent frame offered to the transmit queue. -/
def State.offerUrgent (s : State) (dest : Byte) (c : Content) : State := s.onLink fun l => l.offerUrgent ⟨dest, c, false⟩

/-- The destination of a frame to all stations. -/
def toAll : Byte := 31

/-- The destination of a frame to one station. -/
def toStation (st : Station) : Byte := BitVec.ofNat 8 st.val

/-- An urgent event queued to all stations (R175). -/
def State.event (s : State) (e : EventKind) : State := s.offerUrgent toAll (.event e)

/-- A RESPONSE offered; one that finds no room is dropped and counted (R168). -/
def State.respond (s : State) (st : Station) (num : BitVec 16) (kind : Byte) (status : Status) (body : List Byte) : State :=
  s.onLink fun l =>
    if l.roomFor false then l.take ⟨toStation st, .response num kind status 0 body, false⟩
    else { l with responsesDropped := bump l.responsesDropped }

/-- The two parts of a COLLECT answer, offered together: both are taken, or both are dropped and counted once (R173). -/
def State.respondTwo (s : State) (st : Station) (num : BitVec 16) (kind : Byte) (part1 part2 : List Byte) : State :=
  s.onLink fun l =>
    if l.total + 2 ≤ 12 ∧ l.routine + 2 ≤ 8 then
      (l.take ⟨toStation st, .response num kind .ok 1 part1, false⟩).take ⟨toStation st, .response num kind .ok 2 part2, false⟩
    else { l with responsesDropped := bump l.responsesDropped }

/-- The claim's CLAIM has been sent (Table 3-1): none queued for it has still to be reported sent. -/
def ClaimContext.sent (c : ClaimContext) : Bool := decide (c.unsent = 0)

/-- A new claim, its CLAIM queued: not yet sent, hold 100 and wait count 0 (R51). -/
def ClaimContext.fresh : ClaimContext := ⟨1, 100, 0, 0, false⟩

/-- A CLAIM of the claim reported sent: the hold of 100 rounds begins, or, while another CLAIM of the claim is still to be sent, waits for that one
(R55, R57; DESIGN CHOICE, assumption 32). -/
def ClaimContext.reportSent (c : ClaimContext) : ClaimContext :=
  if c.unsent ≤ 1 then { c with unsent := 0, hold := 100, again := false } else { c with unsent := c.unsent - 1 }

/-- The CLAIM of a claim queued again: the hold stops, and restarts at 100 rounds when it has been sent (R57). -/
def ClaimContext.queuedAgain (c : ClaimContext) : ClaimContext := { c with unsent := c.unsent + 1, hold := 100, again := true }

/-- A CLAIM for a CLAIMING entry offered; with no room the Enrollment Engine keeps it (R55). -/
def State.offerClaim (s : State) (h : HomeIndex) : State :=
  let x := s.home h
  match x.claim, x.identity, x.tree with
  | some c, some id, some t =>
    if s.link.roomFor false then s.onLink fun l => l.take ⟨toAll, .claim id t h, false⟩
    else s.onHome h fun x => { x with claim := some { c with held := c.held + 1 } }
  | _, _, _ => s

/-- A CLAIM the Enrollment Engine keeps offered again: it joins the queue, or stays kept while there is no room (R55, R168). -/
def State.reofferClaim (s : State) (h : HomeIndex) : State :=
  let x := s.home h
  match x.claim, x.identity, x.tree with
  | some c, some id, some t =>
    if 0 < c.held ∧ s.link.roomFor false = true then
      (s.onLink fun l => l.take ⟨toAll, .claim id t h, false⟩).onHome h fun x => { x with claim := some { c with held := c.held - 1 } }
    else s
  | _, _, _ => s

/-- The CLAIM of an entry that leaves CLAIMING: it leaves the queue while it waits, and completes on the line as an orphan (R55, R169). -/
def Link.withdrawClaim (l : Link) (h : HomeIndex) : Link :=
  let l := { l with waiting := l.waiting.filter fun f => !f.claims h }
  match l.current with
  | some (f, n) =>
    if f.claims h then
      if l.onLine then { l with current := some ({ f with orphan := true }, n) } else l.finish
    else l
  | none => l

/-- Waiting frames without their SHAREs. -/
def withoutShares (fs : List Frame) : List Frame := fs.filter fun f => !f.content.isShare

/-- The first SHARE among waiting frames replaced in its place (R91, R169), and any other discarded (DESIGN CHOICE, assumption 39). -/
def replaceShare (c : Content) : List Frame → List Frame
  | [] => []
  | f :: fs => if f.content.isShare then { f with content := c } :: withoutShares fs else f :: replaceShare c fs

/-- A SHARE notice offered (R91, R169): it takes the place and the attempt count of the SHARE of this station that waits, or is taken as a routine frame, or finds
no room. Where two wait at once the rules do not say which: it takes those of the foremost, the current frame in GAP or BACKOFF first, and the others are
discarded (DESIGN CHOICE, assumption 39). The Bool says whether the queue holds the notice. -/
def Link.offerShare (l : Link) (f d : Nat) : Link × Bool :=
  let c := Content.share f d
  match l.current with
  | some (cur, n) =>
    if cur.content.isShare && !l.onLine then
      ({ l with current := some ({ cur with content := c }, n), waiting := withoutShares l.waiting }, true)
    else if l.waiting.any fun x => x.content.isShare then ({ l with waiting := replaceShare c l.waiting }, true)
    else if l.roomFor false then (l.take ⟨toAll, c, false⟩, true)
    else (l, false)
  | none =>
    if l.waiting.any fun x => x.content.isShare then ({ l with waiting := replaceShare c l.waiting }, true)
    else if l.roomFor false then (l.take ⟨toAll, c, false⟩, true)
    else (l, false)

/-- A SHARE offered; with no room it is held, and a notice held before is superseded either way (R91). -/
def State.offerShare (s : State) (f d : Nat) : State :=
  let r := s.link.offerShare f d
  { s with link := r.1, share := { s.share with heldNotice := if r.2 then none else some (f, d) } }

/-- An OVERCOMMIT queued: one still held is replaced and lost; with no room it is held (R98). -/
def State.offerOvercommit (s : State) (c fSum n : Nat) : State :=
  let s := if s.share.heldOvercommit.isSome then s.onLink Link.loseEvent else s
  if s.link.roomFor false then
    (s.onLink fun l => l.take ⟨toAll, .event (.overcommit c fSum n), false⟩).onShare fun x => { x with heldOvercommit := none }
  else s.onShare fun x => { x with heldOvercommit := some (c, fSum, n) }

/-- A HOLD_FULL queued: one still held is replaced and lost; with no room it is held (R160). -/
def State.offerHoldFull (s : State) (depth : Nat) (head tail : BitVec 16) : State :=
  let s := if s.meter.heldFull.isSome then s.onLink Link.loseEvent else s
  if s.link.roomFor false then
    (s.onLink fun l => l.take ⟨toAll, .event (.holdFull depth head tail), false⟩).onMeter fun x => { x with heldFull := none }
  else s.onMeter fun x => { x with heldFull := some (depth, head, tail) }

/-- The length of a back-off in bit times after attempt `a` of station `st` collided (R166). -/
def backoffBits (st : Station) (a : Nat) : Nat := (1 + (st.val + 5 * a) % 16) * 64

/-- The idle gap of a frame in bit times: 12 for an urgent frame, 24 for a routine frame (R165). -/
def gapBits (f : Frame) : Nat := if f.content.urgent then 12 else 24

/-! ## Receiving -/

/-- Checks 4 and 5 of R170: the frame is another station's and is for this station or for all. -/
def State.hears (s : State) (rx : Rx) : Bool :=
  decide (rx.src ≠ s.own) && (decide (rx.dest = toStation s.own) || decide (rx.dest = toAll))

/-- The frame is addressed to this station alone. -/
def State.addressed (s : State) (rx : Rx) : Bool := decide (rx.dest = toStation s.own)

/-- A frame that passes raises the frames-received counter (R170). -/
def State.countReceived (s : State) : State := s.onLink fun l => { l with framesReceived := bump l.framesReceived }

/-- A frame of a known class: discarded without count under checks 4 and 5, or counted and handed on (R170). -/
def State.receive (s : State) (rx : Rx) (f : State → State) : State := if s.hears rx then f s.countReceived else s

/-- A CLAIM, OBJECT or RELEASE dispatched (R171): discarded in WAIT_CONFIG, discarded and counted from rank 3, else handed on. -/
def State.receivePeer (s : State) (rx : Rx) (f : State → State) : State :=
  s.receive rx fun s =>
    match s.rankOf rx.src with
    | none => s
    | some r => if r.val ≤ 2 then f s else s.onLink fun l => { l with rankDiscards := bump l.rankDiscards }

/-! ## Requests -/

/-- What the owning block makes of a request that passed the link checks: the state after it, the status and the results. -/
structure Answer where
  state : State
  status : Status
  body : List Byte
deriving DecidableEq, Repr

/-- The statuses that refuse a request of a kind: QUERY-HOME answers ABSENT and MOVED and FIND answers NOT_FOUND (R172). -/
def refuses (kind : Byte) (status : Status) : Bool :=
  match status with
  | .ok => false
  | .absent | .moved => decide (kind ≠ 14)
  | .notFound => decide (kind ≠ 15)
  | .notReady | .rank | .range | .state | .busy | .full | .capacity | .empty | .notHead => true

/-- A request's outcome (R172, R173): a refusal is counted; an addressed request is answered. -/
def State.conclude (s : State) (rx : Rx) (num : BitVec 16) (kind : Byte) (a : Answer) : State :=
  let s' := if refuses kind a.status then a.state.onLink fun l => { l with requestsRefused := bump l.requestsRefused } else a.state
  if s.addressed rx then s'.respond rx.src num kind a.status a.body else s'

/-- A refusal: nothing changes (R172). -/
def State.refuse (s : State) (status : Status) : Answer := ⟨s, status, []⟩

/-- An accepted request without results. -/
def State.accept (s : State) : Answer := ⟨s, .ok, []⟩

/-- A request that is answered when its owning block has acted: the block's answer concluded (R173). -/
def State.answer (rx : Rx) (num : BitVec 16) (kind : Byte) (f : State → Answer) (s : State) : State :=
  s.conclude rx num kind (f s)

/-- A request of a kind other than CONFIGURE on its way through R171 to R173: NOT_READY in WAIT_CONFIG when addressed and discarded unread when
sent to all; a kind whose effect is its answer discarded unread when sent to all; RANK; then `act`, the range check and the owning block. `top` is
the highest rank value the kind takes (Table 10-2) and `answerOnly` says the kind is one of R173's list. -/
def State.request (s : State) (rx : Rx) (num : BitVec 16) (kind : Byte) (top : Nat) (answerOnly : Bool)
    (act : State → State) : State :=
  s.receive rx fun s =>
    match s.rankOf rx.src with
    | none => if s.addressed rx then s.conclude rx num kind (s.refuse .notReady) else s
    | some r =>
      if answerOnly && !s.addressed rx then s
      else if top < r.val then s.conclude rx num kind (s.refuse .rank)
      else act s

end Sys2Proof.Machine
end

