-- ==== Sys2Proof/Machine/Operands.lean ====
section
/-! DEFINITION. The arguments of each class and request kind read from their bytes, with the length and range checks that refuse RANGE (R172, R178, R180, Tables 12-2 and 12-4). -/

namespace Sys2Proof.Machine

/-- The number in `len` bytes from an offset. -/
def field (args : List Byte) (off len : Nat) : Nat := beNat ((args.drop off).take len)

/-- The byte at an offset, 0 past the end. -/
def byteAt (args : List Byte) (off : Nat) : Byte := args.getD off 0

/-- An identity in 8 bytes from an offset. -/
def identityAt (args : List Byte) (off : Nat) : Identity := BitVec.ofNat 64 (field args off 8)

/-- A time of day in 3 bytes from an offset. -/
def timeAt (args : List Byte) (off : Nat) : TimeOfDay := ⟨field args off 1, field args (off + 1) 1, field args (off + 2) 1⟩

/-- A station number of 0 to 15; none for any other byte. -/
def stationOf (b : Byte) : Option Station := if h : b.toNat < 16 then some ⟨b.toNat, h⟩ else none

/-! ## Peer classes (Table 12-2): a payload too short has no fields -/

/-- The identity and claim index of a CLAIM. -/
def claimFields (p : List Byte) : Option (Identity × Byte) :=
  if 10 ≤ p.length then some (identityAt p 0, byteAt p 9) else none

/-- The identity, claim index and kind byte of an OBJECT. -/
def objectFields (p : List Byte) : Option (Identity × Byte × Byte) :=
  if 10 ≤ p.length then some (identityAt p 0, byteAt p 8, byteAt p 9) else none

/-- The kind an OBJECT's kind byte names: 1 HELD, 2 WAIT. -/
def objectKind (b : Byte) : Option ObjectKind := if b = 1 then some .held else if b = 2 then some .wait else none

/-- The identity, releaser byte, claimant byte and claim index of a RELEASE. -/
def releaseFields (p : List Byte) : Option (Identity × Byte × Byte × Byte) :=
  if 11 ≤ p.length then some (identityAt p 0, byteAt p 8, byteAt p 9, byteAt p 10) else none

/-- F and D of a SHARE. -/
def shareFields (p : List Byte) : Option (Nat × Nat) := if 5 ≤ p.length then some (field p 0 2, field p 2 3) else none

/-! ## Requests (Table 12-4): none is a refusal RANGE -/

/-- A home index of 0 to 127 (R10). -/
def homeArg (args : List Byte) : Option HomeIndex :=
  if args.length < 1 then none else if h : (byteAt args 0).toNat < 128 then some ⟨(byteAt args 0).toNat, h⟩ else none

/-- A tree of 0 to 3. -/
def treeArg (args : List Byte) : Option Tree := if args.length < 1 then none else Tree.ofNat? (byteAt args 0).toNat

/-- The identity of WITHDRAW and UNBAR. -/
def identityArg (args : List Byte) : Option Identity := if args.length < 8 then none else some (identityAt args 0)

/-- The guarantee and peak of a class, clamped: g to 0 to 400 and p to the clamped g up to 2000 (R13, R52). -/
def clampClass (g p : Nat) : Nat × Nat := (min g 400, clamp (min g 400) 2000 p)

/-- ADMIT's identity, account, g and p, the last two clamped (R52). -/
def admitArgs (args : List Byte) : Option Admission :=
  if args.length < 16 then none
  else
    let c := clampClass (field args 12 2) (field args 14 2)
    some ⟨identityAt args 0, BitVec.ofNat 32 (field args 8 4), c.1, c.2⟩

/-- SET-CLASS's home index and class, clamped (R13). -/
def setClassArgs (args : List Byte) : Option (HomeIndex × Nat × Nat) :=
  if args.length < 5 then none
  else (homeArg args).map fun h =>
    let c := clampClass (field args 1 2) (field args 3 2)
    (h, c.1, c.2)

/-- TIME's moment and weekday in range (R139). -/
def timeArgs (args : List Byte) : Option (Moment × Nat) :=
  let m : Moment := ⟨field args 0 1, field args 1 1, field args 2 1, timeAt args 3⟩
  if args.length < 7 then none else if m.valid ∧ field args 6 1 ≤ 6 then some (m, field args 6 1) else none

/-- One entry of TARIFF in range (R143): enabled, start, end, weekday mask and band in 9 bytes. -/
def bandEntryAt (args : List Byte) (off : Nat) : Option BandEntry :=
  let start := timeAt args (off + 1)
  let stop := timeAt args (off + 4)
  let mask := byteAt args (off + 7)
  let band := field args (off + 8) 1
  if h : band < 4 then
    if timeValid start ∧ timeValid stop ∧ mask.getLsbD 7 = false then
      some ⟨decide (byteAt args off ≠ 0), start, stop, mask, ⟨band, h⟩⟩
    else none
  else none

/-- TARIFF's four entries; any entry out of range refuses the whole (R143). -/
def tariffArgs (args : List Byte) : Option (Quad BandEntry) :=
  if args.length < 36 then none
  else
    match bandEntryAt args 0, bandEntryAt args 9, bandEntryAt args 18, bandEntryAt args 27 with
    | some a, some b, some c, some d => some ⟨a, b, c, d⟩
    | _, _, _, _ => none

/-- FIND's identity, start and count, the count clamped to 128 minus the start (R22). -/
def findArgs (args : List Byte) : Option (Identity × Nat × Nat) :=
  let start := field args 8 1
  let count := field args 9 1
  if args.length < 10 then none
  else if start ≤ 127 ∧ 1 ≤ count ∧ count ≤ 128 then some (identityAt args 0, start, min count (128 - start)) else none

/-- READ-LISTS's list and start place (R54). -/
def readListsArgs (args : List Byte) : Option (Nat × Nat) :=
  if args.length < 2 then none
  else if field args 0 1 ≤ 2 ∧ field args 1 1 ≤ 31 then some (field args 0 1, field args 1 1) else none

/-- QUERY-STATION's part and index (R174): a part of 0 to 7, an index of 0 to 15, and of 0 to 3 for the parts that name a tree. -/
def queryStationArgs (args : List Byte) : Option (Nat × Nat) :=
  let part := field args 0 1
  let index := field args 1 1
  if args.length < 2 then none
  else if part ≤ 7 ∧ index ≤ 15 ∧ ((part = 1 ∨ part = 2) → index ≤ 3) then some (part, index) else none

/-- RELEASE-RECORD's record number (R162). -/
def recordArg (args : List Byte) : Option (BitVec 16) :=
  if args.length < 2 then none else some (BitVec.ofNat 16 (field args 0 2))

/-! ## CONFIGURE (Table 11-2, R178) -/

/-- A field given as 0 takes its default (R178). -/
def orDefault (default x : Nat) : Nat := if x = 0 then default else x

/-- The rank of a station in a rank table of 4 bytes, station 0 in bits 1 and 0 of the first (Table 12-4). -/
def rankAt (args : List Byte) (off : Nat) (st : Station) : Rank :=
  let b := byteAt args (off + st.val / 4)
  ⟨b.toNat / 4 ^ (st.val % 4) % 4, Nat.mod_lt _ (by decide)⟩

/-- The rank table as applied: the management station at rank 0 whatever the table holds for it (R164). -/
def rankTable (args : List Byte) (off : Nat) (mgt : Station) : Vector Rank 16 :=
  ⟨⟨(List.finRange 16).map fun st => if st = mgt then 0 else rankAt args off st⟩, by simp⟩

/-- CONFIGURE's fields as they would be applied, defaults filled in (Table 12-4, R178). -/
def configFields (args : List Byte) (mgt : Station) : Config :=
  let mask := byteAt args 6
  { capacity := field args 0 2
    ranks := rankTable args 2 mgt
    enable := ⟨mask.getLsbD 0, mask.getLsbD 1, mask.getLsbD 2, mask.getLsbD 3⟩
    spread := ⟨field args 7 1, field args 8 1, field args 9 1, field args 10 1⟩
    discovery := orDefault 500 (field args 11 2)
    quiet := orDefault 16 (field args 13 1)
    dark := orDefault 40 (field args 14 1)
    overlap := orDefault 12 (field args 15 1)
    drift := orDefault 8 (field args 16 1)
    kOnline := orDefault 4 (field args 17 1)
    soak := orDefault 1024 (field args 18 2)
    lostTimeout := orDefault 600 (field args 20 2)
    close := timeAt args 22 }

/-- Every field within its range (Table 11-2). -/
def configInRange (c : Config) : Bool :=
  decide (100 ≤ c.capacity) && decide (c.capacity ≤ 40000) && (c.spread.toList.all fun x => decide (x ≤ 99)) &&
    decide (50 ≤ c.discovery) && decide (c.discovery ≤ 50000) && decide (c.quiet ∈ [4, 8, 16, 32, 64]) && decide (c.dark ≤ 255) &&
    decide (1 ≤ c.dark) && decide (4 ≤ c.overlap) && decide (c.overlap ≤ 64) && decide (4 ≤ c.drift) && decide (c.drift ≤ 32) &&
    decide (3 ≤ c.kOnline) && decide (c.kOnline ≤ 6) && decide (64 ≤ c.soak) && decide (c.soak ≤ 4096) && decide (10 ≤ c.lostTimeout) &&
    decide (c.lostTimeout ≤ 3600) && timeValid c.close

/-- CONFIGURE's arguments: long enough and every field in range (R178). -/
def configArgs (args : List Byte) (mgt : Station) : Option Config :=
  if args.length < 25 then none
  else
    let c := configFields args mgt
    if configInRange c then some c else none

/-- A rank table in 4 bytes (Table 12-4). -/
def ranksBytes (ranks : Vector Rank 16) : List Byte :=
  (List.range 4).map fun i => BitVec.ofNat 8 <|
    ((List.finRange 16).map fun st => if st.val / 4 = i then (ranks[st] : Rank).val * 4 ^ (st.val % 4) else 0).sum

/-- A tree mask: bit 0 for A up to bit 3 for D (R180). -/
def maskBytes (q : Quad Bool) : List Byte :=
  toBE 1 ((if q.q0 then 1 else 0) + (if q.q1 then 2 else 0) + (if q.q2 then 4 else 0) + (if q.q3 then 8 else 0))

/-- The configuration as applied, laid out as CONFIGURE's arguments (R179, Table 12-4). -/
def configBytes (c : Config) : List Byte :=
  toBE 2 c.capacity ++ ranksBytes c.ranks ++ maskBytes c.enable ++ c.spread.toList.flatMap (toBE 1) ++ toBE 2 c.discovery ++
    toBE 1 c.quiet ++ toBE 1 c.dark ++ toBE 1 c.overlap ++ toBE 1 c.drift ++ toBE 1 c.kOnline ++ toBE 2 c.soak ++ toBE 2 c.lostTimeout ++
    timeBytes c.close

end Sys2Proof.Machine
end

