-- ==== Sys2Proof/Machine/Control.lean ====
section
/-! DEFINITION. The control message queue of a tree (R26 to R28), the messages producers keep, and the tag table (R6, R7). -/

namespace Sys2Proof.Machine

/-- SILENCE and LASER-OFF are urgent (Table 2-2). -/
def CtlKind.urgent : CtlKind → Bool
  | .silence _ => true
  | .laserOff => true
  | .tagAssign _ => false
  | .delaySet _ _ => false
  | .laserOn => false
  | .drop => false

/-- The message's priority is urgent. -/
def CtlMsg.urgent (m : CtlMsg) : Bool := m.kind.urgent

/-- A message as it is queued: sending count 0 (R26). -/
def CtlMsg.new (kind : CtlKind) (tag : Nat) : CtlMsg := ⟨kind, tag, 0, false⟩

/-- The message is a SILENCE for a tag. -/
def CtlMsg.silences (m : CtlMsg) (tag : Nat) : Bool :=
  decide (m.tag = tag) && match m.kind with | .silence _ => true | .laserOff | .tagAssign _ | .delaySet _ _ | .laserOn | .drop => false

/-- The message is a LASER-OFF for a tag. -/
def CtlMsg.laserOffFor (m : CtlMsg) (tag : Nat) : Bool := decide (m.kind = .laserOff) && decide (m.tag = tag)

/-- The message is a DELAY-SET for a tag. -/
def CtlMsg.delaySetFor (m : CtlMsg) (tag : Nat) : Bool :=
  decide (m.tag = tag) && match m.kind with | .delaySet _ _ => true | .silence _ | .laserOff | .tagAssign _ | .laserOn | .drop => false

/-- The message is a DROP. -/
def CtlMsg.isDrop (m : CtlMsg) : Bool := decide (m.kind = .drop)

/-- The message is a TAG-ASSIGN or LASER-ON for a tag: what an ANNOUNCING entry waits for (R62). -/
def CtlMsg.announces (m : CtlMsg) (tag : Nat) : Bool :=
  decide (m.tag = tag) && match m.kind with | .tagAssign _ | .laserOn => true | .silence _ | .laserOff | .delaySet _ _ | .drop => false

/-- A message in its place: an urgent one behind the urgent messages, a routine one at the tail (R26). -/
def insertCtl (m : CtlMsg) : List CtlMsg → List CtlMsg
  | [] => [m]
  | x :: xs => if m.urgent && !x.urgent then m :: x :: xs else x :: insertCtl m xs

/-- A DELAY-SET for the tag stands in the queue with sending count 0 (R26). -/
def TreeLine.hasFreshDelay (t : TreeLine) (tag : Nat) : Bool :=
  t.queue.any fun m => m.delaySetFor tag && decide (m.count = 0)

/-- The DELAY-SET with sending count 0 for a tag takes another's EQ in place (R26); were there several, after a STOP, each does (DESIGN CHOICE,
assumption 31). -/
def TreeLine.replaceDelay (t : TreeLine) (m : CtlMsg) : TreeLine :=
  { t with queue := t.queue.map fun x => if x.delaySetFor m.tag && decide (x.count = 0) then { x with kind := m.kind } else x }

/-- A message whose producer keeps it (R28): a held LASER-OFF is held once (Table 6-1), every other message by itself. -/
def TreeLine.keep (t : TreeLine) (m : CtlMsg) : TreeLine :=
  match m.kind with
  | .laserOff =>
    if t.held.any fun x => x.laserOffFor m.tag then
      { t with held := t.held.map fun x => if x.laserOffFor m.tag then { x with awaited := x.awaited || m.awaited } else x }
    else { t with held := t.held ++ [m] }
  | .silence _ | .tagAssign _ | .delaySet _ _ | .laserOn | .drop => { t with held := t.held ++ [m] }

/-! ## The tag table -/

/-- The place of a tag 1 to 62 in the tag table. -/
def tagIndex (tag : Nat) : Option (Fin 62) := if h : tag - 1 < 62 then (if tag = 0 then none else some ⟨tag - 1, h⟩) else none

/-- The place of a tag; a number that is no tag has no place. -/
def TreeLine.place (t : TreeLine) (tag : Nat) : Option TagPlace := (tagIndex tag).map fun i => t.tags[i]

/-- The tag table with one place replaced. -/
def TreeLine.setPlace (t : TreeLine) (tag : Nat) (p : TagPlace) : TreeLine :=
  match tagIndex tag with
  | some i => { t with tags := t.tags.set i p }
  | none => t

/-- A draining tag becomes free (R7). -/
def TreeLine.freeTag (t : TreeLine) (tag : Nat) : TreeLine :=
  if t.place tag = some .draining then t.setPlace tag .free else t

/-- The entry that holds a tag. -/
def TreeLine.owner (t : TreeLine) (tag : Nat) : Option HomeIndex :=
  match t.place tag with
  | some (.held h) => some h
  | some .free | some .draining | none => none

/-- The lowest free tag (R6). -/
def TreeLine.lowestFree (t : TreeLine) : Option Nat :=
  (t.tags.toList.findIdx? fun p => decide (p = .free)).map (· + 1)

/-- How many places are free. -/
def TreeLine.freeTags (t : TreeLine) : Nat := t.tags.toList.countP fun p => decide (p = .free)

/-! ## Offering a control message -/

/-- A displaced routine message: a lost DROP frees its tag, any other is offered again by its producer (R28). -/
def TreeLine.lose (t : TreeLine) (m : CtlMsg) : TreeLine :=
  let t := { t with lostMessages := bump t.lostMessages }
  if m.isDrop then t.freeTag m.tag else t.keep { m with count := 0, awaited := false }

/-- A new place asked of the queue (R28): taken with fewer than 16 messages held, whatever is kept for the tag (for a SILENCE: DESIGN CHOICE, assumption
35); else a routine message is kept, and an urgent one displaces the
newest routine message or, with 16 urgent messages, is kept. -/
def TreeLine.place16 (t : TreeLine) (m : CtlMsg) : TreeLine :=
  if t.queue.length < 16 then { t with queue := insertCtl m t.queue }
  else if m.urgent then
    match t.queue.getLast? with
    | some x =>
      if x.urgent then t.keep m
      else ({ t with queue := insertCtl m t.queue.dropLast }).lose x
    | none => t.keep m
  else t.keep m

/-- A message queued on a tree (R26, R28). -/
def TreeLine.offer (t : TreeLine) (m : CtlMsg) : TreeLine :=
  match m.kind with
  | .delaySet _ _ => if t.hasFreshDelay m.tag then t.replaceDelay m else t.place16 m
  | .silence _ | .laserOff | .tagAssign _ | .laserOn | .drop => t.place16 m

/-- A message queued on a tree of the station. -/
def State.offerCtl (s : State) (t : Tree) (m : CtlMsg) : State := s.onTree t fun x => x.offer m

/-- An offer of the message would be taken. -/
def TreeLine.takes (t : TreeLine) (m : CtlMsg) : Bool :=
  decide (t.queue.length < 16) || (match m.kind with
    | .delaySet _ _ => t.hasFreshDelay m.tag
    | .silence _ | .laserOff => t.queue.any fun x => !x.urgent
    | .tagAssign _ | .laserOn | .drop => false)

/-- The reason for a kept message stands (R28): its home still holds the tag and is in the state that called for it. A DROP is offered until it is
queued, and a SILENCE until it finds room. -/
def State.reasonStands (s : State) (t : Tree) (m : CtlMsg) : Bool :=
  let owner := ((s.tree t).owner m.tag).map s.home
  match m.kind with
  | .drop => true
  | .silence _ => true
  | .laserOff => owner.any fun x => decide (x.state = .isolated)
  | .tagAssign id => owner.any fun x => decide (x.state = .measuring) && decide (x.identity = some id)
  | .laserOn => owner.any fun x => decide (x.state = .measuring)
  | .delaySet _ .enrollment => owner.any fun x => decide (x.phase = some .setting)
  | .delaySet _ .drift => owner.any fun x => decide (x.state = .soaking) || decide (x.state = .online)

/-- A DELAY-SET offered again carries the home's EQ as it then stands (R28). -/
def State.refreshDelay (s : State) (t : Tree) (m : CtlMsg) : CtlMsg :=
  match m.kind with
  | .delaySet eq src =>
    { m with kind := .delaySet ((((s.tree t).owner m.tag).bind fun h => (s.home h).eq).getD eq) src }
  | .silence _ | .laserOff | .tagAssign _ | .laserOn | .drop => m

/-- A kept message offered again (R28): discarded when its reason has gone, queued when the queue takes it, else kept in its place. Of the SILENCE
messages kept for one tag only the oldest is offered. -/
def State.reoffer (s : State) (t : Tree) (i : Nat) : State :=
  let x := s.tree t
  match x.held[i]? with
  | none => s
  | some m =>
    if m.silences m.tag && (x.held.take i).any fun y => y.silences m.tag then s
    else if !s.reasonStands t m then s.setTree t { x with held := x.held.eraseIdx i }
    else if x.takes m then s.setTree t (({ x with held := x.held.eraseIdx i }).offer (s.refreshDelay t m))
    else s

/-! ## Giving and taking tags -/

/-- A tag held by an entry. -/
def State.giveTag (s : State) (t : Tree) (tag : Nat) (h : HomeIndex) : State := s.onTree t fun x => x.setPlace tag (.held h)

/-- A tag taken from its entry: the place is draining, the routine messages kept for it have no reason any more, and a DROP is queued (R6, R28). -/
def TreeLine.drain (t : TreeLine) (tag : Nat) : TreeLine :=
  let t := t.setPlace tag .draining
  ({ t with held := t.held.filter fun m => m.isDrop || m.urgent || !decide (m.tag = tag) }).offer (.new .drop tag)

/-- The tag an entry holds taken from it; nothing when it holds none. -/
def State.drainTag (s : State) (x : Home) : State :=
  match x.tree, x.tag with
  | some t, some tag => s.onTree t fun y => y.drain tag
  | _, _ => s

/-- The messages chosen for a header (R27): those with sending count 1 in queue order, then, while fewer than 4 are chosen, those with sending
count 0 in queue order. -/
def chosenMessages (q : List CtlMsg) : List CtlMsg :=
  let second := q.filter fun m => decide (m.count = 1)
  second ++ (q.filter fun m => decide (m.count = 0)).take (4 - second.length)

/-- The queue after its header: messages sent twice have left, the first `room` messages with sending count 0 have been sent once and are awaited
no more (R27, R123). -/
def afterHeader : Nat → List CtlMsg → List CtlMsg
  | _, [] => []
  | room, m :: ms =>
    if m.count = 0 then
      match room with
      | 0 => m :: afterHeader 0 ms
      | r + 1 => { m with count := 1, awaited := false } :: afterHeader r ms
    else afterHeader room ms

/-- The messages a header sends for the second time: their producers are told (R27). -/
def sentTwice (q : List CtlMsg) : List CtlMsg := q.filter fun m => decide (m.count = 1)

/-- A tree's queue moved by its header (R27). -/
def TreeLine.sendHeader (t : TreeLine) : TreeLine := { t with queue := afterHeader (4 - (sentTwice t.queue).length) t.queue }

/-- A probe's outstanding messages: none is left (R123). -/
def TreeLine.settled (t : TreeLine) : Bool := !(t.queue.any CtlMsg.awaited || t.held.any CtlMsg.awaited)

/-- No message is waited for any more: the outstanding messages are discarded (R134). -/
def TreeLine.forgetAwaited (t : TreeLine) : TreeLine :=
  { t with queue := t.queue.map fun m => { m with awaited := false }, held := t.held.map fun m => { m with awaited := false } }

end Sys2Proof.Machine
end

