-- ==== Sys2Proof/Machine/Meter.lean ====
section
/-! DEFINITION. Metering on one home record (09_metering_and_billing_records.md): counts into the open bank, pending and discarded bytes, withheld seconds, bank swaps, and the building of a billing record from a bank. -/

namespace Sys2Proof.Machine

/-- The highest reading of a kilobyte meter (Table 9-1). -/
def meterLimit : Nat := 9999999999

/-- The highest sum of a home's pending and discarded bytes (R150). -/
def pendingLimit : Nat := 2 ^ 40 - 1

/-- The highest overflow count (Table 9-1). -/
def overflowLimit : Nat := 2 ^ 48 - 1

/-- An overflow count with kilobytes added; one that would pass its limit holds it (R149, Table 9-1, 00_scope.md 4.2). -/
def overflowAdd (held kb : Nat) : Nat := satAdd overflowLimit held kb

/-- Upstream bytes counted into a bank under a band (R149). -/
def Bank.countUp (b : Bank) (band : Band) (bytes : Nat) : Bank :=
  let sum := b.upResidue.get band + bytes
  let meter := b.up.get band + sum / 1000
  let b := { b with upResidue := b.upResidue.set band (sum % 1000), up := b.up.set band (min meterLimit meter) }
  if meter ≤ meterLimit then b else { b with overUp := overflowAdd b.overUp (meter - meterLimit), saturated := true }

/-- Downstream bytes counted into a bank under a band (R149). -/
def Bank.countDown (b : Bank) (band : Band) (bytes : Nat) : Bank :=
  let sum := b.downResidue.get band + bytes
  let meter := b.down.get band + sum / 1000
  let b := { b with downResidue := b.downResidue.set band (sum % 1000), down := b.down.set band (min meterLimit meter) }
  if meter ≤ meterLimit then b else { b with overDown := overflowAdd b.overDown (meter - meterLimit), saturated := true }

/-- A second withheld (R151). -/
def Bank.withhold (b : Bank) : Bank :=
  if b.withheld < 999999 then { b with withheld := b.withheld + 1 } else { b with withheld := 999999, saturated := true }

/-- The open bank, by the bank role. -/
def Home.openBank (x : Home) : Bank := if x.secondOpen then x.bankB else x.bankA

/-- The bank that is not open. -/
def Home.otherBank (x : Home) : Bank := if x.secondOpen then x.bankA else x.bankB

/-- The record with its open bank changed. -/
def Home.onOpen (x : Home) (f : Bank → Bank) : Home :=
  if x.secondOpen then { x with bankB := f x.bankB } else { x with bankA := f x.bankA }

/-- A home is watched while its suspicion score is 32 or more (R107). -/
def Home.watched (x : Home) : Bool := decide (32 ≤ x.score)

/-- An upstream delivery: into the meters, or, for a watched home, into pending up to the limit of R150. -/
def Home.deliver (x : Home) (band : Band) (bytes : Nat) : Home :=
  if x.watched then
    let held := min bytes (pendingLimit - (x.pending.sum + x.discarded))
    let x := { x with pending := x.pending.set band (x.pending.get band + held) }
    if held < bytes then x.onOpen fun b => b.countUp band (bytes - held) else x
  else x.onOpen fun b => b.countUp band bytes

/-- Pending moved into the open bank's band meters, each count in its own band (R107, R150). -/
def Home.pendingToMeters (x : Home) : Home :=
  let x' := x.onOpen fun b =>
    (((b.countUp 0 x.pending.q0).countUp 1 x.pending.q1).countUp 2 x.pending.q2).countUp 3 x.pending.q3
  { x' with pending := Quad.fill 0 }

/-- Pending moved to discarded, with ISOLATED_IN_PERIOD set in the open bank (R109, R150). -/
def Home.pendingToDiscarded (x : Home) : Home :=
  let x' := x.onOpen fun b => { b with isolatedInPeriod := true }
  { x' with discarded := x.discarded + x.pending.sum, pending := Quad.fill 0 }

/-- The open bank as it closes at a close moment with the home's pending and discarded counts (R153). -/
def Bank.closeAt (b : Bank) (m : Moment) (pending discarded : Nat) : Bank :=
  { b with periodEnd := some m, pendingOut := some pending, discarded := some discarded,
           upResidue := Quad.fill 0, downResidue := Quad.fill 0 }

/-- The bank that opens at a close moment, taking the residues and the pending sum (R153). -/
def Bank.openAt (m : Moment) (upResidue downResidue : Quad Nat) (pending : Nat) (isolated : Bool) : Bank :=
  { Bank.cleared with periodStart := some m, upResidue := upResidue, downResidue := downResidue, pendingIn := pending,
                      isolatedInPeriod := isolated }

/-- The banks swapped at a period close (R153). -/
def Home.swapBanks (x : Home) (m : Moment) : Home :=
  let closing := x.openBank.closeAt m x.pending.sum x.discarded
  let opening := Bank.openAt m x.openBank.upResidue x.openBank.downResidue x.pending.sum (decide (x.state = .isolated))
  if x.secondOpen then
    { x with bankA := opening, bankB := closing, secondOpen := false, closedWaiting := true, discarded := 0 }
  else { x with bankA := closing, bankB := opening, secondOpen := true, closedWaiting := true, discarded := 0 }

/-- The open bank's spans raised by 1, holding at 255 (R154). -/
def Home.raiseSpans (x : Home) : Home := x.onOpen fun b => { b with spans := satAdd 255 b.spans 1 }

/-- SOAKING, ONLINE, LOST or ISOLATED: the states whose banks a close swaps (R153). -/
def bankSwaps : HomeState → Bool
  | .soaking | .online | .lost | .isolated => true
  | .free | .claiming | .measuring | .closing | .forward => false

/-- A home at a period close: swapped, or its spans raised, or untouched; a FORWARD entry's retention falls (R17, R153, R154). -/
def Home.atClose (x : Home) (m : Moment) : Home :=
  match x.state with
  | .soaking | .online | .lost | .isolated => if x.closedWaiting then x.raiseSpans else x.swapBanks m
  | .measuring | .closing => x.raiseSpans
  | .forward => { x with retention := x.retention - 1 }
  | .free | .claiming => x

/-- A home whose swap a close skips (R154). -/
def Home.swapSkipped (x : Home) : Bool := bankSwaps x.state && x.closedWaiting

/-- The states a step mark reaches (R140, R155). -/
def stepMarked : HomeState → Bool
  | .measuring | .soaking | .online | .lost | .isolated | .closing => true
  | .free | .claiming | .forward => false

/-- CLOCK_STEP set in the open bank (R155). -/
def Home.markStep (x : Home) : Home :=
  if stepMarked x.state then x.onOpen fun b => { b with clockStep := true } else x

/-- A billing record built from a bank of an entry with the period end given (R158, Table 9-3). -/
def Home.record (x : Home) (h : HomeIndex) (number : BitVec 16) (b : Bank) (stop : Option Moment) (final : Bool) : Record :=
  let unset := b.periodStart.isNone || stop.isNone
  let dur := match b.periodStart, stop with
    | some a, some e => duration a e
    | _, _ => (0, TimeOfDay.zero)
  let backward := match b.periodStart, stop with
    | some a, some e => decide (e.number < a.number)
    | _, _ => false
  { number := number
    home := h
    identity := x.identity
    account := x.account
    periodStart := b.periodStart
    periodEnd := stop
    days := dur.1
    time := dur.2
    spans := b.spans
    up := b.up
    down := b.down
    overUp := b.overUp
    overDown := b.overDown
    withheld := b.withheld
    discarded := if final then x.discarded else b.discarded.getD 0
    pendingIn := b.pendingIn
    pendingOut := if final then 0 else b.pendingOut.getD 0
    upResidue := if final then b.upResidue else Quad.fill 0
    downResidue := if final then b.downResidue else Quad.fill 0
    final := final
    clockUnset := unset
    clockStep := b.clockStep || backward
    saturated := b.saturated
    isolatedInPeriod := b.isolatedInPeriod
    leaveReason := if final then x.leaveReason else none
    movedFrom := x.movedFrom
    movedTo := if final then x.forwardTo else none }

end Sys2Proof.Machine
end

