-- ==== Sys2Proof/Machine/HomeTable.lean ====
section
/-! DEFINITION. The Home Table's transitions (01_the_home_table.md): freeing, entry to MEASURING, CLOSING, FORWARD and ISOLATED, the guarantee pool, and the identity search queue. -/

namespace Sys2Proof.Machine

/-- The pool of a tree raised by g (R8). -/
def State.poolAdd (s : State) (t : Tree) (g : Nat) : State := s.onTree t fun x => { x with pool := x.pool + g }

/-- The pool of a tree lowered by g (R8). -/
def State.poolSub (s : State) (t : Tree) (g : Nat) : State := s.onTree t fun x => { x with pool := x.pool - g }

/-- An entry that leaves the pooled states takes its g out of its tree's pool (R8). -/
def State.leavePool (s : State) (x : Home) : State :=
  match x.tree with
  | some t => if inPool x.state then s.poolSub t x.g else s
  | none => s

/-- The emission walk woken: an IDLE walk starts, a WALKING walk goes round again, a BLOCKED walk stays (R156). -/
def State.wakeWalk (s : State) : State :=
  match s.emission.state with
  | .idle => { s with emission := { s.emission with state := .walking, passes := 0 } }
  | .walking => { s with emission := { s.emission with passes := 0 } }
  | .blocked => s

/-- An entry leaves the forward list, the order of the others kept (R16). -/
def State.leaveForwardList (s : State) (h : HomeIndex) : State :=
  { s with forwardList := s.forwardList.filter fun i => !decide (i = h) }

/-- An entry is freed (R1): its g leaves the pool, its tag drains, it leaves the forward list, and every field takes its FREE value. -/
def State.freeEntry (s : State) (h : HomeIndex) : State :=
  let x := s.home h
  (((s.leavePool x).drainTag x).leaveForwardList h).setHome h Home.free

/-- A claim abandoned: a waiting CLAIM is withdrawn and the entry freed (R50, R57). -/
def State.abandonClaim (s : State) (h : HomeIndex) : State := (s.onLink fun l => l.withdrawClaim h).freeEntry h

/-- Entry to MEASURING with a phase (R4, R62). -/
def Home.toMeasuring (x : Home) (phase : MeasurePhase) : Home :=
  { x with state := .measuring, attempts := 0, samples := [], report := 0, since := 0, missed := 0, deferred := false, soak := 0,
           lostTimer := 0, claim := none, phase := some phase, refresh := none, refreshDue := false }

/-- A held LASER-OFF of a tag discarded (R112). -/
def TreeLine.discardHeldLaserOff (t : TreeLine) (tag : Nat) : TreeLine :=
  { t with held := t.held.filter fun m => !m.laserOffFor tag }

/-- The Rogue Monitor's part of an entry leaving ISOLATED (R112). -/
def State.leaveIsolated (s : State) (x : Home) : State :=
  match x.tree, x.tag with
  | some t, some tag => if x.state = .isolated then s.onTree t fun y => y.discardHeldLaserOff tag else s
  | _, _ => s

/-- Entry to CLOSING (R5): pending goes to the meters (R107), and the tag, the report, since, missed, the lost timer, the deferred mark, the
samples and the silence are cleared. R5 names neither the soak countdown nor attempts used; they stand as they stood, a DESIGN CHOICE (assumption 40). -/
def Home.toClosing (x : Home) (reason : LeaveReason) (forwardTo : Option Station) : Home :=
  { x.pendingToMeters with
    state := .closing, leaveReason := some reason, forwardTo := forwardTo, tag := none, report := 0, since := 0, missed := 0,
    lostTimer := 0, deferred := false, samples := [], silence := .none, phase := none, refresh := none, refreshDue := false }

/-- An entry closed with a leave reason and forward-to: its tag drains, its g leaves the pool, and the emission walk is woken (R5, R156). -/
def State.closeEntry (s : State) (h : HomeIndex) (reason : LeaveReason) (forwardTo : Option Station) : State :=
  let x := s.home h
  ((((s.leaveIsolated x).leavePool x).drainTag x).setHome h (x.toClosing reason forwardTo)).wakeWalk

/-- Entry to ISOLATED (R109). The soak countdown and attempts used, which R109 does not name, stand as they stood (DESIGN CHOICE, assumption 40). -/
def Home.toIsolated (x : Home) : Home :=
  { x.pendingToDiscarded with
    state := .isolated, report := 0, since := 0, deferred := false, missed := 0, lostTimer := 0, refresh := some 0, refreshDue := false }

/-- An entry isolated (R109): LASER-OFF is queued as urgent, among the outstanding messages when a search found the home (R127), the tree's isolation counter
rises, and EVENT ISOLATED goes to all stations. -/
def State.isolate (s : State) (h : HomeIndex) (cause : IsolateCause) (evidence : Option Evidence) : State :=
  let x := s.home h
  let s := s.setHome h x.toIsolated
  let s := match x.tree with
    | some t =>
      let s := s.onTree t fun y => { y with isolations := bump y.isolations }
      match x.tag with
      | some tag => s.offerCtl t { CtlMsg.new .laserOff tag with awaited := decide (cause = IsolateCause.search) }
      | none => s
    | none => s
  s.event (.isolated h x.identity x.account x.tree x.tag x.score cause evidence)

/-- A FORWARD entry: identity, account, tree and forward-to kept, retention 3 (R15). -/
def Home.toForward (x : Home) (st : Station) : Home :=
  { Home.free with state := .forward, identity := x.identity, account := x.account, tree := x.tree, forwardTo := some st, retention := 3 }

/-- The oldest FORWARD entry freed when the forward list holds 16 (R16). -/
def State.makeForwardRoom (s : State) : State :=
  match s.forwardList with
  | h :: _ => if 16 ≤ s.forwardList.length then s.freeEntry h else s
  | [] => s

/-- The end of CLOSING after the FINAL record has been enqueued: the entry is freed, or becomes FORWARD (R15, R16). -/
def State.endClosing (s : State) (h : HomeIndex) : State :=
  let x := s.home h
  match x.forwardTo with
  | none => s.freeEntry h
  | some st =>
    let s := s.makeForwardRoom
    { s with forwardList := s.forwardList ++ [h] }.setHome h (x.toForward st)

/-- An identity removed from the admission list, the others keeping their order (R52). -/
def Enrollment.forget (e : Enrollment) (id : Identity) : Enrollment :=
  { e with admission := e.admission.filter fun a => !decide (a.identity = id) }

/-- A claim succeeds (R56): a waiting CLAIM is withdrawn, the admission entry removed, and the entry goes to MEASURING in ANNOUNCING with the lowest
free tag and a TAG-ASSIGN queued, its open bank's period start taken from the clock (R4, R6). Every CLAIMING entry has a free tag (R51); were there none, the
transition would not be made (assumption 9). -/
def State.succeedClaim (s : State) (h : HomeIndex) (movedFrom : Option Station) : State :=
  let x := s.home h
  match x.tree, x.identity with
  | some t, some id =>
    match (s.tree t).lowestFree with
    | none => s
    | some tag =>
      let s := (s.onLink fun l => l.withdrawClaim h).onEnrol fun e => e.forget id
      let start := s.cal.reading
      let x' := ({ x with tag := some tag, movedFrom := movedFrom }.toMeasuring .announcing).onOpen fun b =>
        { b with periodStart := start }
      ((s.setHome h x').giveTag t tag h).offerCtl t (.new (.tagAssign id) tag)
  | _, _ => s

/-! ## The identity search engine -/

/-- A walk request queued when fewer than 6 are; the Bool says whether it was (R20). -/
def State.queueWalk (s : State) (r : WalkRequest) : State × Bool :=
  if s.walks.length < 6 then ({ s with walks := s.walks ++ [r] }, true) else (s, false)

/-- A walk over the whole table for an identity (1.7). -/
def wholeWalk (source : WalkSource) (id : Identity) : WalkRequest := ⟨source, id, 0, 128⟩

/-- The walk at the head completes and its request leaves the queue (R20). -/
def State.endWalk (s : State) : State := { s with walks := s.walks.tail }

/-- The entry of a range that holds an identity (R21, R22). -/
def State.holderIn (s : State) (id : Identity) (start count : Nat) : Option HomeIndex :=
  homeIndexes.find? fun h =>
    decide (start ≤ h.val) && decide (h.val < start + count) && decide ((s.home h).state ≠ .free) &&
      decide ((s.home h).identity = some id)

end Sys2Proof.Machine
end

