-- ==== Sys2Proof/Machine/Search.lean ====
section
/-! DEFINITION. The Isolation Search (07_the_isolation_search.md): the start, the probes, the steps' verdicts and the end. -/

namespace Sys2Proof.Machine

/-- The search context of a tree changed. -/
def State.onSearch (s : State) (t : Tree) (f : SearchContext → SearchContext) : State :=
  s.onTree t fun x => { x with search := f x.search }

/-- A candidate is present: its entry holds the recorded identity, is on the tree and is in service (R117). -/
def State.present (s : State) (t : Tree) (c : Candidate) : Bool :=
  (s.home c.home).servedOn t && decide ((s.home c.home).identity = some c.identity)

/-- The positions of a run of candidates. -/
def positions (first count : Nat) : List Nat := (List.range count).map (first + ·)

/-- The first half of a current range: ceil(c/2) candidates (R121). -/
def halfCount (count : Nat) : Nat := (count + 1) / 2

/-- Every position of every trail entry (R121). -/
def SearchContext.trailPositions (c : SearchContext) : List Nat := c.trail.flatMap fun e => positions e.first e.count

/-- The target set of a probe by its step (R121). -/
def SearchContext.targetOf (c : SearchContext) : List Nat :=
  match c.step with
  | .baseline => []
  | .descend => positions c.first (halfCount c.count) ++ c.trailPositions
  | .confirm => c.first :: c.trailPositions
  | .recheck => []
  | .final => positions 0 c.candidates.length

/-- One candidate compared with the target set at a probe's set-up (R122): a present candidate that must change has its silence set and a SILENCE
queued, which joins the outstanding messages. -/
def State.commandCandidate (s : State) (t : Tree) (target : List Nat) (place : Candidate × Nat) : State :=
  let c := place.1
  let x := s.home c.home
  if s.present t c then
    match x.tag with
    | none => s
    | some tag =>
      if place.2 ∈ target ∧ x.silence = .none then
        (s.onHome c.home fun y => { y with silence := .search }).offerCtl t ⟨.silence true, tag, 0, true⟩
      else if place.2 ∉ target ∧ x.silence = .search then
        (s.onHome c.home fun y => { y with silence := .none }).offerCtl t ⟨.silence false, tag, 0, true⟩
      else s
  else s

/-- A probe set up for a step on a range (R122): the probe number rises, the target set is fixed, the candidates are commanded in position order and the
probe is SETTLING with 0 settle boundaries. -/
def State.setupProbe (s : State) (t : Tree) (step : SearchStep) (first count : Nat) : State :=
  let s := s.onSearch t fun c =>
    let c := { c with step := step, first := first, count := count, probe := c.probe + 1, phase := .settling, settle := 0,
                      observations := 0, dark := 0 }
    { c with target := c.targetOf }
  let ctx := (s.tree t).search
  ctx.candidates.zipIdx.foldl (fun s place => s.commandCandidate t ctx.target place) s

/-- A place before another in the candidate order: higher score first, equal scores by increasing home index (R119). -/
def State.ranksBefore (s : State) (a b : HomeIndex) : Bool :=
  decide ((s.home b).score < (s.home a).score) || (decide ((s.home a).score = (s.home b).score) && decide (a.val ≤ b.val))

/-- An entry put into its place in the candidate order. -/
def State.insertRanked (s : State) (a : HomeIndex) : List HomeIndex → List HomeIndex
  | [] => [a]
  | b :: bs => if s.ranksBefore a b then a :: b :: bs else b :: s.insertRanked a bs

/-- The candidate list a start builds: the entries in service on the tree by score and home index, each with its identity (R119). -/
def State.candidatesOf (s : State) (t : Tree) : List Candidate :=
  ((homeIndexes.filter fun h => (s.home h).servedOn t).foldr s.insertRanked []).filterMap fun h =>
    (s.home h).identity.map fun id => ⟨h, id⟩

/-- A search starts on a tree (R119): the candidate list is built and frozen, everything but the last outcome is replaced, and the BASELINE probe is set
up. A zone decided since the map point will be withdrawn (R45). -/
def State.startSearch (s : State) (t : Tree) (cause : SearchCause) : State :=
  let ks := s.candidatesOf t
  let s := s.onTree t fun x =>
    { x with searchSinceMap := true
             search := { SearchContext.idle x.search.last with running := true, cause := cause, candidates := ks } }
  s.setupProbe t .baseline 0 0

/-- The silence of one entry ended with the search (R134, 1). -/
def State.endSilence (t : Tree) (s : State) (h : HomeIndex) : State :=
  let x := s.home h
  if x.tree = some t ∧ x.silence = .search then
    let s := s.onHome h fun y => { y with silence := .none }
    match x.tag with
    | some tag => s.offerCtl t (.new (.silence false) tag)
    | none => s
  else s

/-- The hold-off an end sets: 1000 epochs after UNRESOLVED, else 100 (R115). -/
def holdOffAfter : SearchOutcome → Nat
  | .unresolved => 1000
  | .clear | .found | .aborted => 100

/-- A search ends (R134): silences cleared with SILENCE off queued in order of home index (DESIGN CHOICE, assumption 7), the context IDLE with its last outcome, the dark counter 0, the hold-off set, and EVENT
SEARCH_END queued. -/
def State.endSearch (s : State) (t : Tree) (outcome : SearchOutcome) (reason : SearchReason) : State :=
  let ctx := (s.tree t).search
  let last : LastSearch := ⟨outcome, reason, ctx.cause, ctx.probe, ctx.candidates.length, ctx.foundCount⟩
  let found := ctx.found.filterMap fun h => ctx.candidates.find? fun c => decide (c.home = h)
  let s := s.onTree t TreeLine.forgetAwaited
  let s := homeIndexes.foldl (State.endSilence t) s
  let s := s.onTree t fun x =>
    { x with search := SearchContext.idle (some last), darkCounter := 0, holdOff := holdOffAfter outcome }
  s.event (.searchEnd t last found)

/-- The next probe of a search, or its end at the limit of 40 probes (R131). -/
def State.nextProbe (s : State) (t : Tree) (step : SearchStep) (first count : Nat) : State :=
  if 40 ≤ (s.tree t).search.probe then s.endSearch t .unresolved .limit else s.setupProbe t step first count

/-- The next step on a current range: DESCEND with 2 or more candidates, CONFIRM with 1 (R125, R126, R128). -/
def State.examine (s : State) (t : Tree) (first count : Nat) : State :=
  if 2 ≤ count then s.nextProbe t .descend first count else s.nextProbe t .confirm first count

/-- A pop of the trail: the top entry becomes the current range; an empty trail leads to FINAL (R128), the current range standing as it is (assumption 27). -/
def State.popTrail (s : State) (t : Tree) : State :=
  let c := (s.tree t).search
  match c.trail with
  | [] => s.nextProbe t .final c.first c.count
  | e :: rest => (s.onSearch t fun c => { c with trail := rest }).examine t e.first e.count

/-- A home recorded as found: the count rises, and the index joins the list while it holds fewer than 6 (R127). -/
def SearchContext.recordFound (c : SearchContext) (h : HomeIndex) : SearchContext :=
  { c with foundCount := satAdd 62 c.foundCount 1, found := if c.found.length < 6 then c.found ++ [h] else c.found }

/-- A clear CONFIRM on the candidate at a position (R127): isolated and recorded when present, recorded when already ISOLATED with the recorded identity. -/
def State.confirmClear (s : State) (t : Tree) (pos : Nat) : State :=
  match (s.tree t).search.candidates[pos]? with
  | none => s
  | some c =>
    if s.present t c then (s.isolate c.home .search none).onSearch t fun x => x.recordFound c.home
    else if (s.home c.home).state = .isolated ∧ (s.home c.home).identity = some c.identity then
      s.onSearch t fun x => x.recordFound c.home
    else s

/-- The action of a verdict under its step's rule (R125 to R129). A RECHECK leaves the current range as it stands (assumption 27). -/
def State.verdict (s : State) (t : Tree) (lit : Bool) : State :=
  let c := (s.tree t).search
  match c.step, lit with
  | .baseline, false => s.endSearch t .clear .none
  | .baseline, true =>
    if c.candidates.length = 0 then s.nextProbe t .final 0 0 else s.examine t 0 c.candidates.length
  | .descend, false => s.examine t c.first (halfCount c.count)
  | .descend, true =>
    (s.onSearch t fun x => { x with trail := ⟨c.first, halfCount c.count, c.probe⟩ :: x.trail }).examine t
      (c.first + halfCount c.count) (c.count - halfCount c.count)
  | .confirm, false => (s.confirmClear t c.first).nextProbe t .recheck c.first c.count
  | .confirm, true => s.popTrail t
  | .recheck, false => s.endSearch t .found .none
  | .recheck, true => s.popTrail t
  | .final, false => s.endSearch t .unresolved .candidates
  | .final, true => s.endSearch t .unresolved .foreign

/-- A probe observation (R124): the third gives the verdict, lit when 2 or 3 were DARK. A SETTLING probe observes nothing (R123). -/
def State.observe (s : State) (t : Tree) (dark : Bool) : State :=
  let c := (s.tree t).search
  match c.phase with
  | .settling => s
  | .observing =>
    let seen := c.observations + 1
    let darks := c.dark + (if dark then 1 else 0)
    let s := s.onSearch t fun x => { x with observations := seen, dark := darks }
    if 3 ≤ seen then s.verdict t (decide (2 ≤ darks)) else s

end Sys2Proof.Machine
end

