-- ==== Sys2Proof/Machine/Rogue.lean ====
section
/-! DEFINITION. The Rogue Monitor (06_rogue_light_evidence_and_isolation.md): evidence charged to a home, the dark counter and the start of a search. -/

namespace Sys2Proof.Machine

/-- The weight of a kind of evidence (Table 6-2). -/
def Evidence.weight : Evidence → Nat
  | .overrun => 24
  | .early => 16
  | .drift => 8
  | .identity => 128

/-- The record with its score raised, saturating at 255 (R100). -/
def Home.raiseScore (x : Home) (w : Nat) : Home := { x with score := satAdd 255 x.score w }

/-- Evidence charged to an entry as it stands (R100), with the isolate test for an entry in service (R108). -/
def State.charge (s : State) (h : HomeIndex) (kind : Evidence) : State :=
  match (s.home h).state with
  | .soaking | .online | .lost =>
    let s := s.onHome h fun x => x.raiseScore kind.weight
    if 192 ≤ (s.home h).score then s.isolate h .score (some kind) else s
  | .measuring | .isolated => s.onHome h fun x => x.raiseScore kind.weight
  | .free | .claiming | .closing | .forward => { s with discardedEvidence := bump s.discardedEvidence }

/-- The kind's counter on a tree raised (Table 6-3). -/
def TreeLine.countEvidence (t : TreeLine) : Evidence → TreeLine
  | .overrun => { t with overruns := bump t.overruns }
  | .early => { t with earlies := bump t.earlies }
  | .drift => { t with drifts := bump t.drifts }
  | .identity => t

/-- Evidence found on a tree: counted, then charged (R101, R102). -/
def State.evidence (s : State) (t : Tree) (h : HomeIndex) (kind : Evidence) : State :=
  (s.onTree t fun x => x.countEvidence kind).charge h kind

/-- IDENTITY evidence: the station's counter rises with each charge (R103). -/
def State.chargeIdentity (s : State) (h : HomeIndex) : State :=
  { s with identities := bump s.identities }.charge h .identity

/-- An addition to a tree's dark counter (R113) and the test it makes (R114). -/
def State.addDark (s : State) (t : Tree) (w : Nat) : State :=
  let x := s.tree t
  if x.search.running then s
  else
    let c := satAdd 255 x.darkCounter w
    let s := s.onTree t fun y => { y with darkCounter := c }
    if 16 ≤ c ∧ x.running = true ∧ x.holdOff = 0 then
      (s.onTree t fun y => { y with darkSearches := bump y.darkSearches }).startSearch t .dark
    else s

/-- OVERLAP evidence (R104, R113). -/
def State.overlap (s : State) (t : Tree) : State :=
  (s.onTree t fun x => { x with overlaps := bump x.overlaps }).addDark t 2

/-- DARK evidence (R105, R113). -/
def State.dark (s : State) (t : Tree) : State :=
  (s.onTree t fun x => { x with darks := bump x.darks }).addDark t 4

/-- An entry at an epoch end (R106, R107): the score is halved, and pending goes to the meters when the score falls below 32. -/
def Home.halve (x : Home) : Home :=
  let x' := { x with score := x.score / 2 }
  if x.watched && !x'.watched then x'.pendingToMeters else x'

/-- The refresh count of an entry at an epoch end, with whether its tree is RUNNING (R111). -/
def Home.refreshTick (x : Home) (running : Bool) : Home :=
  match x.refresh with
  | none => x
  | some n =>
    if x.state = .isolated ∧ running = true then
      (if n < 99 then { x with refresh := some (n + 1) } else { x with refreshDue := true })
    else x

/-- A tree at an epoch end (R113, R115): the dark counter is halved unless a search runs, and the hold-off falls. -/
def TreeLine.epochEnd (t : TreeLine) : TreeLine :=
  { t with darkCounter := if t.search.running then t.darkCounter else t.darkCounter / 2, holdOff := t.holdOff - 1 }

end Sys2Proof.Machine
end

