-- ==== Sys2Proof/Machine/Enroll.lean ====
section
/-! DEFINITION. The Enrollment Engine (03_enrolling_homes.md): the lists, captures, admission, rejoins and conflicts, the claim protocol and reach measurement. -/

namespace Sys2Proof.Machine

/-! ## The lists -/

/-- An identity barred: it joins as newest, the oldest of 8 removed for a new one (R52). -/
def Enrollment.bar (e : Enrollment) (id : Identity) : Enrollment :=
  let rest := e.barred.filter fun i => !decide (i = id)
  { e with barred := (if 8 ≤ rest.length then rest.tail else rest) ++ [id] }

/-- An identity in the barred list. -/
def Enrollment.isBarred (e : Enrollment) (id : Identity) : Bool := e.barred.contains id

/-- An identity's admission entry. -/
def Enrollment.admissionOf (e : Enrollment) (id : Identity) : Option Admission :=
  e.admission.find? fun a => decide (a.identity = id)

/-- The unknown list takes an identity as newest, the oldest of 8 removed for a new one (R53). -/
def Enrollment.takeUnknown (e : Enrollment) (id : Identity) (t : Tree) (reason : UnknownReason) : Enrollment :=
  let rest := e.unknown.filter fun u => !decide (u.identity = id)
  { e with unknown := (if 8 ≤ rest.length then rest.tail else rest) ++ [⟨id, t, reason, 0⟩] }

/-- An identity given to the unknown list. -/
def State.noteUnknown (s : State) (id : Identity) (t : Tree) (reason : UnknownReason) : State :=
  s.onEnrol fun e => e.takeUnknown id t reason

/-- An admission replaced in place or joining the tail; none when the list holds 32 and not the identity (R52). -/
def Enrollment.admitEntry (e : Enrollment) (a : Admission) : Option Enrollment :=
  if (e.admissionOf a.identity).isSome then
    some { e with admission := e.admission.map fun b => if b.identity = a.identity then a else b }
  else if e.admission.length < 32 then some { e with admission := e.admission ++ [a] }
  else none

/-! ## Captures -/

/-- The identity of a DISCOVER zone burst: 8 bytes with a correct 2-byte check; otherwise the burst is garbled (R33, R181). -/
def zoneIdentity (bytes : List Byte) : Option Identity :=
  if bytes.length = 10 ∧ checked (bytes.take 8) (bytes.drop 8) = true then some (BitVec.ofNat 64 (beNat (bytes.take 8))) else none

/-- What the capture list holds after some bursts, and how many clean bursts were extra and how many bursts garbled (R46). -/
structure CaptureFill where
  list : List Identity
  extra : Nat
  garbled : Nat
deriving DecidableEq, Repr

/-- One burst taken into the capture list (R46). -/
def CaptureFill.burst (f : CaptureFill) (bytes : List Byte) : CaptureFill :=
  match zoneIdentity bytes with
  | none => { f with garbled := f.garbled + 1 }
  | some id =>
    if id ∈ f.list ∨ 4 ≤ f.list.length then { f with extra := f.extra + 1 } else { f with list := f.list ++ [id] }

/-- One capture dealt with (R47): barred and counted, or a capture check queued, or dropped and counted with a full queue (R20). -/
def State.dealCapture (t : Tree) (s : State) (id : Identity) : State :=
  if s.enrol.isBarred id then s.onEnrol fun e => { e with barredCaptures := bump e.barredCaptures }
  else
    match s.queueWalk (wholeWalk (.capture t) id) with
    | (s', true) => s'
    | (s', false) => { s' with walkDrops := bump s'.walkDrops }

/-- The bursts of a DISCOVER zone handed over (R46, R47). -/
def State.capture (s : State) (t : Tree) (bursts : List (List Byte)) : State :=
  let f := bursts.foldl CaptureFill.burst ⟨[], 0, 0⟩
  let s := (s.onTree t fun x => { x with captures := f.list }).onEnrol fun e =>
    { e with collisions := satAdd 65535 e.collisions f.garbled, extraCaptures := satAdd 65535 e.extraCaptures f.extra }
  f.list.foldl (State.dealCapture t) s

/-- How many entries of a tree are CLAIMING (R51). -/
def State.claimingOn (s : State) (t : Tree) : Nat := homeIndexes.countP fun h => (s.home h).standsOn .claiming t

/-- The tag test: the tree's free tag places outnumber its CLAIMING entries (R51). -/
def State.tagTest (s : State) (t : Tree) : Bool := decide (s.claimingOn t < (s.tree t).freeTags)

/-- The capacity test: the pool plus g does not exceed 1200 (R8). -/
def State.poolTest (s : State) (t : Tree) (g : Nat) : Bool := decide ((s.tree t).pool + g ≤ 1200)

/-- The lowest-index FREE entry. -/
def State.lowestFreeEntry (s : State) : Option HomeIndex := homeIndexes.find? fun h => decide ((s.home h).state = .free)

/-- A new CLAIMING entry: the admission's values, the capturing tree, and a claim context with the CLAIM not yet sent, hold 100 and wait count 0 (R51). -/
def Home.claiming (a : Admission) (t : Tree) : Home :=
  { Home.free with state := .claiming, identity := some a.identity, account := some a.account, g := a.g, p := a.p, tree := some t,
                   claim := some ClaimContext.fresh }

/-- A capture with no match goes on to admission and capacity (R51). -/
def State.admitCapture (s : State) (t : Tree) (id : Identity) : State :=
  if s.enrol.isBarred id then s.onEnrol fun e => { e with barredCaptures := bump e.barredCaptures }
  else
    match s.enrol.admissionOf id with
    | none => s.noteUnknown id t .notAdmitted
    | some a =>
      match s.lowestFreeEntry with
      | none => s.noteUnknown id t .tableFull
      | some h =>
        if !s.tagTest t then s.noteUnknown id t .tagsFull
        else if !s.poolTest t a.g then s.noteUnknown id t .capacity
        else ((s.setHome h (Home.claiming a t)).poolAdd t a.g).offerClaim h

/-- The ignored-capture counter raised (Table 3-3). -/
def State.ignoreCapture (s : State) : State := s.onEnrol fun e => { e with ignoredCaptures := bump e.ignoredCaptures }

/-- A rejoin on the entry's own tree: MEASURING in ANNOUNCING with its tag, and a TAG-ASSIGN queued (R49). -/
def State.rejoin (s : State) (h : HomeIndex) (t : Tree) (id : Identity) : State :=
  let x := s.home h
  let s := s.setHome h (x.toMeasuring .announcing)
  match x.tag with
  | some tag => s.offerCtl t (.new (.tagAssign id) tag)
  | none => s

/-- A rejoin of a LOST entry on another tree (R49): the entry is moved when the capturing tree's pool and tags allow, else it stays LOST and the unknown list
takes the identity with reason CAPACITY. -/
def State.rejoinMoved (s : State) (h : HomeIndex) (t : Tree) (id : Identity) : State :=
  let x := s.home h
  if s.poolTest t x.g && s.tagTest t then
    match (s.tree t).lowestFree with
    | none => s.noteUnknown id t .capacity
    | some tag =>
      let s := ((s.leavePool x).drainTag x).poolAdd t x.g
      let x' := { x with tree := some t, tag := some tag, silence := .none }.toMeasuring .announcing
      ((s.setHome h x').giveTag t tag h).offerCtl t (.new (.tagAssign id) tag)
  else s.noteUnknown id t .capacity

/-- A local identity conflict (R50): the identity is barred and the event queued; a CLAIMING entry is abandoned, any other is
charged IDENTITY. The event is offered before the claim is withdrawn (DESIGN CHOICE, assumption 7). -/
def State.localConflict (s : State) (h : HomeIndex) (t : Tree) (id : Identity) : State :=
  let x := s.home h
  let s := (s.onEnrol fun e => e.bar id).event (.identityConflict id h x.tree (.localTree t))
  if x.state = .claiming then s.abandonClaim h else s.chargeIdentity h

/-- The action on a capture check's result, by the matched entry as it stands (Table 3-3, R48). -/
def State.actCapture (s : State) (t : Tree) (id : Identity) : State :=
  match s.holder id with
  | none => s.admitCapture t id
  | some h =>
    let same := decide ((s.home h).tree = some t)
    match (s.home h).state with
    | .free => s.admitCapture t id
    | .forward => (s.freeEntry h).admitCapture t id
    | .lost => if same then s.rejoin h t id else s.rejoinMoved h t id
    | .soaking | .online => if same then s.rejoin h t id else s.localConflict h t id
    | .claiming | .measuring => if same then s.ignoreCapture else s.localConflict h t id
    | .isolated | .closing => s.ignoreCapture

/-! ## The claim protocol -/

/-- An OBJECT queued to a claimant. -/
def State.sendObject (s : State) (claimant : Station) (id : Identity) (index : Byte) (kind : ObjectKind) : State :=
  s.offerUrgent (toStation claimant) (.object id index kind)

/-- A RELEASE naming this station as releaser queued to all stations. -/
def State.sendRelease (s : State) (claimant : Station) (id : Identity) (index : Byte) : State :=
  s.offerUrgent toAll (.release id s.own claimant index)

/-- A CLAIM heard from another station (R59). -/
def State.hearClaim (s : State) (claimant : Station) (id : Identity) (index : Byte) : State :=
  let s := s.onEnrol fun e => e.forget id
  match s.queueWalk (wholeWalk (.claim claimant index) id) with
  | (s', true) => s'
  | (s', false) => s'.sendObject claimant id index .wait

/-- The action on a claim check's result, by the matched entry as it stands (Table 3-7, R60). -/
def State.actClaim (s : State) (claimant : Station) (index : Byte) (id : Identity) : State :=
  match s.holder id with
  | none => s
  | some h =>
    let x := s.home h
    match x.state with
    | .free => s
    | .lost => (s.closeEntry h .moved (some claimant)).sendRelease claimant id index
    | .closing =>
      (s.onHome h fun y => { y with forwardTo := some (y.forwardTo.getD claimant) }).sendRelease claimant id index
    | .forward => s.onHome h fun y => { y with forwardTo := some claimant }
    | .measuring | .soaking | .online => (s.sendObject claimant id index .held).chargeIdentity h
    | .isolated => s.sendObject claimant id index .held
    | .claiming =>
      ((s.abandonClaim h).onEnrol fun e => e.bar id).event (.identityConflict id h x.tree (.mutualClaim claimant))

/-- The action on a release check's result (R61). -/
def State.actRelease (s : State) (claimant : Station) (id : Identity) : State :=
  match s.holder id with
  | none => s
  | some h =>
    match (s.home h).state with
    | .closing => s.onHome h fun y => { y with forwardTo := some (y.forwardTo.getD claimant) }
    | .forward => s.onHome h fun y => { y with forwardTo := some claimant }
    | .free | .claiming | .measuring | .soaking | .online | .lost | .isolated => s

/-- An OBJECT or RELEASE that names no entry with its identity: discarded and counted (R58). -/
def State.unmatched (s : State) : State := s.onEnrol fun e => { e with unmatchedFrames := bump e.unmatchedFrames }

/-- The home index a claim index byte names (R57): none above 127, so that a frame with such an index is unmatched (R58; DESIGN CHOICE, assumption 33). -/
def claimedIndex (index : Byte) : Option HomeIndex := if h : index.toNat < 128 then some ⟨index.toNat, h⟩ else none

/-- The entry a claim frame names: the index names a non-FREE entry that holds the frame's identity (R57, R58). -/
def State.claimedEntry (s : State) (index : Byte) (id : Identity) : Option HomeIndex :=
  (claimedIndex index).filter fun h => decide ((s.home h).state ≠ .free) && decide ((s.home h).identity = some id)

/-- OBJECT HELD for a CLAIMING entry (R57). -/
def State.objectHeld (s : State) (h : HomeIndex) (station : Station) (id : Identity) : State :=
  let x := s.home h
  ((s.abandonClaim h).onEnrol fun e => e.bar id).event (.identityConflict id h x.tree (.objected station))

/-- OBJECT WAIT for a CLAIMING entry (R57): the fifth abandons the claim; an earlier one queues the CLAIM again and stops the hold, unless a CLAIM
queued again for the claim has not yet been reported sent (two CLAIMs of one claim: DESIGN CHOICE, assumption 32). -/
def State.objectWait (s : State) (h : HomeIndex) : State :=
  match (s.home h).claim with
  | none => s
  | some c =>
    if 5 ≤ c.waits + 1 then s.abandonClaim h
    else
      let c := { c with waits := c.waits + 1 }
      if c.again then s.onHome h fun x => { x with claim := some c }
      else (s.onHome h fun x => { x with claim := some c.queuedAgain }).offerClaim h

/-- A late OBJECT (R58). -/
def State.lateObject (s : State) (h : HomeIndex) (station : Station) (id : Identity) : ObjectKind → State
  | .wait => s
  | .held =>
    let x := s.home h
    let s := s.event (.identityConflict id h x.tree (.late station))
    if x.state = .measuring ∨ inService x.state = true then s.chargeIdentity h else s

/-- An OBJECT taken by the Enrollment Engine (R57, R58). -/
def State.takeObject (s : State) (station : Station) (id : Identity) (index : Byte) (kind : ObjectKind) : State :=
  match s.claimedEntry index id with
  | none => s.unmatched
  | some h =>
    if (s.home h).state = .claiming then
      match kind with
      | .held => s.objectHeld h station id
      | .wait => s.objectWait h
    else s.lateObject h station id kind

/-- A RELEASE that names this station as claimant (R56, R58). -/
def State.takeRelease (s : State) (releaser : Station) (id : Identity) (index : Byte) : State :=
  match s.claimedEntry index id with
  | none => s.unmatched
  | some h =>
    let x := s.home h
    if x.state = .claiming then s.succeedClaim h (some releaser)
    else if x.movedFrom = none ∧ x.state ≠ .forward then s.onHome h fun y => { y with movedFrom := some releaser }
    else s

/-! ## Reach measurement -/

/-- The fields of a burst head with a correct head check, a report within range and a tag 1 to 62 (Table 12-6, R181). -/
structure Head where
  tag : Nat
  report : Nat
  bytes : Nat
deriving DecidableEq, Repr

/-- A head read from its 7 bytes; none when its check fails or a field lies out of range (R181). -/
def readHead (bytes : List Byte) : Option Head :=
  let tag := beNat (bytes.take 1)
  let report := beNat ((bytes.drop 1).take 2)
  if bytes.length = 7 ∧ checked (bytes.take 5) (bytes.drop 5) = true ∧ 1 ≤ tag ∧ tag ≤ 62 ∧ report ≤ 8191 then
    some ⟨tag, report, beNat ((bytes.drop 3).take 2)⟩
  else none

/-- The level of a burst: the mean level code of its two head blocks, rounded down (R29). -/
def burstLevel (a b : Byte) : Nat := (a.toNat + b.toNat) / 2

/-- The sample of a MEASURE zone: a head with the zone's tag within the zone (R33); of several the first found is the sample, and one outside the zone is passed
over (DESIGN CHOICE, assumption 5). A head with a report above 8191 is no head here (R181; DESIGN
CHOICE, assumption 29). -/
def zoneSample (heads : List ZoneHead) (tag length : Nat) : Option Sample :=
  (heads.find? fun h => decide ((readHead h.bytes).map Head.tag = some tag) && decide (h.offset ≤ 8 * length - 1)).map fun h =>
    ⟨h.offset, burstLevel h.level0 h.level1⟩

/-- Samples ordered by offset, equal offsets in the order taken (R64). -/
def insertSample (x : Sample) : List Sample → List Sample
  | [] => [x]
  | y :: ys => if x.offset < y.offset then x :: y :: ys else y :: insertSample x ys

/-- The median of an attempt's samples (R64). -/
def medianSample (xs : List Sample) : Option Sample := (xs.foldl (fun acc x => insertSample x acc) [])[1]?

/-- The highest offset less the lowest is 2 or less (R63). -/
def samplesAgree (xs : List Sample) : Bool :=
  xs.all fun a => xs.all fun b => decide (a.offset ≤ b.offset + 2)

/-- Measurement ends in failure (R65): a new home is freed and noted as unknown, and joins the admission list where there is room and it is not listed; a home
with meters goes to LOST, its attempts used and samples as they stand (DESIGN CHOICE, assumption 40). -/
def State.failMeasurement (s : State) (h : HomeIndex) (reason : UnknownReason) : State :=
  let x := s.home h
  if x.eq.isSome then s.setHome h { x with state := .lost, lostTimer := 0, phase := none }
  else
    match x.identity, x.tree with
    | some id, some t =>
      ((s.freeEntry h).noteUnknown id t reason).onEnrol fun e =>
        if e.admission.length < 32 ∧ (e.admissionOf id).isNone then
          { e with admission := e.admission ++ [⟨id, x.account.getD 0, x.g, x.p⟩] }
        else e
    | _, _ => s.freeEntry h

/-- An attempt fails (R63). -/
def State.failAttempt (s : State) (h : HomeIndex) : State :=
  let s := s.onHome h fun x => { x with samples := [], attempts := x.attempts + 1 }
  if 4 ≤ (s.home h).attempts then s.failMeasurement h .noReply else s

/-- An attempt is accepted (R64): EQ and level estimate from the median, the drift accumulator cleared, a DELAY-SET queued and the phase SETTING. -/
def State.acceptAttempt (s : State) (h : HomeIndex) (t : Tree) (reach : Nat) (m : Sample) : State :=
  let x := s.home h
  let eq := reach - m.offset
  let s := s.setHome h { x with eq := some eq, level := 16 * m.level, drift := 0, attempts := 0, samples := [], phase := some .setting }
  match x.tag with
  | some tag => s.offerCtl t (.new (.delaySet eq .enrollment) tag)
  | none => s

/-- A MEASURE zone's result for an entry in SAMPLING (R63). -/
def State.takeSample (s : State) (h : HomeIndex) (t : Tree) (length : Nat) (sample : Option Sample) : State :=
  let reach := (length - 8) * 8
  match sample with
  | none => s.failAttempt h
  | some x =>
    if reach < x.offset then s.failMeasurement h .outOfReach
    else
      let samples := (s.home h).samples ++ [x]
      let s := s.onHome h fun y => { y with samples := samples }
      if samples.length < 3 then s
      else if samplesAgree samples then
        match medianSample samples with
        | some m => s.acceptAttempt h t reach m
        | none => s
      else s.failAttempt h

/-- A MEASURE zone handed over (R33, R45): its sample goes to the candidate when it is still in SAMPLING, else it is discarded. -/
def State.measureZone (s : State) (t : Tree) (h : HomeIndex) (tag length : Nat) (heads : List ZoneHead) : State :=
  let x := s.home h
  if x.standsOn .measuring t ∧ x.phase = some .sampling ∧ x.tag = some tag then s.takeSample h t length (zoneSample heads tag length)
  else s

end Sys2Proof.Machine
end

