-- ==== Sys2Proof/Machine/Grant.lean ====
section
/-! DEFINITION. The map point (04_upstream_grant_computation.md): the zone decision, stage 1, the split of the allowance, stage 2 and placement. -/

namespace Sys2Proof.Machine

/-- A tree's zone length Z = 10 × spread + 8 (3.1). -/
def zoneLength (c : Config) (t : Tree) : Nat := 10 * c.spread.get t.idx + 8

/-- The measure candidate of a tree: the lowest-index entry in MEASURING whose phase is SAMPLING (R44). -/
def State.measureCandidate (s : State) (t : Tree) : Option (HomeIndex × Nat) :=
  (homeIndexes.find? fun h => (s.home h).standsOn .measuring t && decide ((s.home h).phase = some .sampling)).bind fun h =>
    (s.home h).tag.map fun tag => (h, tag)

/-- The zone decided for the next round (R44, Table 3-2). -/
def State.decideZone (s : State) (c : Config) (t : Tree) : Option Zone :=
  let x := s.tree t
  let z := zoneLength c t
  if x.search.running then none
  else if c.discovery + 4 ≤ x.discovery then some ⟨.discover, z⟩
  else
    match s.measureCandidate t with
    | some (h, tag) => some ⟨.measure h tag, z⟩
    | none => if c.discovery ≤ x.discovery then some ⟨.discover, z⟩ else none

/-- The number of the next round (R23). -/
def State.nextRound (s : State) : BitVec 32 := s.clock.number + 1

/-- The quiet window is reserved in the next round: its number is a multiple of the quiet interval, or a search runs (R72). -/
def State.quietNext (s : State) (c : Config) (t : Tree) : Bool :=
  decide (s.nextRound.toNat % c.quiet = 0) || (s.tree t).search.running

/-- The room A_t (R72). -/
def roomOf (quiet : Bool) (zone : Option Zone) : Nat :=
  2000 - (if quiet then 8 else 0) - (match zone with | some z => z.length | none => 0)

/-- A home's demand d_h (R71). -/
def Home.demand (x : Home) : Nat := x.report - x.since

/-- A home is eligible on a tree: in service on it with silence NONE (R71). -/
def Home.eligible (x : Home) (t : Tree) : Bool := x.servedOn t && decide (x.silence = .none)

/-- An eligible home needs a window in a round (R73). -/
def Home.needsWindow (x : Home) (h : HomeIndex) (round : BitVec 32) : Bool :=
  match x.state with
  | .soaking | .lost => true
  | .online => decide (0 < x.demand) || decide (round.toNat % 8 = h.val % 8)
  | .free | .claiming | .measuring | .isolated | .closing | .forward => false

/-- The stage-1 payload G_h: nothing for a LOST home, else the demand up to the guarantee (R74). -/
def Home.stage1 (x : Home) : Nat := if x.state = .lost then 0 else min x.demand x.g

/-- The excess request e_h of a home given a stage-1 window (R78). -/
def Home.excess (x : Home) : Nat := if x.state = .online then min (x.demand - x.stage1) (x.p - x.stage1) else 0

/-- The eligible homes of a tree in increasing index. -/
def State.eligibleOn (s : State) (t : Tree) : List HomeIndex := homeIndexes.filter fun h => (s.home h).eligible t

/-- The service order (R75): deferred homes in increasing index, then the others from the rotation pointer, wrapping. -/
def State.serviceOrder (s : State) (t : Tree) : List HomeIndex :=
  let needing := (s.eligibleOn t).filter fun h => (s.home h).needsWindow h s.nextRound
  let pointer := (s.tree t).rotation
  let others := needing.filter fun h => !(s.home h).deferred
  (needing.filter fun h => (s.home h).deferred) ++ (others.filter fun h => decide (pointer.val ≤ h.val)) ++
    (others.filter fun h => decide (h.val < pointer.val))

/-- Windows fitted in service order into the room: the first that does not fit is deferred with every home after it (R76). -/
def fitWindows (cost : HomeIndex → Nat) : Nat → List HomeIndex → List HomeIndex × List HomeIndex
  | _, [] => ([], [])
  | room, h :: hs =>
    if cost h ≤ room then
      let r := fitWindows cost (room - cost h) hs
      (h :: r.1, r.2)
    else ([], h :: hs)

/-- The next rotation pointer (R77). -/
def nextPointer (pointer : HomeIndex) (eligible : List HomeIndex) : HomeIndex :=
  match eligible.find? fun h => decide (pointer.val < h.val) with
  | some h => h
  | none => eligible.headD pointer

/-- The figures of a tree after stage 1 and the excess requests of its placed homes (R70, steps 1 to 3). -/
structure Stage1 where
  zone : Option Zone
  quiet : Bool
  placed : List HomeIndex
  deferred : List HomeIndex
  left : Nat
  x : Nat
  pointer : HomeIndex
deriving DecidableEq, Repr

/-- Stage 1 of a tree's build (R71 to R78). -/
def State.stage1 (s : State) (c : Config) (t : Tree) : Stage1 :=
  let zone := s.decideZone c t
  let quiet := s.quietNext c t
  let room := roomOf quiet zone
  let cost := fun h => 3 + (s.home h).stage1
  let fit := fitWindows cost room (s.serviceOrder t)
  { zone := zone
    quiet := quiet
    placed := fit.1
    deferred := fit.2
    left := room - (fit.1.map cost).sum
    x := (fit.1.map fun h => (s.home h).excess).sum
    pointer := nextPointer (s.tree t).rotation (s.eligibleOn t) }

/-- A tree's share a_t of the allowance (R79). -/
def splitAllowance (e xAll x : Nat) : Nat := if xAll ≤ e then x else e * x / xAll

/-- One block each to the first homes in service order whose share is still below their request (R80). Each entry is a request and a share. -/
def giveLeftover : Nat → List (Nat × Nat) → List Nat
  | _, [] => []
  | 0, (_, share) :: rest => share :: giveLeftover 0 rest
  | l + 1, (e, share) :: rest => if share < e then (share + 1) :: giveLeftover l rest else share :: giveLeftover (l + 1) rest

/-- The excess shares of a tree's placed homes, in service order, from the pool P_t and the request X_t (R80). -/
def excessShares (pool x : Nat) (requests : List Nat) : List Nat :=
  if x ≤ pool then requests
  else
    let shares := requests.map fun e => pool * e / x
    giveLeftover (pool - shares.sum) (requests.zip shares)

/-- Windows laid contiguously from a start block (R81). Each entry is a home, its tag and its payload. -/
def layWindows : Nat → List (HomeIndex × Nat × Nat) → List Window
  | _, [] => []
  | start, (h, tag, payload) :: rest => ⟨h, tag, start, 3 + payload⟩ :: layWindows (start + 3 + payload) rest

/-- The deferred mark of an entry after its tree's build (R71, R73, R76). -/
def Home.afterBuild (x : Home) (t : Tree) (deferred : Bool) : Home := if x.tree = some t then { x with deferred := deferred } else x

/-- Stage 2, placement and the figures of one tree's build (R77, R79 to R81). -/
def State.finishBuild (s : State) (t : Tree) (st : Stage1) (e xAll : Nat) : State :=
  let a := splitAllowance e xAll st.x
  let pool := min st.left a
  let shares := excessShares pool st.x (st.placed.map fun h => (s.home h).excess)
  let first := match st.zone with | some z => z.length | none => 0
  let laid := layWindows first ((st.placed.zip shares).map fun (h, share) => (h, (s.home h).tag.getD 0, (s.home h).stage1 + share))
  (s.onTree t fun x =>
    { x with shadow := ⟨laid, st.zone, st.quiet⟩
             rotation := st.pointer
             lastBuild := ⟨st.x, a, pool, st.placed.length, st.deferred.length⟩
             deferredHomes := satAdd 65535 x.deferredHomes st.deferred.length
             searchSinceMap := false }).mapHomes fun h x => x.afterBuild t (st.deferred.contains h)

/-- The trees RUNNING at the map point. -/
def State.runningTrees (s : State) : List Tree := Tree.all.filter fun t => (s.tree t).running

/-- The map point (R70, R86). With no configuration no tree is RUNNING and nothing is built (R68). The E in force counts as the E used (R87) at every map point, whether or not a tree is
RUNNING: DEDUCED (assumption 38). -/
def State.mapPoint (s : State) : State :=
  let e := s.share.e
  let s := { s with eUsed := e, clock := { s.clock with mapPassed := true } }
  match s.config with
  | none => s
  | some c =>
    let builds := s.runningTrees.map fun t => (t, s.stage1 c t)
    let xAll := (builds.map fun b => b.2.x).sum
    let s' := builds.foldl (fun acc b => acc.finishBuild b.1 b.2 e xAll) s
    { s' with demandSum := s'.demandSum + xAll }

end Sys2Proof.Machine
end

