-- ==== Sys2Proof/Machine/Round.lean ====
section
/-! DEFINITION. The round boundary (R23, R25, R27, R45, R82, R83) and the reception of bursts, zones, quiet windows and downstream packets (R29 to R40). -/

namespace Sys2Proof.Machine

/-- The round clock at a round boundary (R23): the number and the positions rise, and the marks say what the boundary is. -/
def RoundClock.boundary (c : RoundClock) : RoundClock :=
  let epoch := decide (49 ≤ c.round)
  let share := epoch && decide (9 ≤ c.epochInShare)
  let second := epoch && decide (99 ≤ c.epochInSecond)
  { number := c.number + 1
    round := if epoch then 0 else c.round + 1
    epochInShare := if share then 0 else if epoch then c.epochInShare + 1 else c.epochInShare
    epochInSecond := if second then 0 else if epoch then c.epochInSecond + 1 else c.epochInSecond
    epochDue := c.epochDue || epoch
    shareDue := c.shareDue || share
    secondDue := c.secondDue || second
    mapPassed := false }

/-- An entry at a round boundary: a SOAKING entry's countdown falls on a RUNNING tree (R66), and the hold of a sent CLAIM falls (R55). -/
def Home.boundaryTick (x : Home) (running : Bool) : Home :=
  match x.state with
  | .soaking => if running then { x with soak := x.soak - 1 } else x
  | .claiming => { x with claim := x.claim.map fun c => if c.sent then { c with hold := c.hold - 1 } else c }
  | .free | .measuring | .online | .lost | .isolated | .closing | .forward => x

/-- Whether an entry's tree is RUNNING. -/
def State.runsFor (s : State) (x : Home) : Bool := x.tree.any fun t => (s.tree t).running

/-- A window survives the swap (R82). -/
def State.survives (s : State) (t : Tree) (w : Window) : Bool :=
  (s.home w.home).eligible t && decide ((s.home w.home).tag = some w.tag)

/-- The payload of a window: its length less 3. -/
def Window.payload (w : Window) : Nat := w.length - 3

/-- A surviving window's payload added to its home's since (R83). -/
def State.addSince (s : State) (w : Window) : State :=
  s.onHome w.home fun x => { x with since := satAdd 65535 x.since w.payload }

/-- A tree's discovery count at a boundary (R44). A withdrawn zone is no zone here, and the count of a tree whose DISCOVER zone was withdrawn rises like any
other (R45; DESIGN CHOICE, assumption 34). -/
def nextDiscovery (zone : Option Zone) (n : Nat) : Nat :=
  match zone with
  | some ⟨.discover, _⟩ => 0
  | some ⟨.measure _ _, _⟩ | none => satAdd 65535 n 1

/-- The reserved quiet window of the round that ends, when it has not been handed over (R123: the verdict of a probe may be taken after the boundary's
header), with whether the probe then running was past its settle, so that the window is one it observes (R124). -/
def TreeLine.quietLeft (x : TreeLine) : Option Bool :=
  if x.active.quiet && (!x.quietTaken || x.lateQuiet.isSome) then
    some (x.search.running && (decide (x.search.phase = .observing) || decide (2 ≤ x.search.settle)))
  else none

/-- A RUNNING tree's maps swapped, its zone opened or withdrawn, and its discovery count moved (R44, R45, R82, R83). -/
def State.swapTree (s : State) (t : Tree) : State :=
  let x := s.tree t
  if x.running then
    let kept := x.shadow.windows.filter (s.survives t)
    let zone := if x.searchSinceMap then none else x.shadow.zone
    let s := s.setTree t { x with active := ⟨kept, zone, x.shadow.quiet⟩, shadow := GrantMap.empty, windowsTaken := 0, zoneTaken := false,
                                  quietTaken := x.quietLeft.isSome, lateQuiet := x.quietLeft, lastBlockLit := false
                                  discovery := nextDiscovery zone x.discovery }
    kept.foldl State.addSince s
  else s

/-- An ANNOUNCING entry told its tag enters SAMPLING when no TAG-ASSIGN or LASER-ON for its tag is left (R62). -/
def State.announced (s : State) (t : Tree) (tag : Nat) : State :=
  let x := s.tree t
  match x.owner tag with
  | none => s
  | some h =>
    if (s.home h).phase = some .announcing ∧ (x.queue ++ x.held).any (fun m => m.announces tag) = false then
      s.onHome h fun y => { y with phase := some .sampling }
    else s

/-- The DELAY-SET of an accepted attempt has been sent twice: MEASURING to SOAKING (R64). -/
def State.delaySent (s : State) (t : Tree) (tag : Nat) : State :=
  match (s.tree t).owner tag with
  | none => s
  | some h =>
    if (s.home h).state = .measuring ∧ (s.home h).phase = some .setting then
      s.onHome h fun y => { y with state := .soaking, soak := (s.config.map Config.soak).getD 0, phase := none }
    else s

/-- A producer told that its message has been sent twice (R7, R27, R62, R64). -/
def State.reportSent (t : Tree) (s : State) (m : CtlMsg) : State :=
  match m.kind with
  | .drop => s.onTree t fun x => x.freeTag m.tag
  | .tagAssign _ | .laserOn => s.announced t m.tag
  | .delaySet _ .enrollment => s.delaySent t m.tag
  | .delaySet _ .drift => s
  | .silence _ | .laserOff => s

/-- A round boundary counted toward a SETTLING probe's settle (R123). -/
def TreeLine.settleBoundary (x : TreeLine) : TreeLine :=
  if x.search.running ∧ x.search.phase = .settling ∧ x.settled = true then
    { x with search := { x.search with settle := min 2 (x.search.settle + 1) } }
  else x

/-- A RUNNING tree's header: the messages chosen, the header sent, the producers told (R25, R27). -/
def State.sendHeader (s : State) (t : Tree) : State :=
  let x := s.tree t
  if x.running then
    let s := s.emit (.header t (headerBytes s.clock.number x.active (chosenMessages x.queue)))
    let s := s.onTree t fun y => y.sendHeader.settleBoundary
    (sentTwice x.queue).foldl (State.reportSent t) s
  else s

/-- The round boundary. -/
def State.roundBoundary (s : State) : State :=
  let s := s.onClock RoundClock.boundary
  let s := s.mapHomes fun _ x => x.boundaryTick (s.runsFor x)
  let s := Tree.all.foldl State.swapTree s
  Tree.all.foldl State.sendHeader s

/-! ## Bursts -/

/-- A block is lit at or above level code 8 (R29). -/
def litAt (level : Byte) : Bool := decide (8 ≤ level.toNat)

/-- How a burst is judged (R30); a good burst with its arrival offset and head. -/
inductive Judgement where
  | noLight
  | bad
  | good (δ : Int) (head : Head)
deriving DecidableEq, Repr

/-- The judgement of a window's burst (R30, R181). A window without a lit block is judged no light whatever head was found outside it (DESIGN CHOICE,
assumption 28). -/
def judge (b : BurstRx) (tag : Nat) : Judgement :=
  if b.levels.all fun l => !litAt l then .noLight
  else
    match b.head with
    | none => .bad
    | some (δ, bytes) =>
      if -64 ≤ δ ∧ δ ≤ 63 then
        match readHead bytes with
        | some head => if head.tag = tag then .good δ head else .bad
        | none => .bad
      else .bad

/-- The packets of a payload of exactly these bytes: each a 2-byte length and its bytes; none when they do not add up (R181). -/
def readPackets : Nat → List Byte → Option (List (List Byte))
  | _, [] => some []
  | 0, _ :: _ => none
  | fuel + 1, hi :: lo :: rest =>
    let n := beNat [hi, lo]
    if n ≤ rest.length then (readPackets fuel (rest.drop n)).map fun ps => rest.take n :: ps else none
  | _ + 1, [_] => none

/-- The packets of a good burst's payload (R32, step 2, R181): the byte count is within the window and the payload check is correct; a count of 0 has no
payload to check (assumption 12). -/
def burstPackets (b : BurstRx) (bytes payloadBlocks : Nat) : Option (List (List Byte)) :=
  let body := b.payload.take bytes
  if bytes = 0 then some []
  else if bytes ≤ 32 * payloadBlocks ∧ body.length = bytes ∧ checked body ((b.payload.drop bytes).take 2) = true then
    readPackets bytes body
  else none

/-- The payload of a good burst delivered and metered, or discarded and counted (R32, step 2). -/
def State.deliverPayload (s : State) (t : Tree) (h : HomeIndex) (packets : Option (List (List Byte))) : State :=
  match packets with
  | none => s.onTree t fun x => { x with badPayloads := bump x.badPayloads }
  | some ps =>
    let s := ps.foldl (fun s p => s.emit (.upstreamPacket h p)) s
    s.onHome h fun x => x.deliver s.cal.band (ps.map List.length).sum

/-- The level estimate moved toward a burst's level: the difference over 2^k truncated toward zero, clamped (R36). -/
def moveLevel (level m k : Nat) : Nat :=
  (max 0 (min 4080 ((level : Int) + ((16 * m : Int) - level).tdiv (2 ^ k)))).toNat

/-- EQ moved one eighth-block against the drift (R37): late for a sum of +16, early for −16; none past its range. -/
def driftedEq (eq : Nat) (late : Bool) : Option Nat :=
  if late then (if eq = 0 then none else some (eq - 1)) else (if eq < 7920 then some (eq + 1) else none)

/-- The queue has room for a DELAY-SET for a tag (R37). -/
def TreeLine.delayRoom (x : TreeLine) (tag : Nat) : Bool := decide (x.queue.length < 16) || x.hasFreshDelay tag

/-- The drift accumulator on a good burst of a SOAKING or ONLINE home (R37). When EQ is at its limit and the control queue has no room as well, the range case is taken and the
accumulator stays as it stood: a DESIGN CHOICE (assumption 37). -/
def State.accumulateDrift (s : State) (t : Tree) (h : HomeIndex) (δ : Int) : State :=
  let x := s.home h
  if δ < -2 ∨ 2 < δ then s
  else
    let sum := x.drift + δ
    if -16 < sum ∧ sum < 16 then s.setHome h { x with drift := sum }
    else
      let late := decide (0 < sum)
      match x.eq, x.tag with
      | some eq, some tag =>
        match driftedEq eq late with
        | none => s
        | some eq' =>
          if (s.tree t).delayRoom tag then
            (s.setHome h { x with eq := some eq', drift := 0 }).offerCtl t (.new (.delaySet eq' .drift) tag)
          else s.setHome h { x with drift := if late then 15 else -15 }
      | _, _ => s

/-- The offset lies beyond the drift limit. -/
def beyond (δ : Int) (limit : Nat) : Bool := decide (limit < δ.natAbs)

/-- The Rogue Monitor's judgement of a good burst: DRIFT for the home (R102) and then OVERLAP for the tree against the level estimate before the burst (R104);
the order is a DESIGN CHOICE (assumption 7). -/
def State.judgeBurst (s : State) (c : Config) (t : Tree) (h : HomeIndex) (δ : Int) (m level : Nat) : State :=
  let s := if beyond δ c.drift then s.evidence t h .drift else s
  if level / 16 + c.overlap < m then s.overlap t else s

/-- The report of a good burst recorded (R69). -/
def State.recordReport (s : State) (h : HomeIndex) (report : Nat) : State := s.onHome h fun x => { x with report := report, since := 0 }

/-- A LOST home's return on a good burst (R39): ONLINE within the drift limit, MEASURING in SAMPLING beyond it; not made when the home has left LOST (R3). -/
def State.lostReturn (s : State) (c : Config) (h : HomeIndex) (δ : Int) : State :=
  if (s.home h).state = .lost then
    if beyond δ c.drift then s.onHome h fun x => x.toMeasuring .sampling
    else s.onHome h fun x => { x with state := .online, lostTimer := 0 }
  else s

/-- A good burst of a SOAKING or ONLINE home (R32, R36, R37). -/
def State.goodServed (s : State) (c : Config) (t : Tree) (h : HomeIndex) (b : BurstRx) (w : Window) (δ : Int) (head : Head) (m : Nat) : State :=
  let x := s.home h
  let s := (s.onHome h fun y => { y with missed := 0 }).recordReport h head.report
  let s := s.deliverPayload t h (burstPackets b head.bytes w.payload)
  let s := s.onHome h fun y => { y with level := moveLevel y.level m (if x.state = .soaking then 2 else c.kOnline) }
  (s.accumulateDrift t h δ).judgeBurst c t h δ m x.level

/-- A good burst of a LOST home (R32, R36, R39). Beyond the drift limit its report and level are not used, and `chargeFirst` says whether the DRIFT charge is taken
before the transition (R102). -/
def State.goodLost (s : State) (c : Config) (t : Tree) (h : HomeIndex) (b : BurstRx) (w : Window) (δ : Int) (head : Head) (m : Nat) : State :=
  let x := s.home h
  let s := s.onHome h fun y => { y with missed := 0 }
  if beyond δ c.drift then
    let s := s.deliverPayload t h (burstPackets b head.bytes w.payload)
    if b.chargeFirst then (s.judgeBurst c t h δ m x.level).lostReturn c h δ
    else (s.lostReturn c h δ).judgeBurst c t h δ m x.level
  else
    let s := (s.recordReport h head.report).deliverPayload t h (burstPackets b head.bytes w.payload)
    let s := s.onHome h fun y => { y with level := moveLevel y.level m c.kOnline }
    (s.lostReturn c h δ).judgeBurst c t h δ m x.level

/-- A window without light (R38). -/
def State.missWindow (s : State) (h : HomeIndex) : State :=
  s.onHome h fun x =>
    let missed := satAdd 8 x.missed 1
    if x.state = .online ∧ missed = 8 then { x with missed := missed, state := .lost, lostTimer := 0 } else { x with missed := missed }

/-- The burst of a window judged against the home record as it stands (R30 to R32, R38). -/
def State.takeBurst (s : State) (c : Config) (t : Tree) (w : Window) (b : BurstRx) : State :=
  let x := s.home w.home
  let effective := inService x.state && decide (x.silence = .none)
  match judge b w.tag with
  | .noLight => if effective then s.missWindow w.home else s
  | .bad => s.onTree t fun y => { y with badBursts := bump y.badBursts }
  | .good δ head =>
    let m := burstLevel b.head0 b.head1
    if effective then
      if x.state = .lost then s.goodLost c t w.home b w δ head m else s.goodServed c t w.home b w δ head m
    else s

/-- Whose guard light it is: OVERRUN of the window directly before when its burst was lit in its last block and the light runs on, else EARLY of this window (R35). -/
def guardOwner (before : Option Window) (lastBlockLit : Bool) (w : Window) (runsOn : Bool) : HomeIndex × Evidence :=
  match before with
  | some v => if v.start + v.length = w.start ∧ lastBlockLit = true ∧ runsOn = true then (v.home, .overrun) else (w.home, .early)
  | none => (w.home, .early)

/-- The guard block of a window judged (R35, R101). -/
def State.takeGuard (s : State) (t : Tree) (before : Option Window) (lastBlockLit : Bool) (w : Window) (b : BurstRx) : State :=
  if litAt (b.levels.getD 0 0) then
    let owner := guardOwner before lastBlockLit w b.runsOn
    s.evidence t owner.1 owner.2
  else s

/-- The next window of the active map received (R30): its burst and its guard block judged, in the order `guardFirst` gives. -/
def State.burst (s : State) (c : Config) (t : Tree) (b : BurstRx) : State :=
  let x := s.tree t
  match x.active.windows[x.windowsTaken]? with
  | none => s
  | some w =>
    let before := if x.windowsTaken = 0 then none else x.active.windows[x.windowsTaken - 1]?
    let s := s.onTree t fun y => { y with windowsTaken := y.windowsTaken + 1, lastBlockLit := litAt (b.levels.getLastD 0) }
    if b.guardFirst then (s.takeGuard t before x.lastBlockLit w b).takeBurst c t w b
    else (s.takeBurst c t w b).takeGuard t before x.lastBlockLit w b

/-! ## Zones, quiet windows and downstream packets -/

/-- The zone of the round received (R33, R45, R46). -/
def State.zone (s : State) (t : Tree) (z : ZoneRx) : State :=
  let x := s.tree t
  match x.active.zone with
  | none => s
  | some zone =>
    if x.zoneTaken then s
    else
      let s := s.onTree t fun y => { y with zoneTaken := true }
      match zone.purpose with
      | .discover => s.capture t z.bursts
      | .measure h tag => s.measureZone t h tag zone.length z.heads

/-- A quiet window's finding handed on (R34): to the search while one runs, the round being one its probe observes, else as DARK or nothing to the Rogue
Monitor. -/
def State.handQuiet (s : State) (t : Tree) (observed dark : Bool) : State :=
  if (s.tree t).search.running then (if observed then s.observe t dark else s) else if dark then s.dark t else s

/-- A reserved quiet window measured (R34): that of this round, or, while it is still owed, that of the round before (R123, assumption 6). -/
def State.quietWindow (s : State) (c : Config) (t : Tree) (level : Byte) : State :=
  let x := s.tree t
  let dark := decide (c.dark ≤ level.toNat)
  if x.active.quiet && !x.quietTaken then (s.onTree t fun y => { y with quietTaken := true }).handQuiet t true dark
  else
    match x.lateQuiet with
    | some observed => (s.onTree t fun y => { y with quietTaken := false, lateQuiet := none }).handQuiet t observed dark
    | none => s

/-- A downstream packet dropped and counted (R40). -/
def State.refuseDownstream (s : State) : State := { s with refusedDownstream := bump s.refusedDownstream }

/-- A packet from the payload port for a home index (R40, R149). -/
def State.downstream (s : State) (home : Nat) (packet : List Byte) : State :=
  if hlt : home < 128 then
    let h : HomeIndex := ⟨home, hlt⟩
    let x := s.home h
    match x.tree with
    | some t =>
      if inService x.state && (s.tree t).running then
        (s.onHome h fun y => y.onOpen fun b => b.countDown s.cal.band packet.length).emit (.downstreamPacket t h packet)
      else s.refuseDownstream
    | none => s.refuseDownstream
  else s.refuseDownstream

end Sys2Proof.Machine
end

