-- ==== Sys2Proof/Machine/Share.lean ====
section
/-! DEFINITION. District Share (05_district_share.md): own floor and demand, the share period end, the excess allowance E and the peer view. -/

namespace Sys2Proof.Machine

/-- The station's floor: the sum of g over the entries in SOAKING, ONLINE or LOST (R89). -/
def State.ownFloor (s : State) : Nat :=
  (homeIndexes.map fun h => if inService (s.home h).state then (s.home h).g else 0).sum

/-- The live places of the peer view. -/
def ShareState.live (x : ShareState) : List Peer := x.peers.toList.filterMap id

/-- The peer view with every place changed. -/
def ShareState.mapPeers (x : ShareState) (f : Option Peer → Option Peer) : ShareState :=
  { x with peers := ⟨⟨x.peers.toList.map f⟩, by simp⟩ }

/-- A place aged; one whose age reaches 3 becomes absent (R93). -/
def agePeer (o : Option Peer) : Option Peer :=
  match o with
  | some p => if 3 ≤ p.age + 1 then none else some { p with age := p.age + 1 }
  | none => none

/-- E before its clamp from the spare capacity, the sum of demands, the own demand and the number of stations (R96). -/
def excessAllowance (spare dSum dSelf n : Nat) : Nat :=
  if dSum ≤ spare then dSelf + (spare - dSum) / n else spare * dSelf / dSum

/-- The computation of E (R95, R96). -/
def ShareState.compute (x : ShareState) (c : Nat) : ShareState :=
  let fSum := x.fSelf + (x.live.map Peer.f).sum
  let dSum := x.dSelf + (x.live.map Peer.d).sum
  let n := x.live.length + 1
  if c ≤ fSum then { x with fSum := fSum, dSum := dSum, n := n, s := 0, e := 32, overCommitted := true }
  else
    { x with fSum := fSum, dSum := dSum, n := n, s := c - fSum
             e := clamp 32 8000 (excessAllowance (c - fSum) dSum x.dSelf n), overCommitted := false }

/-- The computation of E at a share period end, with the OVERCOMMIT of a newly set mark (R95, R98). -/
def State.computeShare (s : State) (c : Nat) : State :=
  let before := s.share.overCommitted
  let s := s.onShare fun x => x.compute c
  if s.share.overCommitted && !before then s.offerOvercommit c s.share.fSum s.share.n else s

/-- A share period end (R88 to R95): F and D are formed and the demand sum restarted; in RUN the notice is offered and E computed; the view is aged. -/
def State.shareEnd (s : State) : State :=
  let f := s.ownFloor
  let d := s.demandSum / 500
  let s := { s with share := { s.share with fSelf := f, dSelf := d }, demandSum := 0 }
  let s := match s.config with
    | some c => (s.offerShare f d).computeShare c.capacity
    | none => s
  s.onShare fun x => x.mapPeers agePeer

/-- A notice recorded at age 0 (R92). -/
def ShareState.record (x : ShareState) (st : Station) (f d : Nat) : ShareState :=
  { x with peers := x.peers.set st (some ⟨f, d, 0⟩), recorded := bump x.recorded }

/-- A SHARE taken (R92): recorded in WAIT_CONFIG and from rank 0 to 2, ignored and counted from rank 3. -/
def State.takeShare (s : State) (st : Station) (f d : Nat) : State :=
  match s.rankOf st with
  | none => s.onShare fun x => x.record st f d
  | some r => if r.val ≤ 2 then s.onShare fun x => x.record st f d else s.onShare fun x => { x with ignored := bump x.ignored }

/-- The places of stations whose new rank is 3 removed (R94). -/
def ShareState.purge (x : ShareState) (ranks : Vector Rank 16) : ShareState :=
  { x with peers := ⟨⟨(List.finRange 16).map fun i => if (ranks[i] : Rank).val = 3 then none else x.peers[i]⟩, by simp⟩ }

end Sys2Proof.Machine
end

