-- ==== Sys2Proof/Machine/Answers.lean ====
section
/-! DEFINITION. The results the query requests carry, field by field in the order their rules list them (R14, R22, R54, R135, R140, R147, R163, R174, encoded under R180). -/

namespace Sys2Proof.Machine

/-- The settled mark: set in SOAKING, ONLINE, LOST and ISOLATED (R14). -/
def Home.settledMark (x : Home) : Bool :=
  match x.state with
  | .soaking | .online | .lost | .isolated => true
  | .free | .claiming | .measuring | .closing | .forward => false

/-- The level estimate as QUERY-HOME reports it: absent in CLAIMING and for a new home in MEASURING (R14). -/
def Home.reportedLevel (x : Home) : Option Nat :=
  match x.state with
  | .claiming => none
  | .measuring => if x.eq.isSome then some x.level else none
  | .free | .soaking | .online | .lost | .isolated | .closing | .forward => some x.level

/-- EQ as QUERY-HOME reports it: absent in CLAIMING (R14). -/
def Home.reportedEq (x : Home) : Option Nat := if x.state = .claiming then none else x.eq

/-- The home summary (R14). -/
def Home.summary (x : Home) : List Byte :=
  toBE 1 (stateCode x.state) ++ optIdentity x.identity ++ optAccount x.account ++ optTree x.tree ++ optBE 1 x.tag ++ toBE 2 x.g ++
    toBE 2 x.p ++ toBE 2 x.report ++ toBE 2 x.since ++ flagByte x.deferred ++ toBE 1 x.missed ++ toBE 2 x.lostTimer ++
    toBE 1 x.attempts ++ toBE 2 x.soak ++ toBE 1 x.score ++ toBE 1 (silenceCode x.silence) ++ optStation x.movedFrom ++
    optStation x.forwardTo ++ toBE 1 (leaveCode x.leaveReason) ++ toBE 1 x.retention ++ optBE 2 x.reportedEq ++
    optBE 2 x.reportedLevel ++ signedByte x.drift ++ flagByte x.settledMark

/-- A FIND's match: index, state as examined, tree, and forward-to for a FORWARD entry (R22). -/
def findBody (h : HomeIndex) (st : HomeState) (tree : Option Tree) (forwardTo : Option Station) : List Byte :=
  toBE 1 h.val ++ toBE 1 (stateCode st) ++ optTree tree ++ optStation (if st = .forward then forwardTo else none)

/-- Entries carried after their one-byte count (R180). -/
def runOf {α : Type} (xs : List α) (f : α → List Byte) : List Byte := toBE 1 xs.length ++ xs.flatMap f

/-- READ-LISTS's answer: how many the list holds, and the entries from the start place on (R54). -/
def listBody (e : Enrollment) (list start : Nat) : List Byte :=
  if list = 0 then
    toBE 1 e.admission.length ++ runOf ((e.admission.drop start).take 5) fun a =>
      toBE 8 a.identity.toNat ++ toBE 4 a.account.toNat ++ toBE 2 a.g ++ toBE 2 a.p
  else if list = 1 then toBE 1 e.barred.length ++ runOf ((e.barred.drop start).take 8) fun id => toBE 8 id.toNat
  else
    toBE 1 e.unknown.length ++ runOf ((e.unknown.drop start).take 6) fun u =>
      toBE 8 u.identity.toNat ++ toBE 1 u.tree.idx.val ++ toBE 1 (unknownCode u.reason) ++ toBE 2 u.seconds

/-- RUNNING or STOPPED, in that order (R180). -/
def treeStateByte (x : TreeLine) : List Byte := [if x.running then 0 else 1]

/-- The counters of Table 10-4 in order. -/
def Link.counters (l : Link) : List Nat :=
  [l.framesSent, l.framesReceived, l.badFrames, l.unknownClasses, l.rankDiscards, l.collisions, l.collisionDrops, l.urgentDrops,
   l.responsesDropped, l.eventsDropped, l.requestsRefused]

/-- The counters of Table 3-6 in order. -/
def Enrollment.counters (e : Enrollment) : List Nat :=
  [e.collisions, e.extraCaptures, e.barredCaptures, e.ignoredCaptures, e.droppedAdmissions, e.unmatchedFrames]

/-- Counters of 0 to 65535, two bytes each. -/
def countersBytes (ns : List Nat) : List Byte := ns.flatMap (toBE 2)

/-- QUERY-STATION part 0, STATION (R174). -/
def State.stationPart (s : State) (c : Config) : List Byte :=
  toBE 1 s.own.val ++ toBE 1 s.mgt.val ++ [if s.inRun then 1 else 0] ++ maskBytes c.enable ++ s.trees.toList.flatMap treeStateByte ++
    ranksBytes c.ranks ++ countersBytes s.link.counters ++ countersBytes [s.refusedDownstream, s.walkDrops] ++
    countersBytes s.enrol.counters ++ countersBytes [s.identities, s.discardedEvidence]

/-- QUERY-STATION part 1, TREE (R87, R116, R174). Of Table 2-5 it carries the three counters of the tree, since part 0 carries the station's refused-downstream
counter (DEDUCED, assumption 11). -/
def State.treePart (s : State) (x : TreeLine) : List Byte :=
  countersBytes [x.badBursts, x.badPayloads, x.lostMessages] ++ toBE 1 x.rotation.val ++ toBE 2 x.deferredHomes ++
    toBE 3 x.lastBuild.x ++ toBE 2 x.lastBuild.a ++ toBE 2 x.lastBuild.p ++ toBE 1 x.lastBuild.placed ++ toBE 1 x.lastBuild.deferred ++
    toBE 2 s.eUsed ++ toBE 1 x.darkCounter ++ toBE 2 x.holdOff ++
    countersBytes [x.overruns, x.earlies, x.drifts, x.overlaps, x.darks, x.isolations, x.darkSearches] ++
    runOf x.captures fun id => toBE 8 id.toNat

/-- A value carried while the context is RUNNING, absent otherwise (R135). -/
def whileRunning (running : Bool) (n : Nat) : List Byte := optBE 1 (if running then some n else none)

/-- QUERY-STATION part 2, SEARCH (R135, R174). The settle boundaries and the two observation counts each have their byte, absent in the other phase (DEDUCED,
assumption 11). The trail entries go from the top down, newest first (DESIGN CHOICE, assumption 36). -/
def SearchContext.part (c : SearchContext) : List Byte :=
  let observing := c.running && decide (c.phase = .observing)
  let settling := c.running && decide (c.phase = .settling)
  [if c.running then 1 else 0] ++ whileRunning c.running (causeCode c.cause) ++ whileRunning c.running c.candidates.length ++
    whileRunning c.running (stepCode c.step) ++ whileRunning c.running c.probe ++ whileRunning c.running (phaseCode c.phase) ++
    whileRunning settling c.settle ++ whileRunning observing c.observations ++ whileRunning observing c.dark ++
    whileRunning c.running c.first ++ whileRunning c.running c.count ++
    (runOf c.trail fun e => toBE 1 e.first ++ toBE 1 e.count ++ toBE 1 e.probe) ++ whileRunning c.running c.foundCount ++
    (runOf c.found fun h => toBE 1 h.val) ++
    match c.last with
    | some l => toBE 1 (outcomeCode l.outcome) ++ toBE 1 (reasonCode l.reason) ++ toBE 1 (causeCode l.cause) ++ toBE 1 l.probes ++
        toBE 1 l.n ++ toBE 1 l.found
    | none => absent 6

/-- QUERY-STATION part 3, SHARE (R97, R174). -/
def ShareState.part (x : ShareState) (c : Nat) : List Byte :=
  toBE 2 x.e ++ flagByte x.overCommitted ++ toBE 2 c ++ toBE 2 x.fSelf ++ toBE 3 x.dSelf ++ toBE 3 x.fSum ++ toBE 4 x.dSum ++
    toBE 1 x.n ++ toBE 2 x.s ++ countersBytes [x.recorded, x.ignored]

/-- The live places from a start station upward, with their station numbers. -/
def ShareState.liveFrom (x : ShareState) (start : Nat) : List (Station × Peer) :=
  (List.finRange 16).filterMap fun i => if start ≤ i.val then (x.peers[i] : Option Peer).map fun p => (i, p) else none

/-- QUERY-STATION part 4, PEERS (R174). -/
def ShareState.peersPart (x : ShareState) (start : Nat) : List Byte :=
  (runOf ((x.liveFrom start).take 12) fun (i, p) => toBE 1 i.val ++ toBE 2 p.f ++ toBE 3 p.d ++ toBE 1 p.age) ++ toBE 1 x.live.length

/-- The latest step: AHEAD or BACK, in that order, and its size (Table 8-1, R180). -/
def stepBytes : Option ClockStep → List Byte
  | some (.ahead n) => [0] ++ toBE 4 n
  | some (.back n) => [1] ++ toBE 4 n
  | none => absent 5

/-- The seven fields of the clock. -/
def Calendar.fields (c : Calendar) : List Byte := momentBytes (some c.now) ++ toBE 1 c.weekday

/-- QUERY-STATION part 5, CLOCK (R147, R174). -/
def Calendar.part (c : Calendar) : List Byte :=
  flagByte c.set ++ c.fields ++ toBE 1 c.band.val ++ timeBytes c.closeTime ++ momentBytes c.nextClose ++ toBE 2 c.stepCount ++
    stepBytes c.lastStep

/-- A band table entry in 9 bytes (Table 12-4). -/
def BandEntry.bytes (e : BandEntry) : List Byte :=
  flagByte e.enabled ++ timeBytes e.start ++ timeBytes e.stop ++ [e.mask] ++ toBE 1 e.band.val

/-- QUERY-STATION part 6, BANDS (R147, R174). -/
def Calendar.bandsPart (c : Calendar) : List Byte :=
  c.table.toList.flatMap BandEntry.bytes ++ match c.waiting with
    | some t => t.toList.flatMap BandEntry.bytes
    | none => absent 36

/-- QUERY-STATION part 7, METERING (R163, R174). -/
def State.meteringPart (s : State) : List Byte :=
  toBE 1 s.meter.hold.length ++ optBE 2 (s.meter.hold.head?.map fun r => r.number.toNat) ++ toBE 2 s.meter.nextNumber.toNat ++
    toBE 1 s.emission.pointer.val ++ toBE 1 (walkCode s.emission.state) ++
    countersBytes [s.meter.enqueued, s.meter.finals, s.meter.skippedSwaps, s.meter.holdFulls]

/-- A part of the station's state (R174). -/
def State.part (s : State) (c : Config) (part index : Nat) : List Byte :=
  let t := (Tree.ofNat? index).getD .a
  match part with
  | 0 => s.stationPart c
  | 1 => s.treePart (s.tree t)
  | 2 => (s.tree t).search.part
  | 3 => s.share.part c.capacity
  | 4 => s.share.peersPart index
  | 5 => s.cal.part
  | 6 => s.cal.bandsPart
  | _ => s.meteringPart

end Sys2Proof.Machine
end

