-- ==== Sys2Proof/Machine/LineEvents.lean ====
section
/-! DEFINITION. The meanings of what the tree ports, the payload port, the identity search engine, the emission walk and the district link's sender bring. -/

namespace Sys2Proof.Machine

/-- BURST_RECEIVED (R29 to R39, R100 to R104, R181): the next window of the tree's active map. -/
def execBurstReceived (t : Tree) (b : BurstRx) (s : State) : Host.Outcome State Fault Refusal :=
  s.does fun s =>
    match s.config with
    | some c => s.burst c t b
    | none => s

/-- ZONE_RECEIVED (R33, R45 to R47, R63 to R65). -/
def execZoneReceived (t : Tree) (z : ZoneRx) (s : State) : Host.Outcome State Fault Refusal := s.does fun s => s.zone t z

/-- QUIET_WINDOW_MEASURED (R34, R105, R113, R114, R124). -/
def execQuietWindowMeasured (t : Tree) (level : Byte) (s : State) : Host.Outcome State Fault Refusal :=
  s.does fun s =>
    match s.config with
    | some c => s.quietWindow c t level
    | none => s

/-- DOWNSTREAM_PACKET (R40, R149). -/
def execDownstreamPacket (home : Nat) (packet : List Byte) (s : State) : Host.Outcome State Fault Refusal :=
  s.does fun s => s.downstream home packet

/-! ## Walks -/

/-- CAPTURE_CHECK_COMPLETE (R48): the walk at the head is a capture check. -/
def execCaptureCheckComplete (s : State) : Host.Outcome State Fault Refusal :=
  s.does fun s =>
    match s.walks with
    | ⟨.capture t, id, _, _⟩ :: _ => s.endWalk.actCapture t id
    | _ => s

/-- CLAIM_CHECK_COMPLETE (R60): the walk at the head is a claim check. -/
def execClaimCheckComplete (s : State) : Host.Outcome State Fault Refusal :=
  s.does fun s =>
    match s.walks with
    | ⟨.claim claimant index, id, _, _⟩ :: _ => s.endWalk.actClaim claimant index id
    | _ => s

/-- RELEASE_CHECK_COMPLETE (R61): the walk at the head is a release check. -/
def execReleaseCheckComplete (s : State) : Host.Outcome State Fault Refusal :=
  s.does fun s =>
    match s.walks with
    | ⟨.release claimant, id, _, _⟩ :: _ => s.endWalk.actRelease claimant id
    | _ => s

/-- A FIND walk up to the n-th entry of its range (R21): the entries not examined before are judged as they stand, and the first match is kept as it was
examined, whatever becomes of its entry. A walk that has found its match examines no more (R20). -/
def State.examineTo (s : State) (id : Identity) (start n : Nat) : FindProgress :=
  let w := s.findWalk
  match w.found with
  | some _ => w
  | none =>
    ⟨max w.examined n, (s.holderIn id (start + w.examined) (n - w.examined)).map fun h =>
      ⟨h, (s.home h).state, (s.home h).tree, (s.home h).forwardTo⟩⟩

/-- The answer of a FIND walk (R22): a match as examined, or NOT_FOUND with the next index. -/
def findAnswer (next : Nat) : Option FindMatch → Status × List Byte
  | some m => (.ok, findBody m.home m.state m.tree m.forwardTo)
  | none => (.notFound, toBE 1 next)

/-- FIND_WALK_COMPLETE (R21, R22): the walk at the head is a FIND's. It completes, or with `examinedTo` it has come further in its range (assumption 10). -/
def execFindWalkComplete (r : WalkReport) (s : State) : Host.Outcome State Fault Refusal :=
  s.does fun s =>
    match s.walks with
    | ⟨.find st num, id, start, count⟩ :: _ =>
      match r with
      | .examinedTo n => { s with findWalk := s.examineTo id start (min n count) }
      | .asItStands =>
        let a := findAnswer (start + count) (s.examineTo id start count).found
        { s.endWalk with findWalk := FindProgress.start }.respond st num 15 a.1 a.2
    | _ => s

/-! ## The emission walk -/

/-- The next home index, from 127 to 0 (R156). -/
def nextIndex (h : HomeIndex) : HomeIndex := if hlt : h.val + 1 < 128 then ⟨h.val + 1, hlt⟩ else 0

/-- A record enqueued at the tail (R159, R160): the counters rise, and HOLD_FULL is queued when the queue reaches 48. -/
def State.enqueue (s : State) (r : Record) : State :=
  let s := s.onMeter fun m =>
    { m with hold := m.hold ++ [r], nextNumber := m.nextNumber + 1, enqueued := bump m.enqueued
             finals := if r.final then bump m.finals else m.finals }
  if s.meter.hold.length = 48 then
    (s.onMeter fun m => { m with holdFulls := bump m.holdFulls }).offerHoldFull 48 ((s.meter.hold.head?.map Record.number).getD 0) r.number
  else s

/-- An ordinary record built from a waiting closed bank and enqueued (R156, R158, R19). -/
def State.emitOrdinary (s : State) (h : HomeIndex) : State :=
  let x := s.home h
  (s.enqueue (x.record h s.meter.nextNumber x.otherBank x.otherBank.periodEnd false)).setHome h
    { x with closedWaiting := false, movedFrom := none }

/-- A FINAL record built from a CLOSING entry's open bank and enqueued, and the end of CLOSING (R157, R15). -/
def State.emitFinal (s : State) (h : HomeIndex) : State :=
  let x := s.home h
  (s.enqueue (x.record h s.meter.nextNumber x.openBank s.cal.reading true)).endClosing h

/-- One examination of the emission walk (R156, R157). -/
def State.walkStep (s : State) : State :=
  let h := s.emission.pointer
  let x := s.home h
  if x.closedWaiting || decide (x.state = .closing) then
    if s.meter.hold.length < 48 then
      let s := { s with emission := { s.emission with passes := 0 } }
      if x.closedWaiting then s.emitOrdinary h else s.emitFinal h
    else { s with emission := { s.emission with state := .blocked } }
  else
    let passes := s.emission.passes + 1
    { s with emission := ⟨nextIndex h, if 128 ≤ passes then .idle else .walking, min 128 passes⟩ }

/-- EMISSION_WALK (R156 to R160). -/
def execEmissionWalk (s : State) : Host.Outcome State Fault Refusal :=
  s.does fun s => if s.emission.state = .walking then s.walkStep else s

/-! ## The sender -/

/-- IDLE_GAP_ELAPSED (R165): the gap has run and the frame's attempt begins. -/
def execIdleGapElapsed (s : State) : Host.Outcome State Fault Refusal :=
  s.does fun s =>
    match s.link.phase with
    | .gap => (s.onLink fun l => { l with phase := .sending }).emit .attempt
    | .idle | .sending | .jam | .backoff _ => s

/-- The Enrollment Engine told that a CLAIM has been sent (R55). -/
def State.claimSent (s : State) (f : Frame) : State :=
  match f.content with
  | .claim id _ h =>
    if f.orphan = false ∧ (s.home h).state = .claiming ∧ (s.home h).identity = some id then
      s.onHome h fun x => { x with claim := x.claim.map ClaimContext.reportSent }
    else s
  | .object _ _ _ | .release _ _ _ _ | .share _ _ | .event _ | .response _ _ _ _ _ => s

/-- FRAME_SENT (R166): the attempt has succeeded, the frame leaves the queue and its producer is told. -/
def execFrameSent (s : State) : Host.Outcome State Fault Refusal :=
  s.does fun s =>
    match s.link.phase, s.link.current with
    | .sending, some (f, _) =>
      let s := (s.onLink fun l => { l with framesSent := bump l.framesSent }.finish).emit (.frame (f.lineBytes s.own))
      s.claimSent f
    | _, _ => s

/-- LINK_COLLISION (R166, 1): sending stops and the 8-bit jam begins. -/
def execLinkCollision (s : State) : Host.Outcome State Fault Refusal :=
  s.does fun s =>
    match s.link.phase with
    | .sending => (s.onLink fun l => { l with phase := .jam }).emit .jam
    | .idle | .gap | .jam | .backoff _ => s

/-- What follows a drop after 16 collisions, by class (R167); a CLAIM is queued again, and is a CLAIM queued again for R57 (assumption 32). -/
def State.dropped (s : State) (f : Frame) : State :=
  match f.content with
  | .claim id _ h =>
    if f.orphan = false ∧ (s.home h).state = .claiming ∧ (s.home h).identity = some id then
      (s.onHome h fun x => { x with claim := x.claim.map fun c => { c with again := true } }).offerClaim h
    else s
  | .event _ => s.onLink Link.loseEvent
  | .object _ _ _ | .release _ _ _ _ | .share _ _ | .response _ _ _ _ _ => s

/-- JAM_END (R166, 2, R167): the collision is counted, and back-off begins or the frame is dropped. -/
def execJamEnd (s : State) : Host.Outcome State Fault Refusal :=
  s.does fun s =>
    match s.link.phase, s.link.current with
    | .jam, some (f, a) =>
      let s := s.onLink fun l => { l with collisions := bump l.collisions }
      if 16 ≤ a then (s.onLink fun l => { l with collisionDrops := bump l.collisionDrops }.finish).dropped f
      else s.onLink fun l => { l with phase := .backoff (backoffBits s.own a) }
    | _, _ => s

/-- BACKOFF_END (R166, 3): the attempt count rises and the sender waits its gap again. -/
def execBackoffEnd (s : State) : Host.Outcome State Fault Refusal :=
  s.does fun s =>
    match s.link.phase, s.link.current with
    | .backoff _, some (f, a) => s.onLink fun l => { l with current := some (f, a + 1), phase := .gap }
    | _, _ => s

/-! ## Frames received -/

/-- BAD_FRAME (R170, checks 1 to 3): bytes the receiver judges bad are discarded and counted. -/
def execBadFrame (bytes : List Byte) (s : State) : Host.Outcome State Fault Refusal :=
  s.does fun s =>
    match lineFrame bytes with
    | none => s.onLink fun l => { l with badFrames := bump l.badFrames }
    | some _ => s

/-- CLAIM (R59, R171). -/
def execClaim (rx : Rx) (payload : List Byte) (s : State) : Host.Outcome State Fault Refusal :=
  s.does fun s => s.receivePeer rx fun s =>
    match claimFields payload with
    | some (id, index) => s.hearClaim rx.src id index
    | none => s

/-- OBJECT (R57, R58, R171, Table 12-2). -/
def execObject (rx : Rx) (payload : List Byte) (s : State) : Host.Outcome State Fault Refusal :=
  s.does fun s => s.receivePeer rx fun s =>
    match objectFields payload with
    | some (id, index, k) =>
      match objectKind k with
      | some kind => s.takeObject rx.src id index kind
      | none => s.unmatched
    | none => s

/-- A RELEASE taken by the Enrollment Engine (R56, R58, R61). A releaser byte above 15 leaves the source station as the releasing station, and a claimant
byte above 15 names no station (assumption 8). -/
def State.hearRelease (s : State) (src : Station) (id : Identity) (releaser claimant index : Byte) : State :=
  match stationOf claimant with
  | none => s
  | some c =>
    if c = s.own then s.takeRelease ((stationOf releaser).getD src) id index else (s.queueWalk (wholeWalk (.release c) id)).1

/-- RELEASE (R56, R58, R61, R171). -/
def execRelease (rx : Rx) (payload : List Byte) (s : State) : Host.Outcome State Fault Refusal :=
  s.does fun s => s.receivePeer rx fun s =>
    match releaseFields payload with
    | some (id, releaser, claimant, index) => s.hearRelease rx.src id releaser claimant index
    | none => s

/-- SHARE (R92, R171). -/
def execShare (rx : Rx) (payload : List Byte) (s : State) : Host.Outcome State Fault Refusal :=
  s.does fun s => s.receive rx fun s =>
    match shareFields payload with
    | some (f, d) => s.takeShare rx.src f d
    | none => s

/-- EVENT (R171): a received EVENT is discarded. -/
def execEvent (rx : Rx) (_payload : List Byte) (s : State) : Host.Outcome State Fault Refusal := s.does fun s => s.receive rx id

/-- RESPONSE (R171): a received RESPONSE is discarded. -/
def execResponse (rx : Rx) (_payload : List Byte) (s : State) : Host.Outcome State Fault Refusal := s.does fun s => s.receive rx id

/-- UNKNOWN_CLASS (R170, check 6): discarded and counted; a class code of 1 to 7 is not this event. -/
def execUnknownClass (rx : Rx) (cls : Byte) (_payload : List Byte) (s : State) : Host.Outcome State Fault Refusal :=
  s.does fun s =>
    if s.hears rx && unknownClassCode cls then s.onLink fun l => { l with unknownClasses := bump l.unknownClasses } else s

end Sys2Proof.Machine
end

