-- ==== Sys2Proof/Machine/Requests.lean ====
section
/-! DEFINITION. The meanings of the nineteen request kinds (Tables 10-2 and 12-4) and of a request of an unknown kind: the checks of R171 to R173 stand in `State.request`, and each kind's own checks, effect and answer stand here. -/

namespace Sys2Proof.Machine

/-- A request whose arguments are read by `read`: refused RANGE when they are too short or out of range (R172, check 3), else given to the owning block. -/
def State.ranged {α : Type} (s : State) (read : Option α) (f : α → Answer) : Answer :=
  match read with
  | none => s.refuse .range
  | some a => f a

/-! ## CONFIGURE, TIME, TARIFF -/

/-- A tree becomes RUNNING: its discovery count is set to the discovery interval (R43), and its transmitter starts at the next round boundary (R42). -/
def TreeLine.start (t : TreeLine) (c : Config) : TreeLine := { t with running := true, discovery := c.discovery }

/-- An accepted CONFIGURE applied by every block in one step (R179, R24, R43, R94, R137, R164). -/
def State.applyConfig (s : State) (c : Config) : State :=
  let s := { s with config := some c, share := s.share.purge c.ranks, cal := { s.cal with closeTime := c.close } }
  (Tree.all.filter fun t => c.enable.get t.idx).foldl (fun s t => s.onTree t fun x => x.start c) s

/-- CONFIGURE as Start-Up takes it (R178): RANK, RANGE, STATE, else applied and answered with the configuration as applied. -/
def State.configure (s : State) (rx : Rx) (args : List Byte) : Answer :=
  if rx.src ≠ s.mgt then s.refuse .rank
  else s.ranged (configArgs args s.mgt) fun c => if s.inRun then s.refuse .state else ⟨s.applyConfig c, .ok, configBytes c⟩

/-- CONFIGURE (R177 to R179). -/
def execConfigure (rx : Rx) (num : BitVec 16) (args : List Byte) (s : State) : Host.Outcome State Fault Refusal :=
  s.does fun s => s.receive rx fun s => s.answer rx num 1 fun s => s.configure rx args

/-- An accepted TIME applied (R140): the step mark reaches the open banks (R155), the second phase restarts and the Calendar Clock takes the time. A second tick
whose boundary has passed and which has not been taken is no second tick any more (assumption 17). -/
def State.applyTime (s : State) (m : Moment) (weekday : Nat) : State :=
  let s := if s.cal.isStep m then s.mapHomes fun _ x => x.markStep else s
  (s.onClock fun c => { c with epochInSecond := 0, secondDue := false }).onCal fun c => c.apply m weekday

/-- The results of an addressed TIME (R140): the clock as applied, the current band, the next close moment and whether the set was a step. The clock as applied is
its seven fields, without the set flag, which every accepted TIME sets (DEDUCED, assumption 11). -/
def Calendar.timeBody (c : Calendar) (step : Bool) : List Byte :=
  c.fields ++ toBE 1 c.band.val ++ momentBytes c.nextClose ++ flagByte step

/-- TIME (R139, R140). -/
def execTime (rx : Rx) (num : BitVec 16) (args : List Byte) (s : State) : Host.Outcome State Fault Refusal :=
  s.does fun s => s.request rx num 2 0 false <| State.answer rx num 2 fun s =>
    s.ranged (timeArgs args) fun (m, weekday) =>
      let s' := s.applyTime m weekday
      ⟨s', .ok, s'.cal.timeBody (s.cal.isStep m)⟩

/-- TARIFF (R143): the table waits for the next second tick. -/
def execTariff (rx : Rx) (num : BitVec 16) (args : List Byte) (s : State) : Host.Outcome State Fault Refusal :=
  s.does fun s => s.request rx num 3 0 false <| State.answer rx num 3 fun s =>
    s.ranged (tariffArgs args) fun table => (s.onCal fun c => { c with waiting := some table }).accept

/-! ## The admission and barred lists -/

/-- ADMIT's effect (R52): the entry replaced in place or appended; at a full list an addressed ADMIT is refused FULL and one sent to all stations is dropped and
counted. -/
def State.takeAdmission (s : State) (rx : Rx) (a : Admission) : Answer :=
  match s.enrol.admitEntry a with
  | some e => (s.onEnrol fun _ => e).accept
  | none =>
    if s.addressed rx then s.refuse .full
    else (s.onEnrol fun e => { e with droppedAdmissions := bump e.droppedAdmissions }).accept

/-- ADMIT (R52). -/
def execAdmit (rx : Rx) (num : BitVec 16) (args : List Byte) (s : State) : Host.Outcome State Fault Refusal :=
  s.does fun s => s.request rx num 4 0 false <| State.answer rx num 4 fun s =>
    s.ranged (admitArgs args) fun a => s.takeAdmission rx a

/-- WITHDRAW (R52). -/
def execWithdraw (rx : Rx) (num : BitVec 16) (args : List Byte) (s : State) : Host.Outcome State Fault Refusal :=
  s.does fun s => s.request rx num 5 0 false <| State.answer rx num 5 fun s =>
    s.ranged (identityArg args) fun id =>
      if (s.enrol.admissionOf id).isSome then (s.onEnrol fun e => e.forget id).accept else s.refuse .notFound

/-- UNBAR (R52). -/
def execUnbar (rx : Rx) (num : BitVec 16) (args : List Byte) (s : State) : Host.Outcome State Fault Refusal :=
  s.does fun s => s.request rx num 6 0 false <| State.answer rx num 6 fun s =>
    s.ranged (identityArg args) fun id =>
      if s.enrol.isBarred id then (s.onEnrol fun e => { e with barred := e.barred.filter fun i => !decide (i = id) }).accept
      else s.refuse .notFound

/-! ## Requests naming a home (R10, Table 1-4) -/

/-- MOVED with the forward-to station of a FORWARD entry (R10, 12.3). -/
def State.moved (s : State) (x : Home) : Answer := ⟨s, .moved, optStation x.forwardTo⟩

/-- RETIRE by the state of the entry (Table 1-4, R11). -/
def State.retire (s : State) (h : HomeIndex) : Answer :=
  match (s.home h).state with
  | .free => s.refuse .absent
  | .forward => (s.freeEntry h).accept
  | .closing => s.refuse .state
  | .claiming | .measuring => s.refuse .busy
  | .soaking | .online | .lost | .isolated => (s.closeEntry h .management none).accept

/-- RETIRE (R10, R11). -/
def execRetire (rx : Rx) (num : BitVec 16) (args : List Byte) (s : State) : Host.Outcome State Fault Refusal :=
  s.does fun s => s.request rx num 7 0 false <| State.answer rx num 7 fun s => s.ranged (homeArg args) s.retire

/-- The LASER-OFF messages of a tag with sending count 0 removed from the queue (R112). -/
def TreeLine.dropLaserOff (t : TreeLine) (tag : Nat) : TreeLine :=
  { t with queue := t.queue.filter fun m => !(m.laserOffFor tag && decide (m.count = 0)) }

/-- An ISOLATED entry pardoned (R12, R112): score 0, MEASURING in ANNOUNCING, its unsent LASER-OFF messages removed and a LASER-ON queued. -/
def State.pardonHome (s : State) (h : HomeIndex) : State :=
  let x := s.home h
  let s := (s.leaveIsolated x).setHome h ({ x with score := 0 }.toMeasuring .announcing)
  match x.tree, x.tag with
  | some t, some tag => (s.onTree t fun y => y.dropLaserOff tag).offerCtl t (.new .laserOn tag)
  | _, _ => s

/-- PARDON by the state of the entry (Table 1-4, R12). -/
def State.pardon (s : State) (h : HomeIndex) : Answer :=
  match (s.home h).state with
  | .free => s.refuse .absent
  | .forward => s.moved (s.home h)
  | .soaking | .online | .lost | .closing => s.refuse .state
  | .claiming | .measuring => s.refuse .busy
  | .isolated => (s.pardonHome h).accept

/-- PARDON (R10, R12, R112). -/
def execPardon (rx : Rx) (num : BitVec 16) (args : List Byte) (s : State) : Host.Outcome State Fault Refusal :=
  s.does fun s => s.request rx num 8 0 false <| State.answer rx num 8 fun s => s.ranged (homeArg args) s.pardon

/-- The pool of the entry's tree with its g replaced (R13). -/
def State.poolWith (s : State) (x : Home) (g : Nat) : Nat :=
  match x.tree with
  | some t => (s.tree t).pool - x.g + g
  | none => 0

/-- A class written: g and p at once, and the pool adjusted (R13). -/
def State.writeClass (s : State) (h : HomeIndex) (g p : Nat) : State :=
  let x := s.home h
  let pool := s.poolWith x g
  let s := s.setHome h { x with g := g, p := p }
  match x.tree with
  | some t => s.onTree t fun y => { y with pool := pool }
  | none => s

/-- SET-CLASS by the state of the entry, CAPACITY last (Table 1-4, R13). -/
def State.setClass (s : State) (h : HomeIndex) (g p : Nat) : Answer :=
  match (s.home h).state with
  | .free => s.refuse .absent
  | .forward => s.moved (s.home h)
  | .closing => s.refuse .state
  | .claiming | .measuring => s.refuse .busy
  | .soaking | .online | .lost | .isolated =>
    if 1200 < s.poolWith (s.home h) g then s.refuse .capacity else ⟨s.writeClass h g p, .ok, toBE 2 g ++ toBE 2 p⟩

/-- SET_CLASS (R10, R13). -/
def execSetClass (rx : Rx) (num : BitVec 16) (args : List Byte) (s : State) : Host.Outcome State Fault Refusal :=
  s.does fun s => s.request rx num 9 0 false <| State.answer rx num 9 fun s =>
    s.ranged (setClassArgs args) fun (h, g, p) => s.setClass h g p

/-! ## Requests naming a tree -/

/-- SEARCH on a tree (R120). -/
def State.searchRequest (s : State) (t : Tree) : Answer :=
  if !(s.tree t).running then s.refuse .state
  else if (s.tree t).search.running then s.refuse .busy
  else
    let s' := s.startSearch t .request
    ⟨s', .ok, toBE 1 (s'.tree t).search.candidates.length⟩

/-- SEARCH (R119, R120). -/
def execSearch (rx : Rx) (num : BitVec 16) (args : List Byte) (s : State) : Host.Outcome State Fault Refusal :=
  s.does fun s => s.request rx num 10 0 false <| State.answer rx num 10 fun s => s.ranged (treeArg args) s.searchRequest

/-- ABORT-SEARCH on a tree (R132). -/
def State.abortRequest (s : State) (t : Tree) : Answer :=
  let c := (s.tree t).search
  if !c.running then s.refuse .state
  else ⟨s.endSearch t .aborted .request, .ok, toBE 1 c.probe ++ toBE 1 c.foundCount⟩

/-- ABORT_SEARCH (R132, R134). -/
def execAbortSearch (rx : Rx) (num : BitVec 16) (args : List Byte) (s : State) : Host.Outcome State Fault Refusal :=
  s.does fun s => s.request rx num 11 0 false <| State.answer rx num 11 fun s => s.ranged (treeArg args) s.abortRequest

/-- A MEASURING home of a tree that stops: samples emptied, attempts 0 and ANNOUNCING again (R41, R62). -/
def Home.stopMeasuring (x : Home) (t : Tree) : Home :=
  if x.standsOn .measuring t then { x with samples := [], attempts := 0, phase := some .announcing } else x

/-- A tree stopped (R41): its transmitter off, both maps emptied with no quiet window owed, and every message with sending count 1 set back to 0. -/
def TreeLine.stop (t : TreeLine) : TreeLine :=
  { t with running := false, active := GrantMap.empty, shadow := GrantMap.empty, lateQuiet := none,
           queue := t.queue.map fun m => if m.count = 1 then { m with count := 0 } else m }

/-- A RUNNING tree stopped (R41, R133): a running search ends ABORTED with reason STOP in the same step. -/
def State.stopTree (s : State) (t : Tree) : State :=
  let s := if (s.tree t).search.running then s.endSearch t .aborted .stop else s
  (s.onTree t TreeLine.stop).mapHomes fun _ x => x.stopMeasuring t

/-- STOP-TREE on a tree (R41). -/
def State.stopRequest (s : State) (t : Tree) : Answer :=
  if (s.tree t).running then (s.stopTree t).accept else s.refuse .state

/-- STOP_TREE (R41, R133). -/
def execStopTree (rx : Rx) (num : BitVec 16) (args : List Byte) (s : State) : Host.Outcome State Fault Refusal :=
  s.does fun s => s.request rx num 12 0 false <| State.answer rx num 12 fun s => s.ranged (treeArg args) s.stopRequest

/-- The message is a TAG-ASSIGN for a tag. -/
def CtlMsg.assigns (m : CtlMsg) (tag : Nat) : Bool :=
  decide (m.tag = tag) && match m.kind with | .tagAssign _ => true | .silence _ | .laserOff | .delaySet _ _ | .laserOn | .drop => false

/-- A MEASURING home of a started tree has a TAG-ASSIGN queued for its tag unless one is in the queue, or kept by its producer (R42; DESIGN CHOICE,
assumption 30). -/
def State.assignAgain (t : Tree) (s : State) (h : HomeIndex) : State :=
  let x := s.home h
  if x.standsOn .measuring t then
    match x.identity, x.tag with
    | some id, some tag =>
      if ((s.tree t).queue ++ (s.tree t).held).any fun m => m.assigns tag then s else s.offerCtl t (.new (.tagAssign id) tag)
    | _, _ => s
  else s

/-- An ISOLATED home of a started tree has its LASER-OFF queued again and its refresh count set to 0 (R42, R111). -/
def State.laserOffAgain (t : Tree) (s : State) (h : HomeIndex) : State :=
  let x := s.home h
  if x.standsOn .isolated t then
    let s := s.setHome h { x with refresh := some 0, refreshDue := false }
    match x.tag with
    | some tag => s.offerCtl t (.new .laserOff tag)
    | none => s
  else s

/-- A STOPPED tree started (R42): every home in service goes to MEASURING with its tag and EQ, every MEASURING home has a TAG-ASSIGN waiting and every ISOLATED home
its LASER-OFF. -/
def State.startTree (s : State) (c : Config) (t : Tree) : State :=
  let s := s.onTree t fun x => x.start c
  let s := s.mapHomes fun _ x => if x.servedOn t then x.toMeasuring .announcing else x
  homeIndexes.foldl (State.laserOffAgain t) (homeIndexes.foldl (State.assignAgain t) s)

/-- START-TREE on a tree (R42): a RUNNING tree and a tree outside the enable mask are refused STATE. -/
def State.startRequest (s : State) (t : Tree) : Answer :=
  match s.config with
  | none => s.refuse .notReady
  | some c => if (s.tree t).running || !c.enable.get t.idx then s.refuse .state else (s.startTree c t).accept

/-- START_TREE (R42, R43). -/
def execStartTree (rx : Rx) (num : BitVec 16) (args : List Byte) (s : State) : Host.Outcome State Fault Refusal :=
  s.does fun s => s.request rx num 13 0 false <| State.answer rx num 13 fun s => s.ranged (treeArg args) s.startRequest

/-! ## Requests whose effect is the answer -/

/-- QUERY-HOME's answer (R14). -/
def State.queryHome (s : State) (h : HomeIndex) : Answer :=
  match (s.home h).state with
  | .free => s.refuse .absent
  | .forward => s.moved (s.home h)
  | .claiming | .measuring | .soaking | .online | .lost | .isolated | .closing => ⟨s, .ok, (s.home h).summary⟩

/-- QUERY_HOME (R10, R14). -/
def execQueryHome (rx : Rx) (num : BitVec 16) (args : List Byte) (s : State) : Host.Outcome State Fault Refusal :=
  s.does fun s => s.request rx num 14 1 true <| State.answer rx num 14 fun s => s.ranged (homeArg args) s.queryHome

/-- FIND taken (R22): RANGE, BUSY with a full search queue, else its walk is queued and answered when it completes. -/
def State.find (s : State) (rx : Rx) (num : BitVec 16) (args : List Byte) : State :=
  match findArgs args with
  | none => s.conclude rx num 15 (s.refuse .range)
  | some (id, start, count) =>
    match s.queueWalk ⟨.find rx.src num, id, start, count⟩ with
    | (s', true) => s'
    | (s', false) => s'.conclude rx num 15 (s'.refuse .busy)

/-- FIND (R20, R22). -/
def execFind (rx : Rx) (num : BitVec 16) (args : List Byte) (s : State) : Host.Outcome State Fault Refusal :=
  s.does fun s => s.request rx num 15 1 true fun s => s.find rx num args

/-- READ_LISTS (R54). -/
def execReadLists (rx : Rx) (num : BitVec 16) (args : List Byte) (s : State) : Host.Outcome State Fault Refusal :=
  s.does fun s => s.request rx num 16 1 true <| State.answer rx num 16 fun s =>
    s.ranged (readListsArgs args) fun (list, start) => ⟨s, .ok, listBody s.enrol list start⟩

/-- QUERY_STATION (R174). -/
def execQueryStation (rx : Rx) (num : BitVec 16) (args : List Byte) (s : State) : Host.Outcome State Fault Refusal :=
  s.does fun s => s.request rx num 17 1 true <| State.answer rx num 17 fun s =>
    s.ranged (queryStationArgs args) fun (part, index) =>
      match s.config with
      | none => s.refuse .notReady
      | some c => ⟨s, .ok, s.part c part index⟩

/-- COLLECT's answer (R161, R173): EMPTY, or the head record in two parts with the depth of the queue (12.3). -/
def State.collect (s : State) (rx : Rx) (num : BitVec 16) : State :=
  match s.meter.hold with
  | [] => s.conclude rx num 18 (s.refuse .empty)
  | r :: _ => s.respondTwo rx.src num 18 (toBE 1 s.meter.hold.length ++ r.bytes.take 64) (r.bytes.drop 64)

/-- COLLECT (R161). -/
def execCollect (rx : Rx) (num : BitVec 16) (_args : List Byte) (s : State) : Host.Outcome State Fault Refusal :=
  s.does fun s => s.request rx num 18 1 true fun s => s.collect rx num

/-- A record leaves the hold queue; a BLOCKED walk goes on where it stopped (R156, R162). -/
def State.dropHead (s : State) : State :=
  let s := s.onMeter fun m => { m with hold := m.hold.tail }
  if s.emission.state = .blocked then { s with emission := { s.emission with state := .walking } } else s

/-- RELEASE-RECORD by number (R162). -/
def State.releaseRecord (s : State) (number : BitVec 16) : Answer :=
  match s.meter.hold with
  | [] => s.refuse .empty
  | r :: rest =>
    if r.number = number then ⟨s.dropHead, .ok, toBE 1 rest.length⟩ else ⟨s, .notHead, toBE 2 r.number.toNat⟩

/-- RELEASE_RECORD (R162). -/
def execReleaseRecord (rx : Rx) (num : BitVec 16) (args : List Byte) (s : State) : Host.Outcome State Fault Refusal :=
  s.does fun s => s.request rx num 19 1 true <| State.answer rx num 19 fun s => s.ranged (recordArg args) s.releaseRecord

/-! ## A kind outside Table 10-2 -/

/-- The request number of a payload; all ones when the payload is too short to hold one (assumption 15). -/
def requestNumber (payload : List Byte) : BitVec 16 :=
  if payload.length < 2 then BitVec.allOnes 16 else BitVec.ofNat 16 (field payload 0 2)

/-- The kind echoed for a payload; all ones when the payload holds none (assumption 15). -/
def echoedKind (payload : List Byte) : Byte := (requestKindByte payload).getD (BitVec.allOnes 8)

/-- A request of an unknown kind (R171, R172): NOT_READY or discarded in WAIT_CONFIG, RANGE in RUN; no rank is needed for a kind Table 10-2 does not list. -/
def State.unknownKind (s : State) (rx : Rx) (payload : List Byte) : State :=
  if s.inRun then s.conclude rx (requestNumber payload) (echoedKind payload) (s.refuse .range)
  else if s.addressed rx then s.conclude rx (requestNumber payload) (echoedKind payload) (s.refuse .notReady)
  else s

/-- UNKNOWN_REQUEST_KIND (R172, 12.3); a payload whose kind code is 1 to 19 is not this command. -/
def execUnknownRequestKind (rx : Rx) (payload : List Byte) (s : State) : Host.Outcome State Fault Refusal :=
  s.does fun s => if Sys2Proof.unknownKind payload then s.receive rx fun s => s.unknownKind rx payload else s

end Sys2Proof.Machine
end

