-- ==== Sys2Proof/Machine/RoundEvents.lean ====
section
/-! DEFINITION. The meanings of the events of the part's own clocks and timers: reset, the round boundary and what follows it, epoch ends, share period ends, second ticks, closes and the map point. An event whose condition does not hold has not come about and changes nothing (assumption 2). -/

namespace Sys2Proof.Machine

/-- PIN_RESET (R176): the straps are read and every block takes its reset values. -/
def execPinReset (stn mgt : Station) (s : State) : Host.Outcome State Fault Refusal :=
  .next { State.afterReset stn mgt with pending := s.pending }

/-- ROUND_BOUNDARY (R23, R25, R27, R44, R45, R55, R66, R82, R83, R123). -/
def execRoundBoundary (s : State) : Host.Outcome State Fault Refusal := s.does State.roundBoundary

/-- CONTROL_MESSAGE_REOFFER (R28): the kept message at a place of the tree's held messages is offered again. -/
def execControlMessageReoffer (t : Tree) (place : Nat) (s : State) : Host.Outcome State Fault Refusal :=
  s.does fun s => s.reoffer t place

/-- A held frame offered again (R168). -/
def State.reofferFrame (s : State) (f : HeldFrame) : State :=
  match f with
  | .claim h => s.reofferClaim h
  | .share =>
    match s.share.heldNotice with
    | some (f, d) => s.offerShare f d
    | none => s
  | .overcommit =>
    match s.share.heldOvercommit with
    | some (c, fSum, n) => (s.onShare fun x => { x with heldOvercommit := none }).offerOvercommit c fSum n
    | none => s
  | .holdFull =>
    match s.meter.heldFull with
    | some (depth, head, tail) => (s.onMeter fun x => { x with heldFull := none }).offerHoldFull depth head tail
    | none => s

/-- HELD_FRAME_REOFFER (R55, R91, R98, R160, R168). -/
def execHeldFrameReoffer (f : HeldFrame) (s : State) : Host.Outcome State Fault Refusal := s.does fun s => s.reofferFrame f

/-- SOAK_END (R66): a SOAKING entry whose countdown is 0 goes to ONLINE, keeping its missed count. -/
def execSoakEnd (h : HomeIndex) (s : State) : Host.Outcome State Fault Refusal :=
  s.does fun s =>
    if (s.home h).state = .soaking ∧ (s.home h).soak = 0 then s.onHome h fun x => { x with state := .online } else s

/-- CLAIM_HOLD_EXPIRY (R56): the hold of a sent CLAIM is 0 with the entry still CLAIMING. -/
def execClaimHoldExpiry (h : HomeIndex) (s : State) : Host.Outcome State Fault Refusal :=
  s.does fun s =>
    match (s.home h).state, (s.home h).claim with
    | .claiming, some c => if c.sent = true ∧ c.hold = 0 then s.succeedClaim h none else s
    | _, _ => s

/-- PROBE_SETTLED (R123): settle boundaries have reached 2 and the probe is OBSERVING with no observations. -/
def execProbeSettled (t : Tree) (s : State) : Host.Outcome State Fault Refusal :=
  s.does fun s =>
    let c := (s.tree t).search
    if c.running = true ∧ c.phase = .settling ∧ 2 ≤ c.settle then
      s.onSearch t fun x => { x with phase := .observing, observations := 0, dark := 0 }
    else s

/-- EPOCH_END (R106, R107, R111, R113, R115). -/
def execEpochEnd (s : State) : Host.Outcome State Fault Refusal :=
  s.does fun s =>
    if s.clock.epochDue then
      let s := s.onClock fun c => { c with epochDue := false }
      let s := s.mapHomes fun _ x => x.halve.refreshTick (s.runsFor x)
      { s with trees := s.trees.map TreeLine.epochEnd }
    else s

/-- LASER_OFF_REFRESH (R111): the refresh count would reach 100; it returns to 0 and a LASER-OFF is queued, unless one for the tag stands in the queue with
sending count 0 or is held. -/
def execLaserOffRefresh (h : HomeIndex) (s : State) : Host.Outcome State Fault Refusal :=
  s.does fun s =>
    let x := s.home h
    if x.state = .isolated ∧ x.refreshDue = true then
      let s := s.setHome h { x with refresh := some 0, refreshDue := false }
      match x.tree, x.tag with
      | some t, some tag =>
        let y := s.tree t
        if (y.queue.any fun m => m.laserOffFor tag && decide (m.count = 0)) || y.held.any fun m => m.laserOffFor tag then s
        else s.offerCtl t (.new .laserOff tag)
      | _, _ => s
    else s

/-- SHARE_PERIOD_END (R88 to R98). -/
def execSharePeriodEnd (s : State) : Host.Outcome State Fault Refusal :=
  s.does fun s => if s.clock.shareDue then (s.onClock fun c => { c with shareDue := false }).shareEnd else s

/-- A home at a second tick: withheld seconds (R151) and the lost timer (R67). -/
def Home.secondTick (x : Home) (running : Bool) : Home :=
  let x := if inService x.state && (decide (x.silence = .search) || !running) then x.onOpen Bank.withhold else x
  if x.state = .lost ∧ running = true then { x with lostTimer := satAdd 3600 x.lostTimer 1 } else x

/-- The unknown list at a second tick (R53). -/
def Enrollment.secondTick (e : Enrollment) : Enrollment :=
  { e with unknown := e.unknown.map fun u => { u with seconds := satAdd 65535 u.seconds 1 } }

/-- SECOND_TICK (R53, R67, R138, R143, R145, R151). -/
def execSecondTick (s : State) : Host.Outcome State Fault Refusal :=
  s.does fun s =>
    if s.clock.secondDue then
      let s := s.onClock fun c => { c with secondDue := false }
      let s := s.mapHomes fun _ x => x.secondTick (s.runsFor x)
      (s.onEnrol Enrollment.secondTick).onCal Calendar.tick
    else s

/-- LOST_TIMEOUT (R67): a LOST entry's timer has reached the lost timeout. -/
def execLostTimeout (h : HomeIndex) (s : State) : Host.Outcome State Fault Refusal :=
  s.does fun s =>
    match s.config with
    | some c =>
      if (s.home h).state = .lost ∧ c.lostTimeout ≤ (s.home h).lostTimer then s.closeEntry h .lostTimeout none else s
    | none => s

/-- A period close at a close moment (R17, R144, R153, R154, R156). -/
def State.periodClose (s : State) (m : Moment) : State :=
  let skipped := homeIndexes.countP fun h => (s.home h).swapSkipped
  let s := s.mapHomes fun _ x => x.atClose m
  let s := (s.onMeter fun x => { x with skippedSwaps := satAdd 65535 x.skippedSwaps skipped }).wakeWalk
  s.onCal fun c => { c with closesFired := c.closesFired.tail }.computeClose

/-- PERIOD_CLOSE (R145): the oldest close that has fired is handed to Metering and the Home Table. -/
def execPeriodClose (s : State) : Host.Outcome State Fault Refusal :=
  s.does fun s =>
    match s.cal.closesFired with
    | m :: _ => s.periodClose m
    | [] => s

/-- FORWARD_RETENTION_EXPIRY (R17): a FORWARD entry whose retention has reached 0 is freed. -/
def execForwardRetentionExpiry (h : HomeIndex) (s : State) : Host.Outcome State Fault Refusal :=
  s.does fun s => if (s.home h).state = .forward ∧ (s.home h).retention = 0 then s.freeEntry h else s

/-- MAP_POINT (R70): block 1800 of the round. -/
def execMapPoint (s : State) : Host.Outcome State Fault Refusal :=
  s.does fun s => if s.clock.mapPassed then s else s.mapPoint

end Sys2Proof.Machine
end

