-- ==== Sys2Proof/Machine/Dispatch.lean ====
section
/-! DEFINITION. The dispatch: one arm per command, each one direct call of the command's meaning. -/

namespace Sys2Proof.Machine

/-- A command's effect on everything but the queue of waiting commands. -/
def exec (i : Instr) (s : State) : Host.Outcome State Fault Refusal :=
  match i with
  | .pinReset stn mgt => Sys2Proof.Machine.execPinReset stn mgt s
  | .roundBoundary => Sys2Proof.Machine.execRoundBoundary s
  | .controlMessageReoffer t place => Sys2Proof.Machine.execControlMessageReoffer t place s
  | .heldFrameReoffer f => Sys2Proof.Machine.execHeldFrameReoffer f s
  | .soakEnd h => Sys2Proof.Machine.execSoakEnd h s
  | .claimHoldExpiry h => Sys2Proof.Machine.execClaimHoldExpiry h s
  | .probeSettled t => Sys2Proof.Machine.execProbeSettled t s
  | .epochEnd => Sys2Proof.Machine.execEpochEnd s
  | .laserOffRefresh h => Sys2Proof.Machine.execLaserOffRefresh h s
  | .sharePeriodEnd => Sys2Proof.Machine.execSharePeriodEnd s
  | .secondTick => Sys2Proof.Machine.execSecondTick s
  | .lostTimeout h => Sys2Proof.Machine.execLostTimeout h s
  | .periodClose => Sys2Proof.Machine.execPeriodClose s
  | .forwardRetentionExpiry h => Sys2Proof.Machine.execForwardRetentionExpiry h s
  | .mapPoint => Sys2Proof.Machine.execMapPoint s
  | .burstReceived t b => Sys2Proof.Machine.execBurstReceived t b s
  | .zoneReceived t z => Sys2Proof.Machine.execZoneReceived t z s
  | .quietWindowMeasured t level => Sys2Proof.Machine.execQuietWindowMeasured t level s
  | .downstreamPacket home packet => Sys2Proof.Machine.execDownstreamPacket home packet s
  | .captureCheckComplete => Sys2Proof.Machine.execCaptureCheckComplete s
  | .claimCheckComplete => Sys2Proof.Machine.execClaimCheckComplete s
  | .releaseCheckComplete => Sys2Proof.Machine.execReleaseCheckComplete s
  | .findWalkComplete r => Sys2Proof.Machine.execFindWalkComplete r s
  | .emissionWalk => Sys2Proof.Machine.execEmissionWalk s
  | .idleGapElapsed => Sys2Proof.Machine.execIdleGapElapsed s
  | .frameSent => Sys2Proof.Machine.execFrameSent s
  | .linkCollision => Sys2Proof.Machine.execLinkCollision s
  | .jamEnd => Sys2Proof.Machine.execJamEnd s
  | .backoffEnd => Sys2Proof.Machine.execBackoffEnd s
  | .badFrame bytes => Sys2Proof.Machine.execBadFrame bytes s
  | .claim rx payload => Sys2Proof.Machine.execClaim rx payload s
  | .object rx payload => Sys2Proof.Machine.execObject rx payload s
  | .release rx payload => Sys2Proof.Machine.execRelease rx payload s
  | .share rx payload => Sys2Proof.Machine.execShare rx payload s
  | .event rx payload => Sys2Proof.Machine.execEvent rx payload s
  | .response rx payload => Sys2Proof.Machine.execResponse rx payload s
  | .configure rx num args => Sys2Proof.Machine.execConfigure rx num args s
  | .time rx num args => Sys2Proof.Machine.execTime rx num args s
  | .tariff rx num args => Sys2Proof.Machine.execTariff rx num args s
  | .admitHome rx num args => Sys2Proof.Machine.execAdmit rx num args s
  | .withdraw rx num args => Sys2Proof.Machine.execWithdraw rx num args s
  | .unbar rx num args => Sys2Proof.Machine.execUnbar rx num args s
  | .retire rx num args => Sys2Proof.Machine.execRetire rx num args s
  | .pardon rx num args => Sys2Proof.Machine.execPardon rx num args s
  | .setClass rx num args => Sys2Proof.Machine.execSetClass rx num args s
  | .search rx num args => Sys2Proof.Machine.execSearch rx num args s
  | .abortSearch rx num args => Sys2Proof.Machine.execAbortSearch rx num args s
  | .stopTree rx num args => Sys2Proof.Machine.execStopTree rx num args s
  | .startTree rx num args => Sys2Proof.Machine.execStartTree rx num args s
  | .queryHome rx num args => Sys2Proof.Machine.execQueryHome rx num args s
  | .find rx num args => Sys2Proof.Machine.execFind rx num args s
  | .readLists rx num args => Sys2Proof.Machine.execReadLists rx num args s
  | .queryStation rx num args => Sys2Proof.Machine.execQueryStation rx num args s
  | .collect rx num args => Sys2Proof.Machine.execCollect rx num args s
  | .releaseRecord rx num args => Sys2Proof.Machine.execReleaseRecord rx num args s
  | .unknownClass rx cls payload => Sys2Proof.Machine.execUnknownClass rx cls payload s
  | .unknownRequestKind rx payload => Sys2Proof.Machine.execUnknownRequestKind rx payload s

end Sys2Proof.Machine
end

