-- ==== Sys2Proof/Safety.lean ====
section
/-! DEFINITION. What a sound state of the PX416 is, in the terms claims use: the invariants the chapters state, and the vocabulary of the statements about requests and transitions. -/

namespace Sys2Proof.Machine

/-! ## Invariants -/

/-- The round clock's positions lie in their ranges (R23). -/
def RoundClock.sound (c : RoundClock) : Prop := c.round ≤ 49 ∧ c.epochInShare ≤ 9 ∧ c.epochInSecond ≤ 99

/-- The calendar holds a valid date, time and weekday, its close time and close moments are valid, and an unset clock has no close moment (R137, R144). -/
def Calendar.sound (c : Calendar) : Prop :=
  c.now.valid = true ∧ c.weekday ≤ 6 ∧ timeValid c.closeTime = true ∧ (∀ m, c.nextClose = some m → m.valid = true) ∧
    (∀ m ∈ c.closesFired, m.valid = true) ∧ (c.set = false → c.nextClose = none ∧ c.closesFired = [])

/-- The hold queue holds at most 48 records, whose numbers run consecutively up to the one before the record counter (R159). -/
def Metering.sound (m : Metering) : Prop :=
  m.hold.length ≤ 48 ∧
    ∀ (i : Nat) (r : Record), m.hold[i]? = some r → r.number = m.nextNumber - BitVec.ofNat 16 (m.hold.length - i)

/-- The transmit queue holds at most 12 frames and 8 routine ones, urgent ahead of routine; a frame is current exactly while the sender is not IDLE, on
attempt 1 to 16, and an IDLE sender has nothing waiting (R165 to R168). -/
def Link.sound (l : Link) : Prop :=
  l.total ≤ 12 ∧ l.routine ≤ 8 ∧
    l.waiting.Pairwise (fun a b => b.content.urgent = true → a.content.urgent = true) ∧
    (l.current = none ↔ l.phase = .idle) ∧ (l.phase = .idle → l.waiting = []) ∧
    (∀ f a, l.current = some (f, a) → 1 ≤ a ∧ a ≤ 16) ∧
    (∀ f a b, l.current = some (f, a) → l.phase = .backoff b → a ≤ 15 ∧ 64 ≤ b ∧ b ≤ 1024)

/-- E lies within 32 to 8000, a live place of the peer view is younger than 3 share periods, and the station's own place is absent (R93, R96, Table 5-1). -/
def State.shareSound (s : State) : Prop :=
  32 ≤ s.share.e ∧ s.share.e ≤ 8000 ∧ (∀ (i : Station) (p : Peer), s.share.peers[i] = some p → p.age ≤ 2) ∧
    s.share.peers[s.own] = none

/-- Suspicion scores and dark counters stay within 0 to 255, and hold-offs within 1000 epochs (R100, Table 6-1). -/
def State.scoresSound (s : State) : Prop :=
  (∀ h, (s.home h).score ≤ 255) ∧ (∀ t, (s.tree t).darkCounter ≤ 255) ∧ (∀ t, (s.tree t).holdOff ≤ 1000)

/-- The sum of g over a tree's entries in the pooled states (R8). -/
def State.pooled (s : State) (t : Tree) : Nat :=
  (homeIndexes.map fun h => if (s.home h).tree = some t ∧ inPool (s.home h).state = true then (s.home h).g else 0).sum

/-- Each tree's guarantee pool is that sum and never exceeds 1200 (R8). -/
def State.poolsSound (s : State) : Prop := ∀ t, (s.tree t).pool = s.pooled t ∧ (s.tree t).pool ≤ 1200

/-- No two entries in states other than FREE hold the same identity (R9). -/
def State.identitiesUnique (s : State) : Prop :=
  ∀ (h k : HomeIndex) (id : Identity), (s.home h).state ≠ .free → (s.home k).state ≠ .free →
    (s.home h).identity = some id → (s.home k).identity = some id → h = k

/-- Every tag an entry holds is marked held by that entry in its tree's tag table, so that on each tree no two entries hold the same tag (R6). -/
def State.tagsSound (s : State) : Prop :=
  ∀ (h : HomeIndex) (t : Tree) (tag : Nat), (s.home h).tree = some t → (s.home h).tag = some tag →
    (s.tree t).place tag = some (.held h)

/-- The forward list holds each FORWARD entry once and nothing else, at most 16 (R16). -/
def State.forwardSound (s : State) : Prop :=
  s.forwardList.Nodup ∧ s.forwardList.length ≤ 16 ∧ ∀ h, h ∈ s.forwardList ↔ (s.home h).state = .forward

/-- In WAIT_CONFIG every entry is FREE, every tree is STOPPED with empty maps, nothing is walked, claimed or held, and the part has only RESPONSE frames
to send (R2, R24, R164, R176). -/
def State.waitSound (s : State) : Prop :=
  s.config = none →
    (∀ h, s.home h = Home.free) ∧
    (∀ t, (s.tree t).running = false ∧ (s.tree t).active = GrantMap.empty ∧ (s.tree t).shadow = GrantMap.empty ∧
      (s.tree t).search.running = false) ∧
    s.walks = [] ∧ s.forwardList = [] ∧ s.share.heldNotice = none ∧ s.share.heldOvercommit = none ∧ s.meter.hold = [] ∧
    s.meter.heldFull = none ∧ ∀ f ∈ s.link.frames, ∃ num kind status part body, f.content = .response num kind status part body

/-- The blocks a grant map leaves to windows: after its zone and before its quiet window (R81). -/
def GrantMap.limit (m : GrantMap) : Nat := if m.quiet then 1992 else 2000

/-- The windows of a grant map lie within the round, outside its zone and its quiet window, and do not overlap (R81). -/
def GrantMap.sound (m : GrantMap) : Prop :=
  (∀ w ∈ m.windows, 3 ≤ w.length ∧ w.start + w.length ≤ m.limit ∧ ∀ z, m.zone = some z → z.length ≤ w.start) ∧
    m.windows.Pairwise (fun a b => a.start + a.length ≤ b.start)

/-- The configuration lies in the ranges of Table 11-2, and every active and shadow map is sound (R81). -/
def State.mapsSound (s : State) : Prop :=
  (∀ c, s.config = some c → configInRange c = true) ∧ ∀ t, (s.tree t).active.sound ∧ (s.tree t).shadow.sound

/-- The lists keep their capacities and hold no identity twice (Tables 3-1 and 3-4), and the search queue holds at most 6 requests (R20). -/
def State.listsSound (s : State) : Prop :=
  s.enrol.admission.length ≤ 32 ∧ (s.enrol.admission.map Admission.identity).Nodup ∧ s.enrol.barred.length ≤ 8 ∧
    s.enrol.barred.Nodup ∧ s.enrol.unknown.length ≤ 8 ∧ (s.enrol.unknown.map Unknown.identity).Nodup ∧
    (∀ t, (s.tree t).captures.length ≤ 4 ∧ (s.tree t).captures.Nodup) ∧ s.walks.length ≤ 6

/-- An invariant that every step keeps. -/
def KeptByEveryStep (inv : State → Prop) : Prop := ∀ s s', inv s → step s = .next s' → inv s'

/-! ## Vocabulary of the statements -/

/-- A frame of another station, addressed to this station alone (R170, checks 4 and 5). -/
def State.toMe (s : State) (rx : Rx) : Prop := rx.dest = toStation s.own ∧ rx.src ≠ s.own

/-- A request of a station whose rank the kind takes reaches a part in RUN, addressed to it (R171, R172). -/
def State.asked (s : State) (rx : Rx) (c : Config) (top : Nat) : Prop :=
  s.config = some c ∧ s.toMe rx ∧ (c.ranks[rx.src]).val ≤ top

/-- The link controller with one more frame received (R170). -/
def Link.received (l : Link) : Link := { l with framesReceived := bump l.framesReceived }

/-- The link controller with one more request refused (R172). -/
def Link.refused (l : Link) : Link := { l with requestsRefused := bump l.requestsRefused }

/-- The single-frame RESPONSE that answers a request (R173, 12.3). -/
def responseFrame (st : Station) (num : BitVec 16) (kind : Byte) (status : Status) (body : List Byte) : Frame :=
  ⟨toStation st, .response num kind status 0 body, false⟩

/-- The link controller after a request has been received and its answer taken by the transmit queue (R170, R173). -/
def Link.answered (l : Link) (rx : Rx) (num : BitVec 16) (kind : Byte) (status : Status) (body : List Byte) : Link :=
  l.received.take (responseFrame rx.src num kind status body)

end Sys2Proof.Machine
end

