-- ==== Sys2Proof/Certificates/Slice0/Obligations.lean ====
section
/-! DEFINITION. The statements about the PX416: the queue of commands, the encodings, the invariants every step keeps, and for every command where it completes and what it leaves. -/

section Statements

open Sys2Proof Sys2Proof.Machine

/-! ## The queue and the reset -/

/-- Tier 1. A step takes the command at the front of the queue and runs it with the queue's rest; with nothing waiting the part idles (assumption 1). -/
def Obligations.StepTakesTheFrontCommand : Prop :=
  (∀ (c : Instr) (rest : List Instr) (s : State), s.pending = c :: rest → step s = exec c { s with pending := rest }) ∧
    ∀ s : State, s.pending = [] → step s = .next s

/-- Tier 1. PIN_RESET from any state (R2, R23, R24, R43, R68, R88, R99, R118, R137, R148, R164, R176): the straps are read, the part is in WAIT_CONFIG, and every record, tree, list,
figure and counter of the blocks holds its reset value. The commands that wait stay (the model's choice, assumption 1). -/
def Obligations.PinResetGivesTheResetValues : Prop :=
  ∀ (stn mgt : Station) (s : State), ∃ s' : State, exec (.pinReset stn mgt) s = .next s' ∧
    s'.own = stn ∧ s'.mgt = mgt ∧ s'.config = none ∧ s'.pending = s.pending ∧ (∀ h, s'.home h = Home.free) ∧
    (∀ (t : Tree), (s'.tree t).running = false ∧ (s'.tree t).active = ⟨[], none, false⟩ ∧ (s'.tree t).shadow = ⟨[], none, false⟩ ∧
      (s'.tree t).queue = [] ∧ (s'.tree t).held = [] ∧ (s'.tree t).pool = 0 ∧ (∀ i : Fin 62, (s'.tree t).tags[i] = TagPlace.free) ∧
      (s'.tree t).captures = [] ∧ (s'.tree t).discovery = 0 ∧ (s'.tree t).rotation = 0 ∧ (s'.tree t).lastBuild = ⟨0, 0, 0, 0, 0⟩ ∧
      (s'.tree t).deferredHomes = 0 ∧ (s'.tree t).darkCounter = 0 ∧ (s'.tree t).holdOff = 0 ∧
      ((s'.tree t).badBursts = 0 ∧ (s'.tree t).badPayloads = 0 ∧ (s'.tree t).lostMessages = 0) ∧
      ((s'.tree t).overruns = 0 ∧ (s'.tree t).earlies = 0 ∧ (s'.tree t).drifts = 0 ∧ (s'.tree t).overlaps = 0 ∧ (s'.tree t).darks = 0 ∧
        (s'.tree t).isolations = 0 ∧ (s'.tree t).darkSearches = 0) ∧
      (s'.tree t).search.running = false ∧ (s'.tree t).search.last = none ∧ (s'.tree t).search.candidates = [] ∧
      (s'.tree t).search.trail = [] ∧ (s'.tree t).search.found = [] ∧ (s'.tree t).search.probe = 0 ∧ (s'.tree t).search.first = 0 ∧
      (s'.tree t).search.count = 0 ∧ (s'.tree t).search.settle = 0 ∧ (s'.tree t).search.observations = 0 ∧ (s'.tree t).search.dark = 0 ∧
      (s'.tree t).search.target = [] ∧ (s'.tree t).search.foundCount = 0) ∧
    s'.clock.number = 0 ∧ s'.clock.round = 0 ∧ s'.clock.epochInShare = 0 ∧ s'.clock.epochInSecond = 0 ∧
    s'.forwardList = [] ∧ s'.walks = [] ∧ s'.walkDrops = 0 ∧ s'.enrol = ⟨[], [], [], 0, 0, 0, 0, 0, 0⟩ ∧
    s'.demandSum = 0 ∧ s'.identities = 0 ∧ s'.discardedEvidence = 0 ∧ s'.refusedDownstream = 0 ∧
    s'.share.fSelf = 0 ∧ s'.share.dSelf = 0 ∧ (∀ i : Station, s'.share.peers[i] = none) ∧ s'.share.heldNotice = none ∧
    s'.share.heldOvercommit = none ∧ s'.share.e = 32 ∧ s'.share.overCommitted = false ∧
    (s'.share.fSum = 0 ∧ s'.share.dSum = 0 ∧ s'.share.n = 0 ∧ s'.share.s = 0 ∧ s'.share.recorded = 0 ∧ s'.share.ignored = 0) ∧
    s'.cal.set = false ∧ s'.cal.now = ⟨0, 1, 1, ⟨0, 0, 0⟩⟩ ∧ s'.cal.weekday = 0 ∧ s'.cal.band = 0 ∧
    (∀ i : Fin 4, s'.cal.table.get i = ⟨false, ⟨0, 0, 0⟩, ⟨0, 0, 0⟩, 0, 0⟩) ∧ s'.cal.waiting = none ∧
    s'.cal.nextClose = none ∧ s'.cal.stepCount = 0 ∧ s'.cal.lastStep = none ∧ s'.cal.closeTime = ⟨0, 0, 0⟩ ∧
    s'.meter = ⟨[], 0, none, 0, 0, 0, 0⟩ ∧ s'.emission = ⟨0, .idle, 0⟩ ∧
    s'.link = ⟨none, [], .idle, 0, 0, 0, 0, 0, 0, 0, 0, 0, 0, 0⟩

/-- Tier 1. After a pin reset, whatever the straps read, every invariant stated below holds. -/
def Obligations.ResetMeetsTheInvariants : Prop :=
  ∀ stn mgt : Station,
    let s := State.afterReset stn mgt
    s.clock.sound ∧ s.cal.sound ∧ s.meter.sound ∧ s.link.sound ∧ s.shareSound ∧ s.scoresSound ∧ s.poolsSound ∧ s.identitiesUnique ∧
      s.tagsSound ∧ s.forwardSound ∧ s.waitSound ∧ s.mapsSound ∧ s.listsSound

/-! ## Encodings -/

/-- Tier 2. Every well-formed command that is a received frame, laid out on the line as 12.2 and 12.3 give it, is read back as that command (R170, R180): all nineteen request
kinds, the six other classes, an unknown class and an unknown request kind, with every operand. -/
def Obligations.LineFramesRoundTrip : Prop :=
  ∀ (i : Instr) (bytes : List Byte), i.wellFormed = true → i.encodeLine = some bytes → decodeLine bytes = i

/-- Tier 2. The configuration as applied, in the layout of Table 12-4, is read back as the same configuration (R178, R179): every field of Table 11-2 within its range, the
management station at rank 0. -/
def Obligations.ConfigurationRoundTrip : Prop :=
  ∀ (c : Config) (mgt : Station), configInRange c = true → c.ranks[mgt] = 0 → configArgs (configBytes c) mgt = some c

/-! ## Invariants every step keeps -/

/-- Tier 2. The round clock's positions stay in their ranges (R23), and the calendar clock always holds a valid date and time (R137). -/
def Obligations.ClocksKept : Prop :=
  KeptByEveryStep (fun s => s.clock.sound) ∧ KeptByEveryStep (fun s => s.cal.sound)

/-- Tier 3. The hold queue never holds more than 48 records, and their numbers run consecutively from head to tail (R159). -/
def Obligations.HoldQueueKept : Prop := KeptByEveryStep (fun s => s.meter.sound)

/-- Tier 3. The transmit queue keeps its limits and its order, and the current frame its attempts (R165 to R168). -/
def Obligations.TransmitQueueKept : Prop := KeptByEveryStep (fun s => s.link.sound)

/-- Tier 2. E stays within 32 to 8000, live places of the peer view are younger than 3 share periods and the own place is never filled (R93, R96). -/
def Obligations.ShareFiguresKept : Prop := KeptByEveryStep State.shareSound

/-- Tier 2. Suspicion scores and dark counters stay within 0 to 255 (R100) and hold-offs within 1000 (R115); the lists keep their capacities without duplicates (Table 3-4), and the
search queue holds at most 6 requests (R20). -/
def Obligations.CountsAndListsKept : Prop := KeptByEveryStep State.scoresSound ∧ KeptByEveryStep State.listsSound

/-- Tier 3. Each tree's guarantee pool is the sum of g over its entries in CLAIMING, MEASURING, SOAKING, ONLINE, LOST and ISOLATED, and never exceeds 1200 (R8). -/
def Obligations.PoolsKept : Prop := KeptByEveryStep State.poolsSound

/-- Tier 3. No two entries in states other than FREE hold the same identity (R9). -/
def Obligations.IdentitiesKept : Prop := KeptByEveryStep State.identitiesUnique

/-- Tier 3. A tag an entry holds is marked held by that entry in its tree's table, so no two entries of a tree hold one tag (R6). -/
def Obligations.TagsKept : Prop := KeptByEveryStep State.tagsSound

/-- Tier 3. The forward list holds exactly the FORWARD entries, each once, at most 16 (R16). -/
def Obligations.ForwardListKept : Prop := KeptByEveryStep State.forwardSound

/-- Tier 3. While the part waits for CONFIGURE, no entry leaves FREE, no tree runs, nothing is claimed, walked or held, and only RESPONSE frames stand in the transmit queue (R2, R164,
R176). -/
def Obligations.WaitConfigKept : Prop := KeptByEveryStep State.waitSound

/-- Tier 3. In every active and shadow map the windows lie within the round, do not overlap one another and do not overlap the map's zone or quiet window (R81). -/
def Obligations.MapsKept : Prop := KeptByEveryStep State.mapsSound

/-! ## Arithmetic the rules give -/

/-- Tier 1. A block is lit at or above level code 8, and a burst's level is the mean of its two head blocks rounded down, 0 to 255 (R29). -/
def Obligations.LitBlocksAndBurstLevel : Prop :=
  (∀ l : Byte, litAt l = true ↔ 8 ≤ l.toNat) ∧
    ∀ a b : Byte, 2 * burstLevel a b ≤ a.toNat + b.toNat ∧ a.toNat + b.toNat < 2 * burstLevel a b + 2 ∧ burstLevel a b ≤ 255

/-- Tier 2. The duration from a valid start to a valid end (R146): its days and time of day are the seconds between the two moments, the time part below 24 hours and the days at most
36524; an end before the start gives 0 days 00:00:00, and a record built over such a period carries CLOCK_STEP. -/
def Obligations.PeriodDuration : Prop :=
  (∀ a b : Moment, a.valid = true → b.valid = true → a.number ≤ b.number →
    86400 * (duration a b).1 + timeSeconds (duration a b).2 = b.number - a.number ∧ timeValid (duration a b).2 = true ∧
      (duration a b).1 ≤ 36524) ∧
  (∀ a b : Moment, b.number < a.number → duration a b = (0, ⟨0, 0, 0⟩)) ∧
  (∀ (x : Home) (h : HomeIndex) (n : BitVec 16) (k : Bank) (a b : Moment) (final : Bool), k.periodStart = some a →
    ((x.record h n k (some b) final).clockStep = true ↔ k.clockStep = true ∨ b.number < a.number))

/-- Tier 2. One second of the calendar (R138): a valid moment other than the last of year 99 is followed by the valid moment whose number is one higher, and the last by 1 January 00,
00:00:00; the weekday rises exactly at midnight, from 6 to 0. -/
def Obligations.OneSecondOfTheCalendar : Prop :=
  (∀ m : Moment, m.valid = true → m ≠ ⟨99, 12, 31, ⟨23, 59, 59⟩⟩ → m.advance.valid = true ∧ m.advance.number = m.number + 1) ∧
    Moment.advance ⟨99, 12, 31, ⟨23, 59, 59⟩⟩ = ⟨0, 1, 1, ⟨0, 0, 0⟩⟩ ∧
    ∀ (m : Moment) (w : Nat), m.valid = true → w ≤ 6 →
      weekdayAdvance m w = if m.time = ⟨23, 59, 59⟩ then (w + 1) % 7 else w

/-- Tier 2. The excess pool shared among the placed homes of a tree (R80), for requests that sum to X: with P at least X every home receives its request; with P less than X each receives
floor(P × e / X), and one block more goes to each of the first L homes in service order whose floor is below their request, L being P less the sum of the floors; no home receives more than its
request, and the shares sum to P. -/
def Obligations.ExcessSharing : Prop :=
  ∀ (p x : Nat) (requests : List Nat), x = requests.sum →
    (x ≤ p → excessShares p x requests = requests) ∧
    (p < x → (excessShares p x requests).sum = p ∧ (excessShares p x requests).length = requests.length ∧
      ∀ (i e : Nat), requests[i]? = some e → ∃ share : Nat, (excessShares p x requests)[i]? = some share ∧ share ≤ e ∧
        share = p * e / x +
          if p * e / x < e ∧ ((requests.take i).filter fun d => p * d / x < d).length < p - (requests.map fun d => p * d / x).sum then 1 else 0)

/-- Tier 2. MAP_POINT in RUN (R70, R79, R80, R86): it completes when the round's map point has not been taken; the E in force is the E used, the round's X_all joins the demand sum, and the excess
payload given over all trees, a window's payload beyond its home's stage-1 payload, does not pass E. Nothing but maps, rotation pointers, build figures and deferred marks changes.
That the round's map point has been taken and that a search has started since are the model's own marks (assumption 6); that the E in force counts as the E used with no tree RUNNING is its reading (assumption 38). -/
def Obligations.ExcessWithinTheAllowance : Prop :=
  ∀ (s : State) (c : Config), s.config = some c → s.clock.mapPassed = false → ∃ s' : State, exec .mapPoint s = .next s' ∧
    s'.eUsed = s.share.e ∧ s'.clock = { s.clock with mapPassed := true } ∧
    s'.demandSum = s.demandSum + ((s.runningTrees.map fun t => (s.stage1 c t).x).sum) ∧
    ((s.runningTrees.map fun t => ((s'.tree t).shadow.windows.map fun w => w.payload - (s.home w.home).stage1).sum).sum ≤ s.share.e) ∧
    (∀ t, (s.tree t).running = false → s'.tree t = s.tree t) ∧
    (∀ t, s'.tree t = { s.tree t with shadow := (s'.tree t).shadow, rotation := (s'.tree t).rotation, lastBuild := (s'.tree t).lastBuild,
                                      deferredHomes := (s'.tree t).deferredHomes, searchSinceMap := (s'.tree t).searchSinceMap }) ∧
    (∀ h, s'.home h = { s.home h with deferred := (s'.home h).deferred }) ∧
    s' = { s with eUsed := s'.eUsed, clock := s'.clock, demandSum := s'.demandSum, trees := s'.trees, homes := s'.homes, out := [] }

/-- Tier 2. What MAP_POINT builds for a RUNNING tree (R44, R70 to R81, R85). The zone by Table 3-2, none while a search runs, MEASURE naming the lowest entry in SAMPLING; the quiet window when the next round's number is a multiple of the quiet interval or a search runs. The homes that need a window, deferred ones first and the others from the
rotation pointer, are fitted in that order while their stage-1 costs stay within the room; the first that does not fit is deferred with all after it, the deferred marks of the tree's entries are those of this build, and the rest get windows laid contiguously from the zone's end, each with its home's tag and its stage-1 payload plus its excess share
(`excessShares`, ExcessSharing). The rotation pointer moves to the next eligible home, and the last-build figures and the deferred-home counter are written. The marks `mapPassed` and `searchSinceMap` are the model's own (assumption 6). -/
def Obligations.MapPointBuilds : Prop :=
  ∀ (s : State) (c : Config) (t : Tree), s.config = some c → s.clock.mapPassed = false → (s.tree t).running = true →
    ∃ (s' : State) (late : List HomeIndex), exec .mapPoint s = .next s' ∧
      let x := s.tree t
      let map := (s'.tree t).shadow
      let length := 10 * c.spread.get t.idx + 8
      let next : BitVec 32 := s.clock.number + 1
      let sampling (h : HomeIndex) : Prop := (s.home h).state = .measuring ∧ (s.home h).tree = some t ∧ (s.home h).phase = some .sampling
      let eligible (h : HomeIndex) : Prop := inService (s.home h).state = true ∧ (s.home h).tree = some t ∧ (s.home h).silence = .none
      let demand (h : HomeIndex) : Nat := (s.home h).report - (s.home h).since
      let needs (h : HomeIndex) : Prop := eligible h ∧ ((s.home h).state = .online → 0 < demand h ∨ next.toNat % 8 = h.val % 8)
      let first (h : HomeIndex) : Nat := if (s.home h).state = .lost then 0 else min (demand h) (s.home h).g
      let asks (h : HomeIndex) : Nat := if (s.home h).state = .online then min (demand h - first h) ((s.home h).p - first h) else 0
      let placed := map.windows.map Window.home
      let room := 2000 - (if map.quiet then 8 else 0) - (if map.zone.isSome then length else 0)
      let cost := (placed.map fun h => 3 + first h).sum
      let total := (placed.map asks).sum
      let all := s'.demandSum - s.demandSum
      let share := if all ≤ s.share.e then total else s.share.e * total / all
      let pool := min (room - cost) share
      (x.search.running = true → map.zone = none) ∧
      (x.search.running = false →
        (c.discovery + 4 ≤ x.discovery → map.zone = some ⟨.discover, length⟩) ∧
        (x.discovery < c.discovery + 4 →
          (∀ (h : HomeIndex) (tag : Nat), sampling h → (∀ k, k < h → ¬ sampling k) → (s.home h).tag = some tag → map.zone = some ⟨.measure h tag, length⟩) ∧
          ((∀ h, ¬ sampling h) → map.zone = if c.discovery ≤ x.discovery then some ⟨.discover, length⟩ else none))) ∧
      (map.quiet = true ↔ next.toNat % c.quiet = 0 ∨ x.search.running = true) ∧
      (∀ h, h ∈ placed ++ late ↔ needs h) ∧ (placed ++ late).Nodup ∧
      (placed ++ late).Pairwise (fun a b =>
        ((s.home b).deferred = true → (s.home a).deferred = true ∧ a < b) ∧
        ((s.home a).deferred = false →
          (x.rotation ≤ a ∧ x.rotation ≤ b ∧ a < b) ∨ (x.rotation ≤ a ∧ b < x.rotation) ∨ (a < x.rotation ∧ b < x.rotation ∧ a < b))) ∧
      cost ≤ room ∧ (∀ (h : HomeIndex) (rest : List HomeIndex), late = h :: rest → room < cost + 3 + first h) ∧
      (∀ h, (s.home h).tree = some t → ((s'.home h).deferred = true ↔ h ∈ late)) ∧
      (∀ w ∈ map.windows, ∀ tag, (s.home w.home).tag = some tag → w.tag = tag) ∧
      map.windows.map Window.length =
        List.zipWith (fun h excess => 3 + first h + excess) placed (excessShares pool total (placed.map asks)) ∧
      (∀ w, map.windows.head? = some w → w.start = if map.zone.isSome then length else 0) ∧
      (∀ (i : Nat) (v w : Window), map.windows[i]? = some v → map.windows[i + 1]? = some w → w.start = v.start + v.length) ∧
      (∀ h, eligible h → x.rotation < h → (∀ k, eligible k → x.rotation < k → h ≤ k) → (s'.tree t).rotation = h) ∧
      (∀ h, eligible h → (∀ k, eligible k → k ≤ x.rotation ∧ h ≤ k) → (s'.tree t).rotation = h) ∧
      ((∀ h, ¬ eligible h) → (s'.tree t).rotation = x.rotation) ∧
      (s'.tree t).lastBuild = ⟨total, share, pool, placed.length, late.length⟩ ∧
      (s'.tree t).deferredHomes = min 65535 (x.deferredHomes + late.length) ∧ (s'.tree t).searchSinceMap = false

/-! ## The sender -/

/-- Tier 1. IDLE_GAP_ELAPSED, FRAME_SENT, LINK_COLLISION, JAM_END and BACKOFF_END (R55, R165 to R167). The gap leads to the attempt. A sent frame leaves the queue and the frame at the front of the
rest becomes current on attempt 1; the last CLAIM of a claim to be sent begins its entry's hold of 100 rounds (that an earlier one waits for it, and that a CLAIM queued again after a drop is one for R57, are the model's choices, assumption 32). A collision leads to the jam, the jam to a back-off of (1 + ((s + 5a) mod 16)) × 64 bit times, and the
back-off to the gap of the next attempt. A frame whose 16th attempt collides leaves the queue and is counted: a RESPONSE, an OBJECT, a RELEASE or a SHARE is lost, an EVENT is lost and counted as dropped, and the CLAIM of a CLAIMING entry is queued again, or kept while there is no room.
`orphan` is the model's own mark (assumption 23). -/
def Obligations.SenderPhases : Prop :=
  ∀ (s : State) (f : Frame) (a : Nat), s.link.current = some (f, a) →
    let next (l : Link) : Link :=
      match l.waiting with
      | [] => { l with current := none, phase := .idle }
      | g :: rest => { l with current := some (g, 1), waiting := rest, phase := .gap }
    (s.link.phase = .gap → exec .idleGapElapsed s = .next { s with link := { s.link with phase := .sending }, out := [.attempt] }) ∧
    (s.link.phase = .sending → (∀ id t h, f.content ≠ .claim id t h) →
      exec .frameSent s = .next { s with link := next { s.link with framesSent := min 65535 (s.link.framesSent + 1) },
                                         out := [.frame (f.lineBytes s.own)] }) ∧
    (∀ (id : Identity) (t : Tree) (h : HomeIndex) (k : ClaimContext), s.link.phase = .sending → f.content = .claim id t h → f.orphan = false →
      (s.home h).state = .claiming → (s.home h).identity = some id → (s.home h).claim = some k →
      exec .frameSent s = .next { s with
        link := next { s.link with framesSent := min 65535 (s.link.framesSent + 1) }
        out := [.frame (f.lineBytes s.own)]
        homes := s.homes.set h { s.home h with
          claim := some (if k.unsent ≤ 1 then { k with unsent := 0, hold := 100, again := false } else { k with unsent := k.unsent - 1 }) } }) ∧
    (s.link.phase = .sending → exec .linkCollision s = .next { s with link := { s.link with phase := .jam }, out := [.jam] }) ∧
    (s.link.phase = .jam → a ≤ 15 →
      exec .jamEnd s = .next { s with link := { s.link with phase := .backoff ((1 + (s.own.val + 5 * a) % 16) * 64),
                                                            collisions := min 65535 (s.link.collisions + 1) }, out := [] }) ∧
    (s.link.phase = .jam → 16 ≤ a →
      let after : Link := next { s.link with collisions := min 65535 (s.link.collisions + 1), collisionDrops := min 65535 (s.link.collisionDrops + 1) }
      (f.content.isEvent = false → (∀ id t h, f.content ≠ .claim id t h) → exec .jamEnd s = .next { s with link := after, out := [] }) ∧
      (∀ e, f.content = .event e →
        exec .jamEnd s = .next { s with link := { after with eventsDropped := min 65535 (s.link.eventsDropped + 1) }, out := [] }) ∧
      ∀ (id : Identity) (t u : Tree) (h : HomeIndex) (k : ClaimContext), f.content = .claim id t h → f.orphan = false → (s.home h).state = .claiming →
        (s.home h).identity = some id → (s.home h).tree = some u → (s.home h).claim = some k →
        (after.roomFor false = true →
          exec .jamEnd s = .next { s with link := after.take ⟨31, .claim id u h, false⟩, out := []
                                          homes := s.homes.set h { s.home h with claim := some { k with again := true } } }) ∧
        (after.roomFor false = false →
          exec .jamEnd s = .next { s with link := after, out := []
                                          homes := s.homes.set h { s.home h with claim := some { k with again := true, held := k.held + 1 } } })) ∧
    (∀ b, s.link.phase = .backoff b →
      exec .backoffEnd s = .next { s with link := { s.link with current := some (f, a + 1), phase := .gap }, out := [] })

/-! ## Frames that are discarded, requests that are refused -/

/-- Tier 1. BAD_FRAME, EVENT, RESPONSE and UNKNOWN_CLASS (R170, R171). Bytes that fail the receiver's first three checks count as a bad frame. A frame of another station, to this station or
to all, whose class is unknown counts as an unknown class; an EVENT or a RESPONSE counts as received and is discarded. A frame of the own number or for another station changes nothing. -/
def Obligations.DiscardedFrames : Prop :=
  ∀ s : State,
    (∀ bytes, lineFrame bytes = none →
      exec (.badFrame bytes) s = .next { s with link := { s.link with badFrames := min 65535 (s.link.badFrames + 1) }, out := [] }) ∧
    (∀ (rx : Rx) (cls : Byte) (p : List Byte), rx.src ≠ s.own → (rx.dest = toStation s.own ∨ rx.dest = 31) →
      exec (.event rx p) s = .next { s with link := s.link.received, out := [] } ∧
      exec (.response rx p) s = .next { s with link := s.link.received, out := [] } ∧
      ((cls = 0 ∨ 8 ≤ cls.toNat) →
        exec (.unknownClass rx cls p) s =
          .next { s with link := { s.link with unknownClasses := min 65535 (s.link.unknownClasses + 1) }, out := [] })) ∧
    (∀ (rx : Rx) (i : Instr) (cls : Byte) (p : List Byte), i.lineParts = some (rx, cls, p) →
      (rx.src = s.own ∨ (rx.dest ≠ toStation s.own ∧ rx.dest ≠ 31)) → exec i s = .next { s with out := [] })

/-- Tier 2. In WAIT_CONFIG every request other than CONFIGURE, of a known or an unknown kind, is refused NOT_READY when addressed to this station, the refusal counted and answered with its
request number and kind, and is discarded uncounted when sent to all (R171 to R173, R176). -/
def Obligations.NotReadyWhileWaiting : Prop :=
  ∀ (s : State) (i : Instr) (rx : Rx) (num : BitVec 16) (kind : Byte) (args : List Byte), i.wellFormed = true →
    i.lineParts = some (rx, 6, toBE 2 num.toNat ++ kind :: args) → kind ≠ 1 → s.config = none → rx.src ≠ s.own →
    (rx.dest = toStation s.own → s.link.roomFor false = true →
      exec i s = .next { s with link := s.link.received.refused.take (responseFrame rx.src num kind .notReady []), out := [] }) ∧
    (rx.dest = 31 → exec i s = .next { s with link := s.link.received, out := [] })

/-- Tier 2. In RUN a request whose source's rank is above the rank its kind needs (Table 10-2: 0 for the kinds 2 to 13, 0 or 1 for the kinds 14 to 19) is refused RANK when addressed, with
nothing changed but the refusal's count and its answer; the kinds 14 to 19 sent to all are discarded unread and uncounted (R172, R173). A request whose kind code lies outside 1 to 19 (UNKNOWN_REQUEST_KIND, R172, 12.3) is refused RANGE whatever its source's rank, counted, and
answered when it was addressed to this station. -/
def Obligations.RankAndUnreadRequests : Prop :=
  (∀ (s : State) (c : Config) (i : Instr) (rx : Rx) (num : BitVec 16) (kind : Byte) (args : List Byte), i.wellFormed = true →
    i.lineParts = some (rx, 6, toBE 2 num.toNat ++ kind :: args) → 2 ≤ kind.toNat → kind.toNat ≤ 19 → s.config = some c → rx.src ≠ s.own →
    (rx.dest = toStation s.own → s.link.roomFor false = true → (if kind.toNat ≤ 13 then 0 else 1) < (c.ranks[rx.src]).val →
      exec i s = .next { s with link := s.link.received.refused.take (responseFrame rx.src num kind .rank []), out := [] }) ∧
    (rx.dest = 31 → 14 ≤ kind.toNat → exec i s = .next { s with link := s.link.received, out := [] })) ∧
  ∀ (s : State) (c : Config) (rx : Rx) (num : BitVec 16) (kind : Byte) (args : List Byte), (kind = 0 ∨ 20 ≤ kind.toNat) → s.config = some c →
    rx.src ≠ s.own →
    (rx.dest = toStation s.own → s.link.roomFor false = true →
      exec (.unknownRequestKind rx (toBE 2 num.toNat ++ kind :: args)) s =
        .next { s with link := s.link.received.refused.take (responseFrame rx.src num kind .range []), out := [] }) ∧
    (rx.dest = 31 →
      exec (.unknownRequestKind rx (toBE 2 num.toNat ++ kind :: args)) s = .next { s with link := s.link.received.refused, out := [] })

/-! ## Requests -/

/-- Tier 1. CONFIGURE (R164, R178, R179, R24, R43, R94): from the management station, in WAIT_CONFIG, with every field in range, it is applied whole and answered with the configuration as applied.
The enabled trees run with discovery due, the peer view loses the stations of rank 3, the close time is written, and everything else stands. From another source it is refused RANK. -/
def Obligations.ConfigureApplied : Prop :=
  ∀ (s : State) (rx : Rx) (num : BitVec 16) (args : List Byte), s.toMe rx → s.config = none → s.link.roomFor false = true →
    (∀ c : Config, rx.src = s.mgt → configArgs args s.mgt = some c →
      ∃ s' : State, exec (.configure rx num args) s = .next s' ∧
        s' = { s with config := some c, share := s'.share, cal := { s.cal with closeTime := c.close }, trees := s'.trees,
                      link := s.link.answered rx num 1 .ok (configBytes c), out := [] } ∧
        (∀ t, s'.tree t = if c.enable.get t.idx then { s.tree t with running := true, discovery := c.discovery } else s.tree t) ∧
        s'.share = { s.share with peers := s'.share.peers } ∧
        ∀ i : Station, s'.share.peers[i] = if (c.ranks[i]).val = 3 then none else s.share.peers[i]) ∧
    (rx.src = s.mgt → configArgs args s.mgt = none →
      exec (.configure rx num args) s =
        .next { s with link := s.link.received.refused.take (responseFrame rx.src num 1 .range []), out := [] }) ∧
    (rx.src ≠ s.mgt →
      exec (.configure rx num args) s =
        .next { s with link := s.link.received.refused.take (responseFrame rx.src num 1 .rank []), out := [] })

/-- Tier 1. TARIFF, ADMIT, WITHDRAW and UNBAR (R52, R143). A table in range waits for the next second tick. An admission replaces its identity's entry in place or joins the tail of a list of fewer
than 32; at a full list an addressed one is refused FULL. WITHDRAW and UNBAR remove their identity, the others keeping their order, and refuse NOT_FOUND one that is not in the list. -/
def Obligations.TariffAndListRequests : Prop :=
  ∀ (s : State) (c : Config) (rx : Rx) (num : BitVec 16) (args : List Byte), s.asked rx c 0 → s.link.roomFor false = true →
    (∀ table, tariffArgs args = some table →
      exec (.tariff rx num args) s =
        .next { s with cal := { s.cal with waiting := some table }, link := s.link.answered rx num 3 .ok [], out := [] }) ∧
    (∀ a, admitArgs args = some a → (∀ b ∈ s.enrol.admission, b.identity ≠ a.identity) → s.enrol.admission.length < 32 →
      exec (.admitHome rx num args) s =
        .next { s with enrol := { s.enrol with admission := s.enrol.admission ++ [a] }, link := s.link.answered rx num 4 .ok [], out := [] }) ∧
    (∀ a b, admitArgs args = some a → b ∈ s.enrol.admission → b.identity = a.identity →
      exec (.admitHome rx num args) s =
        .next { s with enrol := { s.enrol with admission := s.enrol.admission.map fun x => if x.identity = a.identity then a else x },
                       link := s.link.answered rx num 4 .ok [], out := [] }) ∧
    (∀ a, admitArgs args = some a → (∀ b ∈ s.enrol.admission, b.identity ≠ a.identity) → 32 ≤ s.enrol.admission.length →
      exec (.admitHome rx num args) s =
        .next { s with link := s.link.received.refused.take (responseFrame rx.src num 4 .full []), out := [] }) ∧
    (∀ id a, identityArg args = some id → a ∈ s.enrol.admission → a.identity = id →
      exec (.withdraw rx num args) s =
        .next { s with enrol := { s.enrol with admission := s.enrol.admission.filter fun x => x.identity ≠ id },
                       link := s.link.answered rx num 5 .ok [], out := [] }) ∧
    (∀ id, identityArg args = some id → (∀ a ∈ s.enrol.admission, a.identity ≠ id) →
      exec (.withdraw rx num args) s =
        .next { s with link := s.link.received.refused.take (responseFrame rx.src num 5 .notFound []), out := [] }) ∧
    (∀ id, identityArg args = some id → id ∈ s.enrol.barred →
      exec (.unbar rx num args) s =
        .next { s with enrol := { s.enrol with barred := s.enrol.barred.filter fun x => x ≠ id },
                       link := s.link.answered rx num 6 .ok [], out := [] }) ∧
    (∀ id, identityArg args = some id → id ∉ s.enrol.barred →
      exec (.unbar rx num args) s =
        .next { s with link := s.link.received.refused.take (responseFrame rx.src num 6 .notFound []), out := [] })

/-- What moving an entry to CLOSING does (R5, R6, R107, R112): the entry whole, its pending counted into its open bank; its tag draining with a DROP queued, or kept while the queue has no room; its g out of the pool; the
messages kept for the tag that lose their reason gone (assumption 22). That the soak countdown and attempts used stand as they stood is the model's choice (assumption 40).
Every other entry and every other tree stands. -/
structure Sys2Proof.ClosedTo (s s' : State) (h : HomeIndex) (t : Tree) (tag : Nat) (reason : LeaveReason) (fwd : Option Station) : Prop where
  entry : s'.home h = { (s.home h).pendingToMeters with
    state := .closing, leaveReason := some reason, forwardTo := fwd, tag := none, report := 0, since := 0, missed := 0, lostTimer := 0
    deferred := false, samples := [], silence := .none, phase := none, refresh := none, refreshDue := false }
  places : ∀ k, (s'.tree t).place k = if k = tag then some .draining else (s.tree t).place k
  queue : (s'.tree t).queue = (s.tree t).queue ++ (if (s.tree t).queue.length < 16 then [⟨.drop, tag, 0, false⟩] else [])
  held : (s'.tree t).held = ((s.tree t).held.filter fun m =>
      (m.kind = .drop ∨ m.urgent = true ∨ m.tag ≠ tag) ∧ ¬ ((s.home h).state = .isolated ∧ m.kind = .laserOff ∧ m.tag = tag)) ++
    (if (s.tree t).queue.length < 16 then [] else [⟨.drop, tag, 0, false⟩])
  here : s'.tree t = { s.tree t with
    tags := (s'.tree t).tags, pool := (s.tree t).pool - (s.home h).g, queue := (s'.tree t).queue, held := (s'.tree t).held }
  others : ∀ k, k ≠ h → s'.home k = s.home k
  trees : ∀ u, u ≠ t → s'.tree u = s.tree u

/-- The emission walk woken (R156). -/
def Sys2Proof.wokenWalk (w : EmissionWalk) : EmissionWalk :=
  match w.state with
  | .idle => { w with state := .walking, passes := 0 }
  | .walking => { w with passes := 0 }
  | .blocked => w

/-- Tier 2. The ways a home with a tag goes to CLOSING: LOST_TIMEOUT when its timer has reached the lost timeout (R67), RETIRE of a home in service or ISOLATED (R11), and CLAIM_CHECK_COMPLETE that
finds it LOST (R60), which also queues a RELEASE to all. Each makes R5's entry to CLOSING with its pending billed (R107), wakes the emission walk (R156) and changes nothing else. Then the end of CLOSING with a forward-to (R15, R16):
EMISSION_WALK enqueues the FINAL record and the entry is FORWARD at the tail of the forward list, keeping identity, account and tree, its other fields FREE values (assumption 18); with 16 in the list the longest there is freed first. Last,
the 48th record (R160): EMISSION_WALK of a waiting closed bank raises the hold-full counter and HOLD_FULL joins the transmit queue, or is held when there is no room. That the soak countdown and attempts used of the entry that goes to CLOSING stand as they stood is the model's choice (assumption 40). -/
def Obligations.WaysToClosing : Prop :=
  (∀ (s : State) (c : Config) (h : HomeIndex) (t : Tree) (tag : Nat), s.config = some c → (s.home h).tree = some t → (s.home h).tag = some tag →
    (s.tree t).place tag = some (.held h) →
    ((s.home h).state = .lost → c.lostTimeout ≤ (s.home h).lostTimer →
      ∃ s' : State, exec (.lostTimeout h) s = .next s' ∧ ClosedTo s s' h t tag .lostTimeout none ∧
        s' = { s with homes := s'.homes, trees := s'.trees, emission := wokenWalk s.emission, out := [] }) ∧
    (∀ (rx : Rx) (num : BitVec 16) (args : List Byte), s.asked rx c 0 → s.link.roomFor false = true → homeArg args = some h →
      (inService (s.home h).state = true ∨ (s.home h).state = .isolated) →
      ∃ s' : State, exec (.retire rx num args) s = .next s' ∧ ClosedTo s s' h t tag .management none ∧
        s' = { s with homes := s'.homes, trees := s'.trees, emission := wokenWalk s.emission,
                      link := s.link.answered rx num 7 .ok [], out := [] }) ∧
    (∀ (claimant : Station) (index : Byte) (id : Identity) (start count : Nat) (rest : List WalkRequest),
      s.walks = ⟨.claim claimant index, id, start, count⟩ :: rest → s.holder id = some h → (s.home h).state = .lost → s.link.total < 12 →
      ∃ s' : State, exec .claimCheckComplete s = .next s' ∧ ClosedTo s s' h t tag .moved (some claimant) ∧
        s' = { s with homes := s'.homes, trees := s'.trees, emission := wokenWalk s.emission, walks := rest,
                      link := s.link.take ⟨31, .release id s.own claimant index, false⟩, out := [] })) ∧
  ∀ (s : State) (h : HomeIndex), s.emission.state = .walking → s.emission.pointer = h →
    (∀ st : Station, (s.home h).closedWaiting = false → (s.home h).state = .closing → (s.home h).forwardTo = some st → s.meter.hold.length < 47 →
      let final : State := { s with
        emission := { s.emission with passes := 0 }
        meter := { s.meter with
          hold := s.meter.hold ++ [(s.home h).record h s.meter.nextNumber (s.home h).openBank (if s.cal.set then some s.cal.now else none) true]
          nextNumber := s.meter.nextNumber + 1
          enqueued := min 65535 (s.meter.enqueued + 1)
          finals := min 65535 (s.meter.finals + 1) }
        out := [] }
      let forward : Home := { Home.free with
        state := .forward, identity := (s.home h).identity, account := (s.home h).account, tree := (s.home h).tree, forwardTo := some st
        retention := 3 }
      (s.forwardList.length < 16 →
        exec .emissionWalk s = .next { final with homes := s.homes.set h forward, forwardList := s.forwardList ++ [h] }) ∧
      (∀ (k : HomeIndex) (rest : List HomeIndex), s.forwardList = k :: rest → 16 ≤ s.forwardList.length → k ≠ h → (s.home k).state = .forward →
        (s.home k).tag = none →
        exec .emissionWalk s =
          .next { final with homes := (s.homes.set k Home.free).set h forward, forwardList := (rest.filter fun i => i ≠ k) ++ [h] })) ∧
    (∀ (r : Record) (rest : List Record), (s.home h).closedWaiting = true → s.meter.hold = r :: rest → s.meter.hold.length = 47 →
      s.meter.heldFull = none →
      let last := (s.home h).record h s.meter.nextNumber (s.home h).otherBank (s.home h).otherBank.periodEnd false
      let full : State := { s with
        homes := s.homes.set h { s.home h with closedWaiting := false, movedFrom := none }
        emission := { s.emission with passes := 0 }
        meter := { s.meter with
          hold := s.meter.hold ++ [last], nextNumber := s.meter.nextNumber + 1, enqueued := min 65535 (s.meter.enqueued + 1)
          holdFulls := min 65535 (s.meter.holdFulls + 1) }
        out := [] }
      (s.link.roomFor false = true →
        exec .emissionWalk s =
          .next { full with link := s.link.take ⟨31, .event (.holdFull 48 r.number s.meter.nextNumber), false⟩ }) ∧
      (s.link.roomFor false = false →
        exec .emissionWalk s = .next { full with meter := { full.meter with heldFull := some (48, r.number, s.meter.nextNumber) } }))

/-- Tier 1. RETIRE of a FORWARD entry (R11) and FORWARD_RETENTION_EXPIRY (R17) free it: the record takes its FREE values, it leaves the forward list, and nothing else changes. SOAK_END (R66) takes a
SOAKING entry whose countdown is 0 to ONLINE with every other field kept. PROBE_SETTLED (R123) takes a settled probe to OBSERVING with no observations. -/
def Obligations.EntryAndProbeTimers : Prop :=
  ∀ (s : State) (h : HomeIndex),
    ((s.home h).state = .forward → (s.home h).tag = none → (s.home h).retention = 0 →
      exec (.forwardRetentionExpiry h) s =
        .next { s with homes := s.homes.set h Home.free, forwardList := s.forwardList.filter fun i => i ≠ h, out := [] }) ∧
    (∀ (c : Config) (rx : Rx) (num : BitVec 16) (args : List Byte), s.asked rx c 0 → s.link.roomFor false = true → homeArg args = some h →
      (s.home h).state = .forward → (s.home h).tag = none →
      exec (.retire rx num args) s =
        .next { s with homes := s.homes.set h Home.free, forwardList := s.forwardList.filter fun i => i ≠ h,
                       link := s.link.answered rx num 7 .ok [], out := [] }) ∧
    ((s.home h).state = .soaking → (s.home h).soak = 0 →
      exec (.soakEnd h) s = .next { s with homes := s.homes.set h { s.home h with state := .online }, out := [] }) ∧
    (∀ t : Tree, (s.tree t).search.running = true → (s.tree t).search.phase = .settling → 2 ≤ (s.tree t).search.settle →
      exec (.probeSettled t) s =
        .next { s with out := []
                       trees := s.trees.set t.idx
                         { s.tree t with search := { (s.tree t).search with phase := .observing, observations := 0, dark := 0 } } })

/-- Tier 1. PARDON of an ISOLATED home (R12, R112): its score is 0, it is MEASURING in ANNOUNCING with its tag, EQ, banks and discarded bytes kept, its waiting LASER-OFF messages with sending count
0 and its held one are removed, and a LASER-ON stands at the tail of the queue. No other entry or tree changes.
SET-CLASS (R13) of a home in service or ISOLATED whose tree's pool, with the old g replaced by the new, stays within 1200: g and p are written, the pool adjusted and the values answered;
past 1200 it is refused CAPACITY and nothing changes. The entry's g is counted in its tree's pool. -/
def Obligations.PardonAndSetClass : Prop :=
  (∀ (s : State) (c : Config) (rx : Rx) (num : BitVec 16) (args : List Byte) (h : HomeIndex) (t : Tree) (tag : Nat), s.asked rx c 0 →
    s.link.roomFor false = true → homeArg args = some h → (s.home h).state = .isolated → (s.home h).tree = some t → (s.home h).tag = some tag →
    (s.tree t).queue.length < 16 →
    exec (.pardon rx num args) s =
      .next { s with
        homes := s.homes.set h { s.home h with
          state := .measuring, score := 0, phase := some .announcing, attempts := 0, samples := [], report := 0, since := 0, missed := 0,
          deferred := false, soak := 0, lostTimer := 0, claim := none, refresh := none, refreshDue := false }
        trees := s.trees.set t.idx { s.tree t with
          queue := ((s.tree t).queue.filter fun m => ¬ (m.kind = .laserOff ∧ m.tag = tag ∧ m.count = 0)) ++ [⟨.laserOn, tag, 0, false⟩]
          held := (s.tree t).held.filter fun m => ¬ (m.kind = .laserOff ∧ m.tag = tag) }
        link := s.link.answered rx num 8 .ok []
        out := [] }) ∧
  ∀ (s : State) (c : Config) (rx : Rx) (num : BitVec 16) (args : List Byte) (h : HomeIndex) (t : Tree) (g p : Nat), s.asked rx c 0 →
    s.link.roomFor false = true → setClassArgs args = some (h, g, p) → (inService (s.home h).state = true ∨ (s.home h).state = .isolated) →
    (s.home h).tree = some t → (s.home h).g ≤ (s.tree t).pool →
    exec (.setClass rx num args) s =
      if (s.tree t).pool - (s.home h).g + g ≤ 1200 then
        .next { s with homes := s.homes.set h { s.home h with g := g, p := p }
                       trees := s.trees.set t.idx { s.tree t with pool := (s.tree t).pool - (s.home h).g + g }
                       link := s.link.answered rx num 9 .ok (toBE 2 g ++ toBE 2 p)
                       out := [] }
      else .next { s with link := s.link.received.refused.take (responseFrame rx.src num 9 .capacity []), out := [] }

/-- Tier 2. Requests refused by what they name, and requests sent to all. RETIRE, PARDON and SET-CLASS by the state of the entry (R10, Table 1-4): refused ABSENT, MOVED with the forward-to station, STATE or BUSY, nothing changing but the refusal's count and its answer; a home index above 127 is refused RANGE, and so is every request of the kinds 2 to 19 but COLLECT whose arguments are too short or hold a field out of range
(R54, R139, R143, R162, R172, R174). ABORT-SEARCH of a tree without a search is refused STATE (R132). CONFIGURE with every field in range is refused STATE in RUN (R178). Every request of the kinds 1 to 13 acts alike whether it is addressed to this station or sent to all, and one sent to all queues no RESPONSE (R173); an ADMIT sent to all that finds the list full is dropped
and counted (R52; that it is no refusal is the model's reading, assumption 16). -/
def Obligations.RefusedByStateOrSentToAll : Prop :=
  (∀ (s : State) (c : Config) (rx : Rx) (num : BitVec 16) (args : List Byte), s.asked rx c 0 → s.link.roomFor false = true →
    let refused (kind : Byte) (status : Status) (body : List Byte) : Host.Outcome State Fault Refusal :=
      .next { s with link := s.link.received.refused.take (responseFrame rx.src num kind status body), out := [] }
    (∀ h, homeArg args = some h →
      ((s.home h).state = .free → exec (.retire rx num args) s = refused 7 .absent [] ∧ exec (.pardon rx num args) s = refused 8 .absent []) ∧
      ((s.home h).state = .closing → exec (.retire rx num args) s = refused 7 .state [] ∧ exec (.pardon rx num args) s = refused 8 .state []) ∧
      ((s.home h).state = .claiming ∨ (s.home h).state = .measuring →
        exec (.retire rx num args) s = refused 7 .busy [] ∧ exec (.pardon rx num args) s = refused 8 .busy []) ∧
      ((s.home h).state = .forward → exec (.pardon rx num args) s = refused 8 .moved (optStation (s.home h).forwardTo)) ∧
      (inService (s.home h).state = true → exec (.pardon rx num args) s = refused 8 .state [])) ∧
    (∀ h g p, setClassArgs args = some (h, g, p) →
      ((s.home h).state = .free → exec (.setClass rx num args) s = refused 9 .absent []) ∧
      ((s.home h).state = .forward → exec (.setClass rx num args) s = refused 9 .moved (optStation (s.home h).forwardTo)) ∧
      ((s.home h).state = .closing → exec (.setClass rx num args) s = refused 9 .state []) ∧
      ((s.home h).state = .claiming ∨ (s.home h).state = .measuring → exec (.setClass rx num args) s = refused 9 .busy [])) ∧
    (args.length < 1 ∨ 128 ≤ (byteAt args 0).toNat → exec (.retire rx num args) s = refused 7 .range [] ∧ exec (.pardon rx num args) s = refused 8 .range []) ∧
    (args.length < 5 ∨ 128 ≤ (byteAt args 0).toNat → exec (.setClass rx num args) s = refused 9 .range []) ∧
    (args.length < 7 ∨ 6 < field args 6 1 ∨
        (⟨field args 0 1, field args 1 1, field args 2 1, ⟨field args 3 1, field args 4 1, field args 5 1⟩⟩ : Moment).valid = false →
      exec (.time rx num args) s = refused 2 .range []) ∧
    (args.length < 36 ∨ (∃ i, i < 4 ∧ (timeValid (timeAt args (9 * i + 1)) = false ∨ timeValid (timeAt args (9 * i + 4)) = false ∨
        128 ≤ (byteAt args (9 * i + 7)).toNat ∨ 4 ≤ (byteAt args (9 * i + 8)).toNat)) →
      exec (.tariff rx num args) s = refused 3 .range []) ∧
    (args.length < 16 → exec (.admitHome rx num args) s = refused 4 .range []) ∧
    (args.length < 8 → exec (.withdraw rx num args) s = refused 5 .range [] ∧ exec (.unbar rx num args) s = refused 6 .range []) ∧
    (args.length < 1 ∨ 4 ≤ (byteAt args 0).toNat →
      exec (.search rx num args) s = refused 10 .range [] ∧ exec (.abortSearch rx num args) s = refused 11 .range [] ∧
      exec (.stopTree rx num args) s = refused 12 .range [] ∧ exec (.startTree rx num args) s = refused 13 .range []) ∧
    (∀ t, treeArg args = some t → (s.tree t).search.running = false → exec (.abortSearch rx num args) s = refused 11 .state []) ∧
    (∀ c', rx.src = s.mgt → configArgs args s.mgt = some c' → exec (.configure rx num args) s = refused 1 .state [])) ∧
  (∀ (s : State) (c : Config) (rx : Rx) (num : BitVec 16) (args : List Byte), s.asked rx c 1 → s.link.roomFor false = true →
    let refused (kind : Byte) : Host.Outcome State Fault Refusal :=
      .next { s with link := s.link.received.refused.take (responseFrame rx.src num kind .range []), out := [] }
    (args.length < 1 ∨ 128 ≤ (byteAt args 0).toNat → exec (.queryHome rx num args) s = refused 14) ∧
    (args.length < 10 ∨ 127 < field args 8 1 ∨ field args 9 1 = 0 ∨ 128 < field args 9 1 → exec (.find rx num args) s = refused 15) ∧
    (args.length < 2 ∨ 2 < field args 0 1 ∨ 31 < field args 1 1 → exec (.readLists rx num args) s = refused 16) ∧
    (args.length < 2 ∨ 7 < field args 0 1 ∨ 15 < field args 1 1 ∨ ((field args 0 1 = 1 ∨ field args 0 1 = 2) ∧ 3 < field args 1 1) →
      exec (.queryStation rx num args) s = refused 17) ∧
    (args.length < 2 → exec (.releaseRecord rx num args) s = refused 19)) ∧
  (∀ (s : State) (i j : Instr) (src : Station) (num : BitVec 16) (kind : Byte) (args : List Byte), i.wellFormed = true → j.wellFormed = true →
    i.lineParts = some (⟨toStation s.own, src⟩, 6, toBE 2 num.toNat ++ kind :: args) →
    j.lineParts = some (⟨31, src⟩, 6, toBE 2 num.toNat ++ kind :: args) →
    1 ≤ kind.toNat → kind.toNat ≤ 13 → src ≠ s.own → s.link.sound → (s.config.isSome = true ∨ kind = 1) → (kind = 4 → s.enrol.admission.length < 32) →
    ∃ s₁ s₂ : State, exec i s = .next s₁ ∧ exec j s = .next s₂ ∧ s₂ = { s₁ with link := s₂.link } ∧
      (s₂.link.frames.filter fun f => f.content.classCode = 7) = s.link.frames.filter fun f => f.content.classCode = 7) ∧
  ∀ (s : State) (c : Config) (src : Station) (num : BitVec 16) (args : List Byte) (a : Admission), s.config = some c → src ≠ s.own → c.ranks[src] = 0 →
    admitArgs args = some a → (∀ b ∈ s.enrol.admission, b.identity ≠ a.identity) → 32 ≤ s.enrol.admission.length →
    exec (.admitHome ⟨31, src⟩ num args) s =
      .next { s with enrol := { s.enrol with droppedAdmissions := min 65535 (s.enrol.droppedAdmissions + 1) }, link := s.link.received, out := [] }

/-- Tier 2. A request that finds no room for its RESPONSE (R168, R173): with 12 frames in the transmit queue, or 8 routine ones, a request of any known or unknown kind addressed to this station acts in all but the link controller as it does while the queue is empty; its RESPONSE, both parts
of it for a COLLECT, is dropped, the responses-dropped counter rises by 1, and no RESPONSE joins the queue. A FIND that a search queue with room takes is answered by its walk: a FIND_WALK_COMPLETE that completes with no room ends the walk and drops its answer in the same way. -/
def Obligations.AnswersWithoutRoom : Prop :=
  (∀ (s : State) (i : Instr) (rx : Rx) (num : BitVec 16) (kind : Byte) (args : List Byte), i.wellFormed = true →
    i.lineParts = some (rx, 6, toBE 2 num.toNat ++ kind :: args) → s.toMe rx → s.link.sound → s.link.roomFor false = false →
    (kind = 15 → s.walks.length < 6 → s.config = none ∨ findArgs args = none ∨ ∃ c, s.config = some c ∧ 1 < (c.ranks[rx.src]).val) →
    ∃ s₁ s₂ : State, exec i s = .next s₁ ∧ exec i { s with link := { s.link with current := none, waiting := [], phase := .idle } } = .next s₂ ∧
      s₁ = { s₂ with link := s₁.link } ∧ s₁.link.responsesDropped = min 65535 (s.link.responsesDropped + 1) ∧
      s₁.link.requestsRefused = s₂.link.requestsRefused ∧ s₁.link.framesReceived = s₂.link.framesReceived ∧
      (s₁.link.frames.filter fun f => f.content.classCode = 7) = s.link.frames.filter fun f => f.content.classCode = 7) ∧
  ∀ (s : State) (st : Station) (num : BitVec 16) (id : Identity) (start count : Nat) (rest : List WalkRequest),
    s.walks = ⟨.find st num, id, start, count⟩ :: rest → s.link.roomFor false = false →
    exec (.findWalkComplete .asItStands) s =
      .next { s with walks := rest, findWalk := ⟨0, none⟩, out := []
                     link := { s.link with responsesDropped := min 65535 (s.link.responsesDropped + 1) } }

/-- Tier 1. A SEARCH request (R119, R120, R122) for a RUNNING tree with no search, on which no entry is silenced: the context is RUNNING with cause REQUEST and the frozen candidate list, BASELINE is set up
as probe 1 in SETTLING with no target, the last outcome stays, nothing is queued, and the answer carries n. A STOPPED tree is refused STATE and a searched one BUSY.
The frozen list (`candidatesOf`) holds exactly the entries in service on the tree, each with its identity, by score, highest first, and equal scores by increasing home index.
`searchSinceMap` is the model's own mark (assumption 6). -/
def Obligations.SearchStarts : Prop :=
  ∀ (s : State) (c : Config) (rx : Rx) (num : BitVec 16) (args : List Byte) (t : Tree), s.asked rx c 0 → s.link.roomFor false = true →
    treeArg args = some t →
    ((s.tree t).running = true → (s.tree t).search.running = false → (∀ h, (s.home h).tree = some t → (s.home h).silence = .none) →
      exec (.search rx num args) s =
        .next { s with
          trees := s.trees.set t.idx { s.tree t with
            searchSinceMap := true
            search := { running := true, cause := .request, candidates := s.candidatesOf t, step := .baseline, first := 0, count := 0,
                        trail := [], probe := 1, phase := .settling, settle := 0, observations := 0, dark := 0, target := [], found := [],
                        foundCount := 0, last := (s.tree t).search.last } }
          link := s.link.answered rx num 10 .ok (toBE 1 (s.candidatesOf t).length)
          out := [] }) ∧
    ((s.tree t).running = false →
      exec (.search rx num args) s =
        .next { s with link := s.link.received.refused.take (responseFrame rx.src num 10 .state []), out := [] }) ∧
    ((s.tree t).running = true → (s.tree t).search.running = true →
      exec (.search rx num args) s =
        .next { s with link := s.link.received.refused.take (responseFrame rx.src num 10 .busy []), out := [] }) ∧
    (∀ (h : HomeIndex) (id : Identity), ⟨h, id⟩ ∈ s.candidatesOf t ↔
      inService (s.home h).state = true ∧ (s.home h).tree = some t ∧ (s.home h).identity = some id) ∧
    (s.candidatesOf t).Pairwise fun a b =>
      (s.home b.home).score < (s.home a.home).score ∨ ((s.home a.home).score = (s.home b.home).score ∧ a.home < b.home)

/-- An entry after the end of a search on a tree (R134, 1): its silence ended, every other field as it stood. -/
def Sys2Proof.endedHome (x : Home) (t : Tree) : Home := if x.tree = some t ∧ x.silence = .search then { x with silence := .none } else x

/-- The tags of the tree's silenced entries, in order of home index. -/
def Sys2Proof.silencedTags (s : State) (t : Tree) : List Nat :=
  (homeIndexes.filter fun h => (s.home h).tree = some t ∧ (s.home h).silence = .search).filterMap fun h => (s.home h).tag

/-- The tree after the end of its search (R134): no message is awaited, a SILENCE off for each silenced entry has been queued, in order of home index (the model's choice, assumption 7), the context is IDLE with its last
outcome (its cause, step and phase at the model's values, assumption 4), the dark counter is 0 and the hold-off set. -/
def Sys2Proof.endedTree (s : State) (t : Tree) (outcome : SearchOutcome) (reason : SearchReason) (holdOff : Nat) : TreeLine :=
  let c := (s.tree t).search
  let x := { s.tree t with queue := (s.tree t).queue.map fun m => { m with awaited := false }
                           held := (s.tree t).held.map fun m => { m with awaited := false } }
  { (silencedTags s t).foldl (fun (y : TreeLine) tag => y.offer ⟨.silence false, tag, 0, false⟩) x with
    darkCounter := 0
    holdOff := holdOff
    search := { running := false, cause := .dark, candidates := [], step := .baseline, first := 0, count := 0, trail := [], probe := 0
                phase := .settling, settle := 0, observations := 0, dark := 0, target := [], found := [], foundCount := 0
                last := some ⟨outcome, reason, c.cause, c.probe, c.candidates.length, c.foundCount⟩ } }

/-- EVENT SEARCH_END (R134, 4): the outcome and each found index with its recorded identity. -/
def Sys2Proof.searchEndFrame (s : State) (t : Tree) (outcome : SearchOutcome) (reason : SearchReason) : Frame :=
  let c := (s.tree t).search
  ⟨31, .event (.searchEnd t ⟨outcome, reason, c.cause, c.probe, c.candidates.length, c.foundCount⟩
    (c.found.filterMap fun h => c.candidates.find? fun k => decide (k.home = h))), false⟩

/-- A tree stopped (R41): its maps empty, no quiet window owed (assumption 6), and its messages sent once unsent again. -/
def Sys2Proof.stoppedTree (x : TreeLine) : TreeLine :=
  { x with running := false, active := ⟨[], none, false⟩, shadow := ⟨[], none, false⟩, lateQuiet := none
           queue := x.queue.map fun m => if m.count = 1 then { m with count := 0 } else m }

/-- An entry of a tree that is stopped (R41, R62): a MEASURING one is ANNOUNCING with no sample and no attempt used. -/
def Sys2Proof.stoppedHome (x : Home) (t : Tree) : Home :=
  if x.state = .measuring ∧ x.tree = some t then { x with samples := [], attempts := 0, phase := some .announcing } else x

/-- Tier 2. TIME, ABORT-SEARCH and STOP-TREE acted on. TIME with a valid moment (R139, R140, R142, R144, R155): the clock holds the moment, the second phase restarts, the band is evaluated, the next close moment is computed from the new
time, and a set that differs from the clock by more than a second is a step, counted, recorded with its direction and size, and marked in every metered open bank. That an accepted TIME clears a second tick already due is the model's choice
(assumption 17), and the closes fired are its own mark (assumption 6). ABORT-SEARCH on a searched tree (R132, R134) ends the search ABORTED with reason REQUEST, queues SEARCH_END to all and answers the probes set up and the found count.
STOP-TREE of a RUNNING tree (R41, R62) stops it with both maps empty, its once-sent messages unsent again and its MEASURING homes ANNOUNCING with no samples and no attempt used, and is answered OK; a search running on it ends ABORTED with reason
STOP in the same step (R133); a STOPPED tree is refused STATE. -/
def Obligations.TimeAbortAndStop : Prop :=
  (∀ (s : State) (c : Config) (rx : Rx) (num : BitVec 16) (args : List Byte) (m : Moment) (wd : Nat), s.asked rx c 0 →
    timeArgs args = some (m, wd) → s.link.roomFor false = true →
    let step : Bool := s.cal.set && (decide (s.cal.now.number + 1 < m.number) || decide (m.number + 1 < s.cal.now.number))
    ∃ s' : State, exec (.time rx num args) s = .next s' ∧
      s' = { s with cal := s'.cal, homes := s'.homes, clock := { s.clock with epochInSecond := 0, secondDue := false },
                    link := s.link.answered rx num 2 .ok (s'.cal.timeBody step), out := [] } ∧
      s'.cal.set = true ∧ s'.cal.now = m ∧ s'.cal.weekday = wd ∧ s'.cal.band = bandAt s.cal.table wd m.time ∧
      s'.cal.nextClose = some (closeAfter m s.cal.closeTime) ∧ s'.cal.table = s.cal.table ∧ s'.cal.waiting = s.cal.waiting ∧
      s'.cal.closeTime = s.cal.closeTime ∧
      s'.cal.stepCount = (if step then min 65535 (s.cal.stepCount + 1) else s.cal.stepCount) ∧
      s'.cal.lastStep = (if step then
          some (if s.cal.now.number < m.number then .ahead (m.number - s.cal.now.number) else .back (s.cal.now.number - m.number))
        else s.cal.lastStep) ∧
      s'.cal.closesFired = (match s.cal.nextClose with
        | some close => if closeReached m close then s.cal.closesFired ++ [m] else s.cal.closesFired
        | none => s.cal.closesFired) ∧
      ∀ h, s'.home h = if step && stepMarked (s.home h).state then (s.home h).onOpen fun b => { b with clockStep := true } else s.home h) ∧
  ∀ (s : State) (c : Config) (rx : Rx) (num : BitVec 16) (args : List Byte) (t : Tree), s.asked rx c 0 → treeArg args = some t →
    ((s.tree t).search.running = true → s.link.total ≤ 10 → s.link.routine < 8 →
      ∃ s' : State, exec (.abortSearch rx num args) s = .next s' ∧ (∀ h, s'.home h = endedHome (s.home h) t) ∧
        s' = { s with
          homes := s'.homes
          trees := s.trees.set t.idx (endedTree s t .aborted .request 100)
          link := (s.link.received.take (searchEndFrame s t .aborted .request)).take
            (responseFrame rx.src num 11 .ok (toBE 1 (s.tree t).search.probe ++ toBE 1 (s.tree t).search.foundCount))
          out := [] }) ∧
    ((s.tree t).running = true → (s.tree t).search.running = false → s.link.roomFor false = true →
      ∃ s' : State, exec (.stopTree rx num args) s = .next s' ∧ (∀ h, s'.home h = stoppedHome (s.home h) t) ∧
        s' = { s with homes := s'.homes, trees := s.trees.set t.idx (stoppedTree (s.tree t)), link := s.link.answered rx num 12 .ok []
                      out := [] }) ∧
    ((s.tree t).running = true → (s.tree t).search.running = true → s.link.total ≤ 10 → s.link.routine < 8 →
      ∃ s' : State, exec (.stopTree rx num args) s = .next s' ∧ (∀ h, s'.home h = stoppedHome (endedHome (s.home h) t) t) ∧
        s' = { s with
          homes := s'.homes
          trees := s.trees.set t.idx (stoppedTree (endedTree s t .aborted .stop 100))
          link := (s.link.received.take (searchEndFrame s t .aborted .stop)).take (responseFrame rx.src num 12 .ok [])
          out := [] }) ∧
    ((s.tree t).running = false → s.link.roomFor false = true →
      exec (.stopTree rx num args) s =
        .next { s with link := s.link.received.refused.take (responseFrame rx.src num 12 .state []), out := [] })

/-- A tree whose quiet window of the round has been measured and observed by its probe (R34, R124). -/
def Sys2Proof.observed (x : TreeLine) (dark : Bool) : TreeLine :=
  { x with quietTaken := true
           search := { x.search with observations := x.search.observations + 1, dark := x.search.dark + if dark then 1 else 0 } }

/-- Tier 2. Verdicts and searches started by DARK. The third observation of an OBSERVING probe gives the verdict, lit when 2 or 3 observations were DARK (R124), and the step's rule acts on it. A clear BASELINE ends the search CLEAR, a clear RECHECK FOUND, and FINAL ends it UNRESOLVED, with reason
FOREIGN when lit and CANDIDATES when clear (R125, R128, R129). Otherwise the next probe is set up, `State.setupProbe` being R122's set-up: DESCEND or CONFIRM on the whole list after a lit BASELINE, on the half silenced after a clear DESCEND, on the rest with the half
on the trail after a lit one (R126), on the top of the trail after a lit CONFIRM or RECHECK, FINAL when the trail is empty (R127, R128; that the current range then stands is assumption 27). A clear CONFIRM isolates a present candidate, records it and goes on to RECHECK (R109, R127), with the record alone for
one isolated meanwhile. After the 40th probe the search ends with reason LIMIT instead, a clear CONFIRM isolating and recording its candidate first (R131). Set-up raises the probe number, fixes the target set of the step
(R121) and commands each present candidate by it, in position order, its SILENCE offered to the control queue (R122; a candidate list holds a home once, SearchStarts, and a home in service holds a tag). DARK that leaves the dark counter at 16 or more, with no hold-off, starts a search of a RUNNING tree (R114).
What has been received of the round and `searchSinceMap` are the model's own marks (assumption 6); that the soak countdown and attempts used of an isolated home stand as they stood is the model's choice (assumption 40). -/
def Obligations.SearchVerdicts : Prop :=
  (∀ (s : State) (c : Config) (t : Tree) (level : Byte), s.config = some c → (s.tree t).active.quiet = true → (s.tree t).quietTaken = false →
    (s.tree t).search.running = true → (s.tree t).search.phase = .observing → (s.tree t).search.observations = 2 →
    let dark : Bool := decide (c.dark ≤ level.toNat)
    let lit : Bool := decide (2 ≤ (s.tree t).search.dark + if dark then 1 else 0)
    let k := (s.tree t).search
    let seen : State := { s with trees := s.trees.set t.idx (observed (s.tree t) dark), out := [] }
    let ends (outcome : SearchOutcome) (reason : SearchReason) (holdOff : Nat) : Prop :=
      ∃ s' : State, exec (.quietWindowMeasured t level) s = .next s' ∧ (∀ h, s'.home h = endedHome (s.home h) t) ∧
        s' = { s with
          homes := s'.homes
          trees := s.trees.set t.idx { endedTree s t outcome reason holdOff with quietTaken := true }
          link := s.link.take (searchEndFrame s t outcome reason)
          out := [] }
    let goes (trail : List TrailEntry) (step : SearchStep) (first count : Nat) : Prop :=
      exec (.quietWindowMeasured t level) s = .next
        (({ seen with trees := s.trees.set t.idx { observed (s.tree t) dark with
            search := { (observed (s.tree t) dark).search with trail := trail } } } : State).setupProbe t step first count)
    let examines (trail : List TrailEntry) (first count : Nat) : Prop :=
      (2 ≤ count → goes trail .descend first count) ∧ (count < 2 → goes trail .confirm first count)
    let half := (k.count + 1) / 2
    (s.link.total < 12 →
      (k.step = .baseline → lit = false → ends .clear .none 100) ∧
      (k.step = .recheck → lit = false → ends .found .none 100) ∧
      (k.step = .final → lit = false → ends .unresolved .candidates 1000) ∧
      (k.step = .final → lit = true → ends .unresolved .foreign 1000) ∧
      (40 ≤ k.probe → (k.step = .descend ∨ (lit = true ∧ (k.step = .baseline ∨ k.step = .confirm ∨ k.step = .recheck))) →
        ends .unresolved .limit 1000) ∧
      (40 ≤ k.probe → k.step = .confirm → lit = false →
        let recorded (h : HomeIndex) : SearchContext := { (observed (s.tree t) dark).search with
          foundCount := min 62 (k.foundCount + 1), found := if k.found.length < 6 then k.found ++ [h] else k.found }
        let limit (s₁ : State) : Prop :=
          ∃ s' : State, exec (.quietWindowMeasured t level) s = .next s' ∧ (∀ h, s'.home h = endedHome (s₁.home h) t) ∧
            s' = { s₁ with homes := s'.homes, trees := s.trees.set t.idx (endedTree s₁ t .unresolved .limit 1000)
                           link := s₁.link.take (searchEndFrame s₁ t .unresolved .limit) }
        (∀ (x : Candidate) (tag : Nat), k.candidates[k.first]? = some x → s.present t x = true → (s.home x.home).tag = some tag →
          s.link.total ≤ 10 → (s.tree t).queue.length < 16 →
          limit { seen with
            homes := s.homes.set x.home { (s.home x.home).pendingToDiscarded with
              state := .isolated, report := 0, since := 0, deferred := false, missed := 0, lostTimer := 0, refresh := some 0
              refreshDue := false }
            trees := s.trees.set t.idx { observed (s.tree t) dark with
              isolations := min 65535 ((s.tree t).isolations + 1)
              queue := insertCtl ⟨.laserOff, tag, 0, true⟩ (s.tree t).queue
              search := recorded x.home }
            link := s.link.take ⟨31, .event (.isolated x.home (s.home x.home).identity (s.home x.home).account (s.home x.home).tree
              (s.home x.home).tag (s.home x.home).score .search none), false⟩ }) ∧
        (∀ x : Candidate, k.candidates[k.first]? = some x → (s.home x.home).state = .isolated → (s.home x.home).identity = some x.identity →
          limit { seen with trees := s.trees.set t.idx { observed (s.tree t) dark with search := recorded x.home } }) ∧
        ((∀ x : Candidate, k.candidates[k.first]? = some x →
            s.present t x = false ∧ ((s.home x.home).state ≠ .isolated ∨ (s.home x.home).identity ≠ some x.identity)) →
          limit seen))) ∧
    (k.probe < 40 →
      (k.step = .baseline → lit = true →
        (k.candidates.length = 0 → goes k.trail .final 0 0) ∧ (1 ≤ k.candidates.length → examines k.trail 0 k.candidates.length)) ∧
      (k.step = .descend → lit = false → examines k.trail k.first half) ∧
      (k.step = .descend → lit = true → examines (⟨k.first, half, k.probe⟩ :: k.trail) (k.first + half) (k.count - half)) ∧
      (lit = true → (k.step = .confirm ∨ k.step = .recheck) →
        (k.trail = [] → goes [] .final k.first k.count) ∧ ∀ e rest, k.trail = e :: rest → examines rest e.first e.count) ∧
      (k.step = .confirm → lit = false →
        ∀ x : Candidate, k.candidates[k.first]? = some x →
          let recorded : SearchContext := { (observed (s.tree t) dark).search with
            foundCount := min 62 (k.foundCount + 1), found := if k.found.length < 6 then k.found ++ [x.home] else k.found }
          (∀ tag : Nat, s.present t x = true → (s.home x.home).tag = some tag → s.link.total < 12 → (s.tree t).queue.length < 16 →
            exec (.quietWindowMeasured t level) s = .next (({ seen with
              homes := s.homes.set x.home { (s.home x.home).pendingToDiscarded with
                state := .isolated, report := 0, since := 0, deferred := false, missed := 0, lostTimer := 0, refresh := some 0
                refreshDue := false }
              trees := s.trees.set t.idx { observed (s.tree t) dark with
                isolations := min 65535 ((s.tree t).isolations + 1)
                queue := insertCtl ⟨.laserOff, tag, 0, true⟩ (s.tree t).queue
                search := recorded }
              link := s.link.take ⟨31, .event (.isolated x.home (s.home x.home).identity (s.home x.home).account (s.home x.home).tree
                (s.home x.home).tag (s.home x.home).score .search none), false⟩ } : State).setupProbe t .recheck k.first k.count)) ∧
          ((s.home x.home).state = .isolated → (s.home x.home).identity = some x.identity →
            exec (.quietWindowMeasured t level) s = .next
              (({ seen with trees := s.trees.set t.idx { observed (s.tree t) dark with search := recorded } } : State).setupProbe t .recheck
                k.first k.count)) ∧
          (s.present t x = false → ((s.home x.home).state ≠ .isolated ∨ (s.home x.home).identity ≠ some x.identity) →
            goes k.trail .recheck k.first k.count)))) ∧
  (∀ (s : State) (t : Tree) (target : List Nat) (x : Candidate) (place tag : Nat), (s.home x.home).tag = some tag →
    (s.present t x = false → s.commandCandidate t target (x, place) = s) ∧
    (s.present t x = true →
      (place ∈ target → (s.home x.home).silence = .none →
        s.commandCandidate t target (x, place) = { s with
          homes := s.homes.set x.home { s.home x.home with silence := .search }
          trees := s.trees.set t.idx ((s.tree t).offer ⟨.silence true, tag, 0, true⟩) }) ∧
      (place ∉ target → (s.home x.home).silence = .search →
        s.commandCandidate t target (x, place) = { s with
          homes := s.homes.set x.home { s.home x.home with silence := .none }
          trees := s.trees.set t.idx ((s.tree t).offer ⟨.silence false, tag, 0, true⟩) }) ∧
      ((place ∈ target ↔ (s.home x.home).silence = .search) → s.commandCandidate t target (x, place) = s))) ∧
  (∀ (s : State) (t : Tree) (step : SearchStep) (first count : Nat),
    let k := (s.tree t).search
    let trail : List Nat := k.trail.flatMap fun e => List.range' e.first e.count
    let target : List Nat :=
      match step with
      | .baseline | .recheck => []
      | .descend => List.range' first ((count + 1) / 2) ++ trail
      | .confirm => first :: trail
      | .final => List.range k.candidates.length
    let changed : List (Candidate × Nat) := k.candidates.zipIdx.filter fun p =>
      inService (s.home p.1.home).state = true ∧ (s.home p.1.home).tree = some t ∧ (s.home p.1.home).identity = some p.1.identity ∧
        (s.home p.1.home).tag.isSome = true ∧ (p.2 ∈ target ↔ (s.home p.1.home).silence = .none)
    (k.candidates.map Candidate.home).Nodup →
    ∃ s' : State, s.setupProbe t step first count = s' ∧
      s'.tree t = (changed.map fun p => (⟨.silence (decide (p.2 ∈ target)), (s.home p.1.home).tag.getD 0, 0, true⟩ : CtlMsg)).foldl TreeLine.offer
        { s.tree t with search := { k with
          step := step, first := first, count := count, probe := k.probe + 1, phase := .settling, settle := 0, observations := 0, dark := 0
          target := target } } ∧
      (∀ p ∈ changed, s'.home p.1.home = { s.home p.1.home with silence := if p.2 ∈ target then .search else .none }) ∧
      (∀ h, (∀ p ∈ changed, p.1.home ≠ h) → s'.home h = s.home h) ∧ (∀ u, u ≠ t → s'.tree u = s.tree u) ∧
      s' = { s with homes := s'.homes, trees := s'.trees }) ∧
  ∀ (s : State) (c : Config) (t : Tree) (level : Byte), s.config = some c → (s.tree t).active.quiet = true → (s.tree t).quietTaken = false →
    (s.tree t).running = true → (s.tree t).search.running = false → c.dark ≤ level.toNat → 12 ≤ (s.tree t).darkCounter → (s.tree t).holdOff = 0 →
    (∀ h, (s.home h).tree = some t → (s.home h).silence = .none) →
    exec (.quietWindowMeasured t level) s = .next { s with
      trees := s.trees.set t.idx { s.tree t with
        quietTaken := true
        darks := min 65535 ((s.tree t).darks + 1)
        darkCounter := min 255 ((s.tree t).darkCounter + 4)
        darkSearches := min 65535 ((s.tree t).darkSearches + 1)
        searchSinceMap := true
        search := { running := true, cause := .dark, candidates := s.candidatesOf t, step := .baseline, first := 0, count := 0, trail := []
                    probe := 1, phase := .settling, settle := 0, observations := 0, dark := 0, target := [], found := [], foundCount := 0
                    last := (s.tree t).search.last } }
      out := [] }

/-- Tier 2. START-TREE of a STOPPED tree in the enable mask (R42, R43, R111): the tree runs with discovery due; its homes in service are MEASURING in ANNOUNCING with their tag, EQ and banks; every MEASURING home with a
tag has a TAG-ASSIGN for it queued or kept; every ISOLATED home has its refresh count at 0 and a LASER-OFF queued or kept. No other entry and no other tree changes. A RUNNING tree and a tree
outside the mask are refused STATE. -/
def Obligations.TreeStarted : Prop :=
  ∀ (s : State) (c : Config) (rx : Rx) (num : BitVec 16) (args : List Byte) (t : Tree), s.asked rx c 0 → s.link.roomFor false = true →
    treeArg args = some t →
    ((s.tree t).running = false → c.enable.get t.idx = true →
      ∃ s' : State, exec (.startTree rx num args) s = .next s' ∧
        s' = { s with homes := s'.homes, trees := s'.trees, link := s.link.answered rx num 13 .ok [], out := [] } ∧
        (s'.tree t).running = true ∧ (s'.tree t).discovery = c.discovery ∧ (∀ u, u ≠ t → s'.tree u = s.tree u) ∧
        s'.tree t = { s.tree t with
          running := true, discovery := c.discovery, queue := (s'.tree t).queue, held := (s'.tree t).held
          lostMessages := (s'.tree t).lostMessages, tags := (s'.tree t).tags } ∧
        (∀ h, inService (s.home h).state = true → (s.home h).tree = some t →
          s'.home h = { s.home h with state := .measuring, phase := some .announcing, attempts := 0, samples := [], report := 0, since := 0,
                                      missed := 0, deferred := false, soak := 0, lostTimer := 0, claim := none, refresh := none,
                                      refreshDue := false }) ∧
        (∀ h, (s.home h).state = .isolated → (s.home h).tree = some t →
          s'.home h = { s.home h with refresh := some 0, refreshDue := false } ∧
            ∀ tag, (s.home h).tag = some tag → ∃ m ∈ (s'.tree t).queue ++ (s'.tree t).held, m.kind = .laserOff ∧ m.tag = tag) ∧
        (∀ h, (s.home h).tree ≠ some t ∨ (inService (s.home h).state = false ∧ (s.home h).state ≠ .isolated) → s'.home h = s.home h) ∧
        ∀ (h : HomeIndex) (id : Identity) (tag : Nat), (s'.home h).state = .measuring → (s'.home h).tree = some t →
          (s'.home h).identity = some id → (s'.home h).tag = some tag →
          ∃ m ∈ (s'.tree t).queue ++ (s'.tree t).held, (∃ id', m.kind = .tagAssign id') ∧ m.tag = tag) ∧
    ((s.tree t).running = true ∨ c.enable.get t.idx = false →
      exec (.startTree rx num args) s =
        .next { s with link := s.link.received.refused.take (responseFrame rx.src num 13 .state []), out := [] })

/-- Tier 1. QUERY-HOME, READ-LISTS and QUERY-STATION (R14, R54, R174) change nothing but the link controller, which takes the answer: the home summary, ABSENT for a FREE entry, MOVED with its station for a FORWARD
entry; the list's entries from the start place; the part of the station's state. -/
def Obligations.QueriesAnswered : Prop :=
  ∀ (s : State) (c : Config) (rx : Rx) (num : BitVec 16) (args : List Byte), s.asked rx c 1 → s.link.roomFor false = true →
    (∀ h, homeArg args = some h →
      exec (.queryHome rx num args) s =
        match (s.home h).state with
        | .free => .next { s with link := s.link.answered rx num 14 .absent [], out := [] }
        | .forward => .next { s with link := s.link.answered rx num 14 .moved (optStation (s.home h).forwardTo), out := [] }
        | .claiming | .measuring | .soaking | .online | .lost | .isolated | .closing =>
          .next { s with link := s.link.answered rx num 14 .ok (s.home h).summary, out := [] }) ∧
    (∀ list start, readListsArgs args = some (list, start) →
      exec (.readLists rx num args) s =
        .next { s with link := s.link.answered rx num 16 .ok (listBody s.enrol list start), out := [] }) ∧
    (∀ part index, queryStationArgs args = some (part, index) →
      exec (.queryStation rx num args) s =
        .next { s with link := s.link.answered rx num 17 .ok ({ s with link := s.link.received, out := [] }.part c part index), out := [] })

/-- Tier 1. FIND and FIND_WALK_COMPLETE (R20, R21, R22). A FIND in range joins the search queue while it holds fewer than 6, and is refused BUSY at 6. Its walk, having examined n entries of its range without a match, judges the entries it comes to as
they stand: the first that holds the identity is kept as it was examined, and a match found before answers whatever has become of its entry. When the walk completes the answer goes to its requester under its request number: OK with the match, or
NOT_FOUND with the next index. How far a walk has come is the model's own field (assumption 10). -/
def Obligations.FindWalksAndAnswers : Prop :=
  (∀ (s : State) (c : Config) (rx : Rx) (num : BitVec 16) (args : List Byte) (id : Identity) (start count : Nat), s.asked rx c 1 →
    findArgs args = some (id, start, count) →
    (s.walks.length < 6 → exec (.find rx num args) s =
      .next { s with walks := s.walks ++ [⟨.find rx.src num, id, start, count⟩], link := s.link.received, out := [] }) ∧
    (6 ≤ s.walks.length → s.link.roomFor false = true → exec (.find rx num args) s =
      .next { s with link := s.link.received.refused.take (responseFrame rx.src num 15 .busy []), out := [] })) ∧
  ∀ (s : State) (st : Station) (num : BitVec 16) (id : Identity) (start count n : Nat) (rest : List WalkRequest),
    s.walks = ⟨.find st num, id, start, count⟩ :: rest →
    let answered (status : Status) (body : List Byte) : State :=
      { s with walks := rest, findWalk := ⟨0, none⟩, link := s.link.take (responseFrame st num 15 status body), out := [] }
    (∀ h : HomeIndex, s.findWalk = ⟨n, none⟩ → start + n ≤ h.val → (s.home h).state ≠ .free → (s.home h).identity = some id →
      (∀ k : HomeIndex, k < h → start + n ≤ k.val → (s.home k).state ≠ .free → (s.home k).identity ≠ some id) →
      (h.val < start + count → s.link.roomFor false = true →
        exec (.findWalkComplete .asItStands) s =
          .next (answered .ok
            (toBE 1 h.val ++ toBE 1 (stateCode (s.home h).state) ++ optTree (s.home h).tree ++
              optStation (if (s.home h).state = .forward then (s.home h).forwardTo else none)))) ∧
      (∀ m, m ≤ count → h.val < start + m →
        exec (.findWalkComplete (.examinedTo m)) s =
          .next { s with findWalk := ⟨m, some ⟨h, (s.home h).state, (s.home h).tree, (s.home h).forwardTo⟩⟩, out := [] })) ∧
    (∀ m, s.findWalk = ⟨n, none⟩ → n ≤ m → m ≤ count →
      (∀ k : HomeIndex, start + n ≤ k.val → k.val < start + m → (s.home k).state ≠ .free → (s.home k).identity ≠ some id) →
      exec (.findWalkComplete (.examinedTo m)) s = .next { s with findWalk := ⟨m, none⟩, out := [] } ∧
      (m = count → s.link.roomFor false = true →
        exec (.findWalkComplete .asItStands) s = .next (answered .notFound (toBE 1 (start + count))))) ∧
    (∀ m : FindMatch, s.findWalk = ⟨n, some m⟩ →
      (s.link.roomFor false = true →
        exec (.findWalkComplete .asItStands) s =
          .next (answered .ok
            (toBE 1 m.home.val ++ toBE 1 (stateCode m.state) ++ optTree m.tree ++ optStation (if m.state = .forward then m.forwardTo else none)))) ∧
      ∀ k, exec (.findWalkComplete (.examinedTo k)) s = .next { s with out := [] })

/-- Tier 1. COLLECT and RELEASE-RECORD (R161, R162, R173). COLLECT answers the head record in two parts, with the depth of the queue, and leaves it; where one place is left, both parts are dropped and counted once; RELEASE-RECORD with the head's number removes it, answers how many are left and
sets a BLOCKED walk going; another number is refused NOT_HEAD with the head's; an empty queue refuses both EMPTY. -/
def Obligations.HoldQueueRequests : Prop :=
  ∀ (s : State) (c : Config) (rx : Rx) (num : BitVec 16) (args : List Byte), s.asked rx c 1 → s.link.roomFor false = true →
    (∀ r rest, s.meter.hold = r :: rest → s.link.total ≤ 10 → s.link.routine ≤ 6 →
      exec (.collect rx num args) s =
        .next { s with out := []
                       link := (s.link.received.take ⟨toStation rx.src, .response num 18 .ok 1
                         (toBE 1 s.meter.hold.length ++ r.bytes.take 64), false⟩).take
                           ⟨toStation rx.src, .response num 18 .ok 2 (r.bytes.drop 64), false⟩ }) ∧
    (s.meter.hold ≠ [] → 11 ≤ s.link.total ∨ 7 ≤ s.link.routine →
      exec (.collect rx num args) s =
        .next { s with link := { s.link.received with responsesDropped := min 65535 (s.link.responsesDropped + 1) }, out := [] }) ∧
    (s.meter.hold = [] →
      exec (.collect rx num args) s =
        .next { s with link := s.link.received.refused.take (responseFrame rx.src num 18 .empty []), out := [] }) ∧
    (∀ n, recordArg args = some n → s.meter.hold = [] →
      exec (.releaseRecord rx num args) s =
        .next { s with link := s.link.received.refused.take (responseFrame rx.src num 19 .empty []), out := [] }) ∧
    (∀ r rest n, recordArg args = some n → s.meter.hold = r :: rest → r.number ≠ n →
      exec (.releaseRecord rx num args) s =
        .next { s with link := s.link.received.refused.take (responseFrame rx.src num 19 .notHead (toBE 2 r.number.toNat)), out := [] }) ∧
    (∀ r rest n, recordArg args = some n → s.meter.hold = r :: rest → r.number = n →
      exec (.releaseRecord rx num args) s =
        .next { s with meter := { s.meter with hold := rest }, link := s.link.answered rx num 19 .ok (toBE 1 rest.length), out := []
                       emission := if s.emission.state = .blocked then { s.emission with state := .walking } else s.emission })

/-! ## Peer frames and walks -/

/-- Tier 1. A CLAIM heard in RUN from a station of rank 0 to 2 (R59, R20): its identity leaves the admission list and a claim check joins the search queue; with 6 walks waiting an OBJECT WAIT naming the identity and
the claim index goes to the claimant instead, or is dropped and counted with 12 frames in the transmit queue (R168). From rank 3 it is discarded and counted (R171). That a CLAIM addressed to this station alone is taken is the model's reading (assumption 14). -/
def Obligations.ClaimHeard : Prop :=
  ∀ (s : State) (c : Config) (rx : Rx) (p : List Byte) (id : Identity) (index : Byte), s.config = some c → s.hears rx = true →
    claimFields p = some (id, index) →
    ((c.ranks[rx.src]).val ≤ 2 → s.walks.length < 6 →
      exec (.claim rx p) s =
        .next { s with enrol := { s.enrol with admission := s.enrol.admission.filter fun a => a.identity ≠ id }
                       walks := s.walks ++ [⟨.claim rx.src index, id, 0, 128⟩]
                       link := s.link.received
                       out := [] }) ∧
    ((c.ranks[rx.src]).val ≤ 2 → 6 ≤ s.walks.length → s.link.total < 12 →
      exec (.claim rx p) s =
        .next { s with enrol := { s.enrol with admission := s.enrol.admission.filter fun a => a.identity ≠ id }
                       link := s.link.received.take ⟨toStation rx.src, .object id index .wait, false⟩
                       out := [] }) ∧
    ((c.ranks[rx.src]).val ≤ 2 → 6 ≤ s.walks.length → 12 ≤ s.link.total →
      exec (.claim rx p) s =
        .next { s with enrol := { s.enrol with admission := s.enrol.admission.filter fun a => a.identity ≠ id }
                       link := { s.link.received with urgentDrops := min 65535 (s.link.urgentDrops + 1) }
                       out := [] }) ∧
    ((c.ranks[rx.src]).val = 3 →
      exec (.claim rx p) s =
        .next { s with link := { s.link.received with rankDiscards := min 65535 (s.link.rankDiscards + 1) }, out := [] })

/-- Tier 2. Claim frames at the claimant, and identity conflicts. OBJECT HELD for a CLAIMING entry (R57, R52) abandons the claim: its CLAIM is withdrawn, the entry is FREE with its g out of the pool, the identity is barred as newest, the
oldest of 8 leaving, and EVENT IDENTITY_CONFLICT goes out with cause OBJECTED. OBJECT WAIT raises the wait count, and the CLAIM is queued again, or kept while there is no room, the hold stopped at 100 (a CLAIM before it may still be unsent, assumption 32); while a CLAIM queued again is still to be reported sent
the count rises alone, and the fifth WAIT abandons the claim without bar or event. A late OBJECT HELD (R58) sends the event with cause LATE and charges a MEASURING home, or one in service that stays below 192, IDENTITY evidence (R103); a late OBJECT
WAIT does nothing; a late RELEASE sets an absent moved-from. A frame that names no entry with its identity is counted as unmatched (R58; for a claim index above 127 the model's choice, assumption 33). A capture on one tree of an identity that another tree
holds (R50) bars it and sends the event with cause LOCAL; a home in MEASURING, SOAKING or ONLINE is charged IDENTITY, which isolates one in service that reaches 192, and a claim is abandoned without evidence. That the event comes first is the model's choice (assumption 7). With 12
frames in the transmit queue the event of a late OBJECT is dropped and counted twice, as an urgent frame and as an EVENT (R168). The frames may be addressed to this station or to all (R170, R171): that an OBJECT sent to all stations is taken, for a claim, late or unmatched, and a RELEASE
addressed to this station alone, is the model's reading (assumption 14), and that the soak countdown and attempts used of an isolated home stand as they stood its choice (assumption 40). -/
def Obligations.ObjectsAtTheClaimant : Prop :=
  (∀ (s : State) (c : Config) (rx : Rx) (p : List Byte) (id : Identity) (index : Byte) (h : HomeIndex) (t : Tree) (k : ClaimContext),
    s.config = some c → s.hears rx = true → (c.ranks[rx.src]).val ≤ 2 →
    let abandoned : State := { s with
      homes := s.homes.set h Home.free
      trees := s.trees.set t.idx { s.tree t with pool := (s.tree t).pool - (s.home h).g }
      forwardList := s.forwardList.filter fun i => i ≠ h
      link := s.link.received.withdrawClaim h
      out := [] }
    (objectFields p = some (id, index, 1) → index.toNat = h.val → (s.home h).state = .claiming → (s.home h).identity = some id →
      (s.home h).tree = some t → (s.home h).tag = none → s.link.total < 12 →
      exec (.object rx p) s =
        .next { abandoned with
          enrol := { s.enrol with barred :=
            (if 8 ≤ (s.enrol.barred.filter fun i => i ≠ id).length then (s.enrol.barred.filter fun i => i ≠ id).tail
              else s.enrol.barred.filter fun i => i ≠ id) ++ [id] }
          link := abandoned.link.take ⟨31, .event (.identityConflict id h (some t) (.objected rx.src)), false⟩ } ∧
      ∀ f ∈ (abandoned.link.take ⟨31, .event (.identityConflict id h (some t) (.objected rx.src)), false⟩).waiting, f.claims h = false) ∧
    (objectFields p = some (id, index, 2) → index.toNat = h.val → (s.home h).state = .claiming → (s.home h).identity = some id →
      (s.home h).tree = some t → (s.home h).claim = some k →
      (k.again = false → k.waits < 4 → s.link.roomFor false = true →
        exec (.object rx p) s =
          .next { s with homes := s.homes.set h { s.home h with claim := some ⟨k.unsent + 1, 100, k.waits + 1, k.held, true⟩ }
                         link := s.link.received.take ⟨31, .claim id t h, false⟩
                         out := [] }) ∧
      (k.again = false → k.waits < 4 → s.link.roomFor false = false →
        exec (.object rx p) s =
          .next { s with homes := s.homes.set h { s.home h with claim := some ⟨k.unsent + 1, 100, k.waits + 1, k.held + 1, true⟩ }
                         link := s.link.received
                         out := [] }) ∧
      (k.again = true → k.waits < 4 →
        exec (.object rx p) s =
          .next { s with homes := s.homes.set h { s.home h with claim := some { k with waits := k.waits + 1 } }
                         link := s.link.received
                         out := [] }) ∧
      (4 ≤ k.waits → (s.home h).tag = none → exec (.object rx p) s = .next abandoned)) ∧
    (∀ kind, objectFields p = some (id, index, kind) →
      (∀ i : HomeIndex, index.toNat = i.val → (s.home i).state = .free ∨ (s.home i).identity ≠ some id) →
      exec (.object rx p) s =
        .next { s with enrol := { s.enrol with unmatchedFrames := min 65535 (s.enrol.unmatchedFrames + 1) }, link := s.link.received, out := [] }) ∧
    (index.toNat = h.val → (s.home h).state ≠ .claiming → (s.home h).state ≠ .free → (s.home h).identity = some id →
      (objectFields p = some (id, index, 1) → s.link.total < 12 →
        let noted : State := { s with
          link := s.link.received.take ⟨31, .event (.identityConflict id h (s.home h).tree (.late rx.src)), false⟩, out := [] }
        ((s.home h).state = .measuring ∨ (inService (s.home h).state = true ∧ (s.home h).score < 64) →
          exec (.object rx p) s =
            .next { noted with identities := min 65535 (s.identities + 1)
                               homes := s.homes.set h { s.home h with score := min 255 ((s.home h).score + 128) } }) ∧
        ((s.home h).state = .isolated ∨ (s.home h).state = .closing ∨ (s.home h).state = .forward →
          exec (.object rx p) s = .next noted)) ∧
      (objectFields p = some (id, index, 1) → 12 ≤ s.link.total →
        ((s.home h).state = .isolated ∨ (s.home h).state = .closing ∨ (s.home h).state = .forward) →
        exec (.object rx p) s =
          .next { s with link := { s.link.received with urgentDrops := min 65535 (s.link.urgentDrops + 1)
                                                        eventsDropped := min 65535 (s.link.eventsDropped + 1) }, out := [] }) ∧
      (objectFields p = some (id, index, 2) → exec (.object rx p) s = .next { s with link := s.link.received, out := [] }) ∧
      (∀ (releaser : Station) (rb cb : Byte), releaseFields p = some (id, rb, cb, index) → rb.toNat = releaser.val → cb.toNat = s.own.val →
        exec (.release rx p) s =
          .next { s with link := s.link.received, out := []
                         homes := if (s.home h).movedFrom = none ∧ (s.home h).state ≠ .forward
                           then s.homes.set h { s.home h with movedFrom := some releaser } else s.homes }))) ∧
  ∀ (s : State) (t u : Tree) (id : Identity) (start count : Nat) (rest : List WalkRequest) (h : HomeIndex),
    s.walks = ⟨.capture t, id, start, count⟩ :: rest → s.holder id = some h → (s.home h).tree = some u → u ≠ t → s.link.total < 12 →
    let conflict : State := { s with
      walks := rest
      enrol := { s.enrol with barred :=
        (if 8 ≤ (s.enrol.barred.filter fun i => i ≠ id).length then (s.enrol.barred.filter fun i => i ≠ id).tail
          else s.enrol.barred.filter fun i => i ≠ id) ++ [id] }
      link := s.link.take ⟨31, .event (.identityConflict id h (some u) (.localTree t)), false⟩
      out := [] }
    let charged : Home := { s.home h with score := min 255 ((s.home h).score + 128) }
    ((s.home h).state = .measuring ∨ (((s.home h).state = .soaking ∨ (s.home h).state = .online) ∧ (s.home h).score < 64) →
      exec .captureCheckComplete s =
        .next { conflict with identities := min 65535 (s.identities + 1), homes := s.homes.set h charged }) ∧
    (∀ tag : Nat, ((s.home h).state = .soaking ∨ (s.home h).state = .online) → 64 ≤ (s.home h).score → (s.home h).tag = some tag →
      (s.tree u).queue.length < 16 → s.link.total ≤ 10 →
      exec .captureCheckComplete s =
        .next { conflict with
          identities := min 65535 (s.identities + 1)
          homes := s.homes.set h { charged.pendingToDiscarded with
            state := .isolated, report := 0, since := 0, deferred := false, missed := 0, lostTimer := 0, refresh := some 0, refreshDue := false }
          trees := s.trees.set u.idx { s.tree u with
            isolations := min 65535 ((s.tree u).isolations + 1), queue := insertCtl ⟨.laserOff, tag, 0, false⟩ (s.tree u).queue }
          link := conflict.link.take
            ⟨31, .event (.isolated h (s.home h).identity (s.home h).account (some u) (some tag) charged.score .score (some .identity)), false⟩ }) ∧
    ((s.home h).state = .claiming → (s.home h).tag = none →
      exec .captureCheckComplete s =
        .next { conflict with
          homes := s.homes.set h Home.free
          trees := s.trees.set u.idx { s.tree u with pool := (s.tree u).pool - (s.home h).g }
          forwardList := s.forwardList.filter fun i => i ≠ h
          link := conflict.link.withdrawClaim h })

/-- What the success of a claim does (R4, R6, R56): the entry is MEASURING in ANNOUNCING with the lowest free tag, which its tree marks held, its open bank's period start is the clock's, a TAG-ASSIGN stands at the tail
of the tree's queue, or is kept while the queue has no room, the admission entry is gone, and the CLAIM is withdrawn from the link controller `l`. Every other entry and tree stands. -/
structure Sys2Proof.ClaimStands (s s' : State) (l : Link) (h : HomeIndex) (t : Tree) (id : Identity) (tag : Nat) (movedFrom : Option Station) : Prop where
  entry : s'.home h = { s.home h with
    state := .measuring, phase := some .announcing, tag := some tag, claim := none, movedFrom := movedFrom, attempts := 0, samples := []
    report := 0, since := 0, missed := 0, deferred := false, soak := 0, lostTimer := 0, refresh := none, refreshDue := false
    bankA := (s'.home h).bankA, bankB := (s'.home h).bankB }
  bank : (s'.home h).openBank = { (s.home h).openBank with periodStart := if s.cal.set then some s.cal.now else none } ∧
    (s'.home h).otherBank = (s.home h).otherBank
  place : (s'.tree t).place tag = some (.held h) ∧ (∀ k, k ≠ tag → (s'.tree t).place k = (s.tree t).place k)
  assign : (s'.tree t).queue = (s.tree t).queue ++ (if (s.tree t).queue.length < 16 then [⟨.tagAssign id, tag, 0, false⟩] else []) ∧
    (s'.tree t).held = (s.tree t).held ++ (if (s.tree t).queue.length < 16 then [] else [⟨.tagAssign id, tag, 0, false⟩])
  here : s'.tree t = { s.tree t with tags := (s'.tree t).tags, queue := (s'.tree t).queue, held := (s'.tree t).held }
  admission : s'.enrol = { s.enrol with admission := s.enrol.admission.filter fun a => a.identity ≠ id }
  withdrawn : s'.link = l.withdrawClaim h ∧ ∀ f ∈ s'.link.waiting, f.claims h = false
  others : ∀ k, k ≠ h → s'.home k = s.home k
  trees : ∀ u, u ≠ t → s'.tree u = s.tree u
  rest : s' = { s with homes := s'.homes, trees := s'.trees, enrol := s'.enrol, link := s'.link, out := [] }

/-- Tier 2. CLAIM_HOLD_EXPIRY of a sent claim whose hold is 0, and a RELEASE that names this station as claimant and its CLAIMING entry (R56, R19): the claim stands, with moved-from the releasing station after a RELEASE and absent
after the hold. That a RELEASE addressed to this station alone is taken is the model's reading (assumption 14). -/
def Obligations.ClaimSucceeds : Prop :=
  ∀ (s : State) (h : HomeIndex) (t : Tree) (id : Identity) (tag : Nat) (k : ClaimContext), (s.home h).state = .claiming →
    (s.home h).claim = some k → (s.home h).tree = some t → (s.home h).identity = some id → (s.tree t).place tag = some .free →
    (∀ j, 1 ≤ j → j < tag → (s.tree t).place j ≠ some .free) →
    (k.sent = true → k.hold = 0 →
      ∃ s' : State, exec (.claimHoldExpiry h) s = .next s' ∧ ClaimStands s s' s.link h t id tag none) ∧
    ∀ (c : Config) (rx : Rx) (p : List Byte) (releaser : Station) (rb cb ib : Byte), s.config = some c → s.hears rx = true →
      (c.ranks[rx.src]).val ≤ 2 → releaseFields p = some (id, rb, cb, ib) → rb.toNat = releaser.val → cb.toNat = s.own.val →
      ib.toNat = h.val →
      ∃ s' : State, exec (.release rx p) s = .next s' ∧ ClaimStands s s' s.link.received h t id tag (some releaser)

/-- Tier 1. A SHARE (R92) is recorded at age 0 and counted, in RUN from rank 0 to 2 and in WAIT_CONFIG from any station, whatever the place held; in RUN from rank 3 it is ignored and counted. -/
def Obligations.ShareRecorded : Prop :=
  ∀ (s : State) (rx : Rx) (p : List Byte) (f d : Nat), s.hears rx = true → shareFields p = some (f, d) →
    ((∀ c, s.config = some c → (c.ranks[rx.src]).val ≤ 2) →
      exec (.share rx p) s =
        .next { s with share := { s.share with peers := s.share.peers.set rx.src (some ⟨f, d, 0⟩),
                                               recorded := min 65535 (s.share.recorded + 1) }
                       link := s.link.received
                       out := [] }) ∧
    (∀ c, s.config = some c → (c.ranks[rx.src]).val = 3 →
      exec (.share rx p) s =
        .next { s with share := { s.share with ignored := min 65535 (s.share.ignored + 1) }, link := s.link.received, out := [] })

/-- A tag taken from its entry on a tree (R6, R28): its place is draining, the routine messages kept for it are gone (assumption 22), and a DROP is queued, or kept while the queue has no room. -/
structure Sys2Proof.TagDrained (x y : TreeLine) (tag : Nat) : Prop where
  places : ∀ k, y.place k = if k = tag then some .draining else x.place k
  queue : y.queue = x.queue ++ (if x.queue.length < 16 then [⟨.drop, tag, 0, false⟩] else [])
  held : y.held = (x.held.filter fun m => m.kind = .drop ∨ m.urgent = true ∨ m.tag ≠ tag) ++ (if x.queue.length < 16 then [] else [⟨.drop, tag, 0, false⟩])

/-- Tier 2. CAPTURE_CHECK_COMPLETE (R18, R48, R49, R51). With no match, an admitted identity that passes the table, tag and capacity tests takes the lowest FREE entry to CLAIMING, its g joins the pool and its CLAIM the transmit queue, or is kept; one that is not
admitted, or fails a test, goes to the unknown list with the first reason that holds, and one barred meanwhile is counted. A LOST, SOAKING or ONLINE entry captured on its own tree goes to MEASURING with its tag, and a TAG-ASSIGN for it is queued. A LOST entry of another tree is moved there with a new tag, its g
changing pools and its old tag draining, when both tests pass, else it stays and the unknown list takes the identity with reason CAPACITY. An ISOLATED or CLOSING entry, and a CLAIMING or MEASURING one of the same tree, is ignored and counted. A FORWARD entry is freed, and the capture goes on as one with no match. -/
def Obligations.CaptureCheckActs : Prop :=
  ∀ (s : State) (t : Tree) (id : Identity) (start count : Nat) (rest : List WalkRequest), s.walks = ⟨.capture t, id, start, count⟩ :: rest →
    let unknown (reason : UnknownReason) : Host.Outcome State Fault Refusal :=
      .next { s with walks := rest, enrol := s.enrol.takeUnknown id t reason, out := [] }
    ((∀ k, (s.home k).state = .free ∨ (s.home k).identity ≠ some id) →
      (id ∈ s.enrol.barred →
        exec .captureCheckComplete s =
          .next { s with walks := rest, enrol := { s.enrol with barredCaptures := min 65535 (s.enrol.barredCaptures + 1) }, out := [] }) ∧
      (id ∉ s.enrol.barred → (∀ a ∈ s.enrol.admission, a.identity ≠ id) → exec .captureCheckComplete s = unknown .notAdmitted) ∧
      ∀ a : Admission, id ∉ s.enrol.barred → s.enrol.admission.find? (fun b => b.identity = id) = some a →
        ((∀ h, (s.home h).state ≠ .free) → exec .captureCheckComplete s = unknown .tableFull) ∧
        ∀ h : HomeIndex, (s.home h).state = .free → (∀ k, k < h → (s.home k).state ≠ .free) →
          ((s.tree t).freeTags ≤ s.claimingOn t → exec .captureCheckComplete s = unknown .tagsFull) ∧
          (s.claimingOn t < (s.tree t).freeTags → 1200 < (s.tree t).pool + a.g → exec .captureCheckComplete s = unknown .capacity) ∧
          (s.claimingOn t < (s.tree t).freeTags → (s.tree t).pool + a.g ≤ 1200 →
            let claimed (held : Nat) : State := { s with
              walks := rest, out := []
              homes := s.homes.set h { Home.free with state := .claiming, identity := some id, account := some a.account, g := a.g
                                                      p := a.p, tree := some t, claim := some ⟨1, 100, 0, held, false⟩ }
              trees := s.trees.set t.idx { s.tree t with pool := (s.tree t).pool + a.g } }
            (s.link.roomFor false = true →
              exec .captureCheckComplete s = .next { claimed 0 with link := s.link.take ⟨31, .claim id t h, false⟩ }) ∧
            (s.link.roomFor false = false → exec .captureCheckComplete s = .next (claimed 1)))) ∧
    (∀ (h : HomeIndex) (tag : Nat), s.holder id = some h → inService (s.home h).state = true → (s.home h).tree = some t →
      (s.home h).tag = some tag → (s.tree t).queue.length < 16 →
      exec .captureCheckComplete s =
        .next { s with walks := rest, out := []
                       homes := s.homes.set h { s.home h with
                         state := .measuring, phase := some .announcing, attempts := 0, samples := [], report := 0, since := 0, missed := 0
                         deferred := false, soak := 0, lostTimer := 0, claim := none, refresh := none, refreshDue := false }
                       trees := s.trees.set t.idx { s.tree t with queue := (s.tree t).queue ++ [⟨.tagAssign id, tag, 0, false⟩] } }) ∧
    (∀ (h : HomeIndex) (u : Tree) (old : Nat), s.holder id = some h → (s.home h).state = .lost → (s.home h).tree = some u → u ≠ t →
      (s.home h).tag = some old → (s.tree u).place old = some (.held h) →
      ((s.tree t).freeTags ≤ s.claimingOn t ∨ 1200 < (s.tree t).pool + (s.home h).g → exec .captureCheckComplete s = unknown .capacity) ∧
      (∀ tag, s.claimingOn t < (s.tree t).freeTags → (s.tree t).pool + (s.home h).g ≤ 1200 → (s.tree t).place tag = some .free →
        (∀ j, 1 ≤ j → j < tag → (s.tree t).place j ≠ some .free) → (s.tree t).queue.length < 16 →
        ∃ s' : State, exec .captureCheckComplete s = .next s' ∧
          s' = { s with walks := rest, out := [], trees := s'.trees
                        homes := s.homes.set h { s.home h with
                          tree := some t, tag := some tag, silence := .none, state := .measuring, phase := some .announcing, attempts := 0
                          samples := [], report := 0, since := 0, missed := 0, deferred := false, soak := 0, lostTimer := 0, claim := none
                          refresh := none, refreshDue := false } } ∧
          TagDrained (s.tree u) (s'.tree u) old ∧
          s'.tree u = { s.tree u with tags := (s'.tree u).tags, queue := (s'.tree u).queue, held := (s'.tree u).held
                                      pool := (s.tree u).pool - (s.home h).g } ∧
          s'.tree t = { s.tree t with tags := (s'.tree t).tags, queue := (s.tree t).queue ++ [⟨.tagAssign id, tag, 0, false⟩]
                                      pool := (s.tree t).pool + (s.home h).g } ∧
          (∀ k, (s'.tree t).place k = if k = tag then some (.held h) else (s.tree t).place k) ∧
          ∀ v, v ≠ t → v ≠ u → s'.tree v = s.tree v)) ∧
    (∀ h : HomeIndex, s.holder id = some h →
      ((s.home h).state = .isolated ∨ (s.home h).state = .closing ∨
        (((s.home h).state = .claiming ∨ (s.home h).state = .measuring) ∧ (s.home h).tree = some t)) →
      exec .captureCheckComplete s =
        .next { s with walks := rest, out := []
                       enrol := { s.enrol with ignoredCaptures := min 65535 (s.enrol.ignoredCaptures + 1) } }) ∧
    ∀ h : HomeIndex, s.holder id = some h → (s.home h).state = .forward → (s.home h).tag = none →
      (∀ k, k ≠ h → (s.home k).state = .free ∨ (s.home k).identity ≠ some id) →
      exec .captureCheckComplete s =
        exec .captureCheckComplete { s with homes := s.homes.set h Home.free, forwardList := s.forwardList.filter fun i => i ≠ h }

/-- Tier 2. Claim and release checks, and a RELEASE for a third station (R57, R60, R61, R103), but for the claim check that finds a LOST home (WaysToClosing). CLAIM_CHECK_COMPLETE with no match does nothing. One that finds a home in MEASURING, SOAKING or ONLINE queues OBJECT HELD to the claimant and charges
IDENTITY, which isolates a home in service that reaches 192; ISOLATED, OBJECT HELD alone. CLOSING queues a RELEASE and takes the claimant as forward-to when it has none; FORWARD takes it in any case. CLAIMING abandons this station's claim, bars the identity and sends EVENT IDENTITY_CONFLICT with cause MUTUAL. A RELEASE naming a
third station queues a release check, which gives a CLOSING entry without a forward-to the named claimant and a FORWARD entry that claimant in any case, and changes nothing else. That the OBJECT is queued ahead of the EVENT ISOLATED its evidence leads to is the model's choice (assumption 7), and so is that the soak countdown and attempts used of the isolated home stand as they stood (assumption 40); that a RELEASE addressed to this station alone is taken is its reading (assumption 14). -/
def Obligations.ClaimAndReleaseChecks : Prop :=
  ∀ (s : State) (claimant : Station) (index : Byte) (id : Identity) (start count : Nat) (rest : List WalkRequest),
    (s.walks = ⟨.claim claimant index, id, start, count⟩ :: rest →
      (s.holder id = none → exec .claimCheckComplete s = .next { s with walks := rest, out := [] }) ∧
      ∀ h, s.holder id = some h →
        let x := s.home h
        let objected : State := { s with walks := rest, link := s.link.take ⟨toStation claimant, .object id index .held, false⟩, out := [] }
        let charged : Home := { x with score := min 255 (x.score + 128) }
        (x.state = .isolated → s.link.total < 12 → exec .claimCheckComplete s = .next objected) ∧
        (x.state = .measuring ∨ ((x.state = .soaking ∨ x.state = .online) ∧ x.score < 64) → s.link.total < 12 →
          exec .claimCheckComplete s = .next { objected with identities := min 65535 (s.identities + 1), homes := s.homes.set h charged }) ∧
        (∀ (t : Tree) (tag : Nat), (x.state = .soaking ∨ x.state = .online) → 64 ≤ x.score → x.tree = some t → x.tag = some tag →
          (s.tree t).queue.length < 16 → s.link.total ≤ 10 →
          exec .claimCheckComplete s = .next { objected with
            identities := min 65535 (s.identities + 1)
            homes := s.homes.set h { charged.pendingToDiscarded with
              state := .isolated, report := 0, since := 0, deferred := false, missed := 0, lostTimer := 0, refresh := some 0, refreshDue := false }
            trees := s.trees.set t.idx { s.tree t with
              isolations := min 65535 ((s.tree t).isolations + 1), queue := insertCtl ⟨.laserOff, tag, 0, false⟩ (s.tree t).queue }
            link := objected.link.take
              ⟨31, .event (.isolated h x.identity x.account (some t) (some tag) charged.score .score (some .identity)), false⟩ }) ∧
        (x.state = .closing → s.link.total < 12 →
          exec .claimCheckComplete s =
            .next { s with walks := rest, homes := s.homes.set h { x with forwardTo := some (x.forwardTo.getD claimant) }
                           link := s.link.take ⟨31, .release id s.own claimant index, false⟩, out := [] }) ∧
        (x.state = .forward →
          exec .claimCheckComplete s =
            .next { s with walks := rest, homes := s.homes.set h { x with forwardTo := some claimant }, out := [] }) ∧
        (∀ t : Tree, x.state = .claiming → x.tree = some t → x.tag = none → s.link.total < 12 →
          exec .claimCheckComplete s =
            .next { s with
              walks := rest, out := []
              homes := s.homes.set h Home.free
              trees := s.trees.set t.idx { s.tree t with pool := (s.tree t).pool - x.g }
              forwardList := s.forwardList.filter fun i => i ≠ h
              enrol := { s.enrol with barred :=
                (if 8 ≤ (s.enrol.barred.filter fun i => i ≠ id).length then (s.enrol.barred.filter fun i => i ≠ id).tail
                  else s.enrol.barred.filter fun i => i ≠ id) ++ [id] }
              link := (s.link.withdrawClaim h).take ⟨31, .event (.identityConflict id h (some t) (.mutualClaim claimant)), false⟩ })) ∧
    (s.walks = ⟨.release claimant, id, start, count⟩ :: rest →
      (s.holder id = none → exec .releaseCheckComplete s = .next { s with walks := rest, out := [] }) ∧
      ∀ h, s.holder id = some h →
        ((s.home h).state = .closing →
          exec .releaseCheckComplete s =
            .next { s with walks := rest, homes := s.homes.set h { s.home h with forwardTo := some ((s.home h).forwardTo.getD claimant) }, out := [] }) ∧
        ((s.home h).state = .forward →
          exec .releaseCheckComplete s =
            .next { s with walks := rest, homes := s.homes.set h { s.home h with forwardTo := some claimant }, out := [] }) ∧
        ((s.home h).state ≠ .closing → (s.home h).state ≠ .forward → exec .releaseCheckComplete s = .next { s with walks := rest, out := [] })) ∧
    (∀ (c : Config) (rx : Rx) (p : List Byte) (rb cb ib : Byte), s.config = some c → s.hears rx = true → (c.ranks[rx.src]).val ≤ 2 →
      releaseFields p = some (id, rb, cb, ib) → cb.toNat = claimant.val → claimant ≠ s.own → s.walks.length < 6 →
      exec (.release rx p) s =
        .next { s with walks := s.walks ++ [⟨.release claimant, id, 0, 128⟩], link := s.link.received, out := [] })

/-! ## Emission -/

/-- Tier 2. EMISSION_WALK in WALKING at an entry h (R156 to R159, R19, R15). A waiting closed bank with room for more than one record becomes the ordinary record at the tail, numbered by the counter, and stops waiting; a CLOSING entry without one
gives its FINAL record and, with no forward-to, is freed; with 48 records the walk blocks; an entry with no work is passed, and the 128th pass in a row makes the walk IDLE. -/
def Obligations.EmissionWalkActs : Prop :=
  ∀ (s : State) (h : HomeIndex), s.emission.state = .walking → s.emission.pointer = h →
    ((s.home h).closedWaiting = true → s.meter.hold.length < 47 →
      exec .emissionWalk s =
        .next { s with
          homes := s.homes.set h { s.home h with closedWaiting := false, movedFrom := none }
          emission := { s.emission with passes := 0 }
          meter := { s.meter with
            hold := s.meter.hold ++ [(s.home h).record h s.meter.nextNumber (s.home h).otherBank (s.home h).otherBank.periodEnd false]
            nextNumber := s.meter.nextNumber + 1
            enqueued := min 65535 (s.meter.enqueued + 1) }
          out := [] }) ∧
    ((s.home h).closedWaiting = false → (s.home h).state = .closing → (s.home h).forwardTo = none → (s.home h).tag = none →
      s.meter.hold.length < 47 →
      exec .emissionWalk s =
        .next { s with
          homes := s.homes.set h Home.free
          forwardList := s.forwardList.filter fun i => i ≠ h
          emission := { s.emission with passes := 0 }
          meter := { s.meter with
            hold := s.meter.hold ++ [(s.home h).record h s.meter.nextNumber (s.home h).openBank
              (if s.cal.set then some s.cal.now else none) true]
            nextNumber := s.meter.nextNumber + 1
            enqueued := min 65535 (s.meter.enqueued + 1)
            finals := min 65535 (s.meter.finals + 1) }
          out := [] }) ∧
    (((s.home h).closedWaiting = true ∨ (s.home h).state = .closing) → 48 ≤ s.meter.hold.length →
      exec .emissionWalk s = .next { s with emission := { s.emission with state := .blocked }, out := [] }) ∧
    ((s.home h).closedWaiting = false → (s.home h).state ≠ .closing → s.emission.passes ≤ 127 →
      exec .emissionWalk s =
        .next { s with emission := ⟨⟨(h.val + 1) % 128, Nat.mod_lt _ (by decide)⟩, if s.emission.passes = 127 then .idle else .walking,
                                    s.emission.passes + 1⟩, out := [] })

/-! ## The round -/

/-- Tier 2. ROUND_BOUNDARY (R7, R23, R44, R55, R62, R64, R66, R82, R83, R123): it always completes. The round number rises by 1 and wraps; the positions carry into one another. Every RUNNING tree makes its shadow map active with only the windows whose homes are still in
service, unsilenced and holding the window's tag, loses the zone if a search started since the map point, and sets its discovery count to 0 with a DISCOVER zone or raises it by 1 (for a withdrawn DISCOVER zone the model's choice, assumption 34);
STOPPED trees keep theirs. Each surviving window's payload joins its home's since. Soak countdowns of RUNNING trees and the holds of sent claims fall by 1. A message whose second sending the header carries is reported: a draining tag's DROP frees the tag, the last TAG-ASSIGN or LASER-ON of an
ANNOUNCING entry takes it to SAMPLING, and the DELAY-SET of an accepted attempt takes its SETTING entry to SOAKING. A SETTLING probe with no message awaited counts the boundary. Nothing else changes but the headers sent.
The due marks, `mapPassed`, `searchSinceMap` and the marks of what has been received of a round, a quiet window owed among them, are the model's own (assumption 6). -/
def Obligations.RoundBoundaryMovesOn : Prop :=
  ∀ s : State, ∃ s' : State, exec .roundBoundary s = .next s' ∧
    s' = { s with clock := s'.clock, homes := s'.homes, trees := s'.trees, out := s'.out } ∧
    s'.clock.number = s.clock.number + 1 ∧ s'.clock.mapPassed = false ∧
    (s.clock.round < 49 → s'.clock = { s.clock with number := s.clock.number + 1, round := s.clock.round + 1, mapPassed := false }) ∧
    (s.clock.round = 49 → s'.clock.round = 0 ∧ s'.clock.epochDue = true ∧
      (s.clock.epochInShare < 9 → s'.clock.epochInShare = s.clock.epochInShare + 1 ∧ s'.clock.shareDue = s.clock.shareDue) ∧
      (s.clock.epochInShare = 9 → s'.clock.epochInShare = 0 ∧ s'.clock.shareDue = true) ∧
      (s.clock.epochInSecond < 99 → s'.clock.epochInSecond = s.clock.epochInSecond + 1 ∧ s'.clock.secondDue = s.clock.secondDue) ∧
      (s.clock.epochInSecond = 99 → s'.clock.epochInSecond = 0 ∧ s'.clock.secondDue = true)) ∧
    (∀ t, (s.tree t).running = false → s'.tree t = s.tree t) ∧
    (∀ t, (s.tree t).running = true →
      let x := s.tree t
      let zone := if x.searchSinceMap then none else x.shadow.zone
      let settle :=
        if x.search.running = true ∧ x.search.phase = .settling ∧ (∀ m ∈ (s'.tree t).queue ++ (s'.tree t).held, m.awaited = false) then
          min 2 (x.search.settle + 1)
        else x.search.settle
      s'.tree t = { x with
        active := ⟨x.shadow.windows.filter (fun w =>
          inService (s.home w.home).state ∧ (s.home w.home).tree = some t ∧ (s.home w.home).silence = .none ∧ (s.home w.home).tag = some w.tag),
          zone, x.shadow.quiet⟩
        shadow := ⟨[], none, false⟩
        windowsTaken := 0, zoneTaken := false, lastBlockLit := false, quietTaken := x.quietLeft.isSome, lateQuiet := x.quietLeft
        discovery := if zone.any (fun z => z.purpose = .discover) then 0 else min 65535 (x.discovery + 1)
        queue := (s'.tree t).queue
        tags := (s'.tree t).tags
        search := { x.search with settle := settle } } ∧
      ∀ tag, (s'.tree t).place tag =
        if x.place tag = some .draining ∧ (∃ m ∈ x.queue, m.kind = .drop ∧ m.tag = tag ∧ m.count = 1) then some .free else x.place tag) ∧
    ∀ h,
      s'.home h = { s.home h with
        soak := (s'.home h).soak, claim := (s'.home h).claim, since := (s'.home h).since, phase := (s'.home h).phase, state := (s'.home h).state } ∧
      (∀ t, (s.home h).tree = some t → (s.tree t).running = true →
        (s'.home h).since = (((s'.tree t).active.windows.filter fun w => w.home = h).map fun w => w.length - 3).foldl
          (fun n payload => min 65535 (n + payload)) (s.home h).since) ∧
      ((∀ t, (s.home h).tree = some t → (s.tree t).running = false) → (s'.home h).since = (s.home h).since ∧
        ((s.home h).state = .soaking → (s'.home h).soak = (s.home h).soak)) ∧
      (∀ k : ClaimContext, (s.home h).state = .claiming → (s.home h).claim = some k →
        (s'.home h).claim = some (if k.sent then { k with hold := k.hold - 1 } else k)) ∧
      ((s.home h).state ≠ .claiming → (s'.home h).claim = (s.home h).claim) ∧
      (∀ t, (s.home h).state = .soaking → (s.home h).tree = some t → (s.tree t).running = true → (s'.home h).soak = (s.home h).soak - 1) ∧
      ((∀ t, (s.tree t).running = true → ∀ m ∈ (s.tree t).queue, m.count = 1 → (s.tree t).place m.tag ≠ some (.held h)) →
        (s'.home h).phase = (s.home h).phase ∧ (s'.home h).state = (s.home h).state ∧
          ((s.home h).state ≠ .soaking → (s'.home h).soak = (s.home h).soak)) ∧
      ∀ (t : Tree) (m : CtlMsg), (s.tree t).running = true → m ∈ (s.tree t).queue → m.count = 1 → (s.tree t).place m.tag = some (.held h) →
        (m.announces m.tag = true → (s.home h).phase = some .announcing →
          (∀ y ∈ (s'.tree t).queue ++ (s'.tree t).held, y.announces m.tag = false) →
          (s'.home h).phase = some .sampling ∧ (s'.home h).state = (s.home h).state) ∧
        (∀ (c : Config) (eq : Nat), m.kind = .delaySet eq .enrollment → (s.home h).state = .measuring → (s.home h).phase = some .setting →
          s.config = some c → (s'.home h).state = .soaking ∧ (s'.home h).phase = none ∧ (s'.home h).soak = c.soak)

/-- Tier 2. The headers of a round boundary (R25, R27): one for each RUNNING tree in the order A to D, carrying the new round number, the active map and the chosen messages: first those with sending count 1, then those with sending count 0, at
most four in all. Each tree's queue then holds what it held without the messages sent twice, those sent for the first time at count 1 and the others as they stood. That the headers come in the order A to D is the model's choice (assumption 7). -/
def Obligations.HeadersSent : Prop :=
  ∀ s : State, ∃ s' : State, exec .roundBoundary s = .next s' ∧
    s'.out = ((Tree.all.filter fun t => (s.tree t).running).map fun t =>
      .header t (headerBytes (s.clock.number + 1) (s'.tree t).active (chosenMessages (s.tree t).queue))) ∧
    ∀ t, (s.tree t).running = true → (s.tree t).queue.countP (fun m => m.count = 1) ≤ 4 → (∀ m ∈ (s.tree t).queue, m.count ≤ 1) →
      chosenMessages (s.tree t).queue = ((s.tree t).queue.filter fun m => m.count = 1) ++
        ((s.tree t).queue.filter fun m => m.count = 0).take (4 - (s.tree t).queue.countP fun m => m.count = 1) ∧
      (chosenMessages (s.tree t).queue).length ≤ 4 ∧
      ((s'.tree t).queue.filter fun m => m.count = 1).map (fun m => (m.kind, m.tag)) =
        ((chosenMessages (s.tree t).queue).filter fun m => m.count = 0).map (fun m => (m.kind, m.tag)) ∧
      ((s'.tree t).queue.filter fun m => m.count = 0) =
        ((s.tree t).queue.filter fun m => m.count = 0).drop (4 - (s.tree t).queue.countP fun m => m.count = 1)

/-- Tier 1. EPOCH_END when one is due (R106, R107, R111, R113, R115): every entry's score is halved, rounding down; pending is billed into the open bank's meters, each band in its own, when the halving takes the score from 32 or more to below 32, and stays otherwise; the refresh count of an
ISOLATED entry of a RUNNING tree rises, and one that would reach 100 is due instead; a tree's dark counter is halved unless a search runs on it, and its hold-off falls by 1 to no less than 0. SECOND_TICK when one is due (R53, R67, R138, R143, R145, R151): a waiting table is installed; a set
clock advances by one second, evaluates the band of the table in force and makes the close test, and a close that fires computes the next close moment from the time held (assumption 21); the open bank of every home in service that is silenced or whose tree is not RUNNING gains a withheld
second; the timer of every LOST home on a RUNNING tree rises, holding at 3600, and on a STOPPED one pauses; the unknown list's seconds rise. Nothing else changes.
That one is due, that a refresh is due, and the closes fired and not yet taken are the model's own marks (assumption 6). -/
def Obligations.EpochEndsAndSecondTicks : Prop :=
  (∀ s : State, s.clock.epochDue = true → ∃ s' : State, exec .epochEnd s = .next s' ∧
    s' = { s with clock := { s.clock with epochDue := false }, homes := s'.homes, trees := s'.trees, out := [] } ∧
    (∀ h,
      let x := s.home h
      let ticks : Bool := decide (x.state = .isolated) && x.tree.any fun t => (s.tree t).running
      s'.home h = { (if 32 ≤ x.score ∧ x.score / 2 < 32 then x.pendingToMeters else x) with
        score := x.score / 2
        refresh := if ticks then x.refresh.map (fun n => if n < 99 then n + 1 else n) else x.refresh
        refreshDue := x.refreshDue || (ticks && x.refresh.any fun n => decide (99 ≤ n)) }) ∧
    ∀ t, s'.tree t = { s.tree t with
      darkCounter := if (s.tree t).search.running then (s.tree t).darkCounter else (s.tree t).darkCounter / 2
      holdOff := (s.tree t).holdOff - 1 }) ∧
  ∀ s : State, s.clock.secondDue = true → ∃ s' : State, exec .secondTick s = .next s' ∧
    s' = { s with
      clock := { s.clock with secondDue := false }
      homes := s'.homes
      enrol := { s.enrol with unknown := s.enrol.unknown.map fun u => { u with seconds := min 65535 (u.seconds + 1) } }
      cal := { s.cal with
        table := s.cal.waiting.getD s.cal.table, waiting := none, now := s'.cal.now, weekday := s'.cal.weekday, band := s'.cal.band
        nextClose := s'.cal.nextClose, closesFired := s'.cal.closesFired }
      out := [] } ∧
    (s.cal.set = true →
      s'.cal.now = s.cal.now.advance ∧ s'.cal.weekday = weekdayAdvance s.cal.now s.cal.weekday ∧
      s'.cal.band = bandAt s'.cal.table s'.cal.weekday s'.cal.now.time ∧
      (s.cal.nextClose = none → s'.cal.closesFired = s.cal.closesFired ∧ s'.cal.nextClose = none) ∧
      ∀ close, s.cal.nextClose = some close →
        (closeReached s'.cal.now close = true →
          s'.cal.closesFired = s.cal.closesFired ++ [s'.cal.now] ∧ s'.cal.nextClose = some (closeAfter s'.cal.now s.cal.closeTime)) ∧
        (closeReached s'.cal.now close = false → s'.cal.closesFired = s.cal.closesFired ∧ s'.cal.nextClose = some close)) ∧
    (s.cal.set = false → s'.cal = { s.cal with table := s'.cal.table, waiting := none }) ∧
    ∀ h,
      let x := s.home h
      let running : Bool := x.tree.any fun t => (s.tree t).running
      let counted := if inService x.state = true ∧ (x.silence = .search ∨ running = false) then x.onOpen Bank.withhold else x
      s'.home h = { counted with lostTimer := if x.state = .lost ∧ running = true then min 3600 (x.lostTimer + 1) else x.lostTimer }

/-- Tier 1. LASER_OFF_REFRESH of an ISOLATED home whose refresh is due (R111): its count returns to 0 and a LASER-OFF for its tag joins the urgent messages, unless one with sending count 0 stands in the queue or one is held. An urgent message (`TreeLine.offer`) joins the tail of the
urgent ones; at a queue of 16 it displaces the newest routine message, which is lost and counted: a lost DROP frees its draining tag (R7), and another is kept by its producer; with 16 urgent messages it is kept itself. CONTROL_MESSAGE_REOFFER
(R28): with room in the queue, a kept DROP, LASER-ON or TAG-ASSIGN whose reason stands joins the tail, a kept DELAY-SET whose reason stands joins it with the home's EQ as it now stands, and a kept LASER-OFF whose reason stands or SILENCE joins the urgent messages; with 16 messages
in the queue a routine message but a DELAY-SET stays kept and nothing changes; a LASER-ON whose reason has gone is discarded.
That a refresh is due is the model's own mark (assumption 6), and which kept messages still have a reason, and that of the SILENCE messages kept for a tag the oldest comes first, is its reading of R28 (assumption 22). -/
def Obligations.MessagesOfferedAgain : Prop :=
  (∀ (s : State) (h : HomeIndex) (t : Tree) (tag : Nat), (s.home h).state = .isolated → (s.home h).refreshDue = true → (s.home h).tree = some t →
    (s.home h).tag = some tag →
    ((∃ m ∈ (s.tree t).queue, m.kind = .laserOff ∧ m.tag = tag ∧ m.count = 0) ∨ (∃ m ∈ (s.tree t).held, m.kind = .laserOff ∧ m.tag = tag) →
      exec (.laserOffRefresh h) s =
        .next { s with homes := s.homes.set h { s.home h with refresh := some 0, refreshDue := false }, out := [] }) ∧
    ((∀ m ∈ (s.tree t).queue, ¬ (m.kind = .laserOff ∧ m.tag = tag ∧ m.count = 0)) → (∀ m ∈ (s.tree t).held, ¬ (m.kind = .laserOff ∧ m.tag = tag)) →
      (s.tree t).queue.length < 16 →
      exec (.laserOffRefresh h) s =
        .next { s with homes := s.homes.set h { s.home h with refresh := some 0, refreshDue := false }, out := []
                       trees := s.trees.set t.idx { s.tree t with queue := insertCtl ⟨.laserOff, tag, 0, false⟩ (s.tree t).queue } }) ∧
    ((∀ m ∈ (s.tree t).queue, ¬ (m.kind = .laserOff ∧ m.tag = tag ∧ m.count = 0)) → (∀ m ∈ (s.tree t).held, ¬ (m.kind = .laserOff ∧ m.tag = tag)) →
      exec (.laserOffRefresh h) s =
        .next { s with homes := s.homes.set h { s.home h with refresh := some 0, refreshDue := false }, out := []
                       trees := s.trees.set t.idx ((s.tree t).offer ⟨.laserOff, tag, 0, false⟩) })) ∧
  (∀ (m : CtlMsg) (q : List CtlMsg), q.Pairwise (fun a b => b.urgent = true → a.urgent = true) →
    insertCtl m q = if m.kind = .laserOff ∨ ∃ on, m.kind = .silence on then (q.filter CtlMsg.urgent) ++ m :: q.filter fun y => y.urgent = false
      else q ++ [m]) ∧
  (∀ (x : TreeLine) (m : CtlMsg), (m.kind = .laserOff ∨ ∃ on, m.kind = .silence on) →
    (x.queue.length < 16 → x.offer m = { x with queue := insertCtl m x.queue }) ∧
    ∀ (before : List CtlMsg) (last : CtlMsg), x.queue = before ++ [last] → 16 ≤ x.queue.length →
      ((last.kind = .laserOff ∨ ∃ on, last.kind = .silence on) → (m.kind = .laserOff → ∀ y ∈ x.held, ¬ (y.kind = .laserOff ∧ y.tag = m.tag)) →
        x.offer m = { x with held := x.held ++ [m] }) ∧
      ((last.kind = .laserOn ∨ (∃ id, last.kind = .tagAssign id) ∨ ∃ eq src, last.kind = .delaySet eq src) →
        x.offer m = { x with queue := insertCtl m before, lostMessages := min 65535 (x.lostMessages + 1)
                             held := x.held ++ [{ last with count := 0, awaited := false }] }) ∧
      (last.kind = .drop →
        ∃ y : TreeLine, x.offer m = y ∧ y = { x with queue := insertCtl m before, lostMessages := min 65535 (x.lostMessages + 1), tags := y.tags } ∧
          ∀ tag, y.place tag = if tag = last.tag ∧ x.place tag = some .draining then some .free else x.place tag)) ∧
  ∀ (s : State) (t : Tree) (place : Nat) (m : CtlMsg), (s.tree t).held[place]? = some m →
    let taken (queue : List CtlMsg) : State :=
      { s with out := [], trees := s.trees.set t.idx { s.tree t with queue := queue, held := (s.tree t).held.eraseIdx place } }
    (s.reasonStands t m = true → (m.kind = .drop ∨ m.kind = .laserOn ∨ ∃ id, m.kind = .tagAssign id) →
      exec (.controlMessageReoffer t place) s =
        .next (if (s.tree t).queue.length < 16 then taken ((s.tree t).queue ++ [m]) else { s with out := [] })) ∧
    (s.reasonStands t m = true → (m.kind = .laserOff ∨ ∃ on, m.kind = .silence on) → (s.tree t).queue.length < 16 →
      ((∃ on, m.kind = .silence on) → ∀ y ∈ (s.tree t).held.take place, ¬ (y.tag = m.tag ∧ ∃ on, y.kind = .silence on)) →
      exec (.controlMessageReoffer t place) s = .next (taken (insertCtl m (s.tree t).queue))) ∧
    (∀ (eq0 eq : Nat) (src : DelaySource) (h : HomeIndex), s.reasonStands t m = true → m.kind = .delaySet eq0 src →
      (s.tree t).place m.tag = some (.held h) → (s.home h).eq = some eq → (s.tree t).queue.length < 16 →
      (∀ y ∈ (s.tree t).queue, y.delaySetFor m.tag = false) →
      exec (.controlMessageReoffer t place) s = .next (taken ((s.tree t).queue ++ [{ m with kind := .delaySet eq src }]))) ∧
    (m.kind = .laserOn → (∀ h, (s.tree t).place m.tag = some (.held h) → (s.home h).state ≠ .measuring) →
      exec (.controlMessageReoffer t place) s = .next (taken (s.tree t).queue))

/-- Tier 1. HELD_FRAME_REOFFER (R55, R91, R98, R160, R168): a kept CLAIM, SHARE, OVERCOMMIT or HOLD_FULL joins the transmit queue as a routine frame when there is room, its content as built, and is held no more (of two CLAIMs kept, assumption 32, one); with no room it stays held and nothing
changes. No SHARE of this station stands in the queue. -/
def Obligations.HeldFramesOfferedAgain : Prop :=
  ∀ s : State,
    (∀ (h : HomeIndex) (id : Identity) (t : Tree) (k : ClaimContext), (s.home h).claim = some k → 0 < k.held → (s.home h).identity = some id →
      (s.home h).tree = some t →
      (s.link.roomFor false = true → exec (.heldFrameReoffer (.claim h)) s =
        .next { s with homes := s.homes.set h { s.home h with claim := some { k with held := k.held - 1 } }
                       link := s.link.take ⟨31, .claim id t h, false⟩, out := [] }) ∧
      (s.link.roomFor false = false → exec (.heldFrameReoffer (.claim h)) s = .next { s with out := [] })) ∧
    (∀ f d, s.share.heldNotice = some (f, d) → (∀ x ∈ s.link.frames, x.content.isShare = false) →
      (s.link.roomFor false = true → exec (.heldFrameReoffer .share) s =
        .next { s with share := { s.share with heldNotice := none }, link := s.link.take ⟨31, .share f d, false⟩, out := [] }) ∧
      (s.link.roomFor false = false → exec (.heldFrameReoffer .share) s = .next { s with out := [] })) ∧
    (∀ c fSum n, s.share.heldOvercommit = some (c, fSum, n) →
      (s.link.roomFor false = true → exec (.heldFrameReoffer .overcommit) s =
        .next { s with share := { s.share with heldOvercommit := none }, link := s.link.take ⟨31, .event (.overcommit c fSum n), false⟩
                       out := [] }) ∧
      (s.link.roomFor false = false → exec (.heldFrameReoffer .overcommit) s = .next { s with out := [] })) ∧
    (∀ depth head tail, s.meter.heldFull = some (depth, head, tail) →
      (s.link.roomFor false = true → exec (.heldFrameReoffer .holdFull) s =
        .next { s with meter := { s.meter with heldFull := none }, link := s.link.take ⟨31, .event (.holdFull depth head tail), false⟩
                       out := [] }) ∧
      (s.link.roomFor false = false → exec (.heldFrameReoffer .holdFull) s = .next { s with out := [] }))

/-- Tier 2. SHARE_PERIOD_END when one is due (R89, R90, R93, R95, R96): F is the sum of g over the homes in service, D the demand sum over 500, which restarts; in RUN, E is 32 and the mark is set when the floors reach C, else E is the clamped
spare or proportional share; every live place is aged by 1 and one whose age reaches 3 becomes absent. In WAIT_CONFIG E stands. In RUN the SHARE notice of F and D takes the place and the attempt count of a SHARE that waits (R169), or joins the transmit queue, or is held when there is no room (R91), and a newly set mark sends OVERCOMMIT behind it (R98).
That one is due is the model's own mark (assumption 6); that of several SHAREs that wait the foremost gives the place and the count, and the others are discarded, is its choice (assumption 39). -/
def Obligations.SharePeriodComputes : Prop :=
  ∀ s : State, s.clock.shareDue = true → ∃ s' : State, exec .sharePeriodEnd s = .next s' ∧
    s' = { s with clock := { s.clock with shareDue := false }, share := s'.share, link := s'.link, demandSum := 0, out := [] } ∧
    s'.share.fSelf = ((homeIndexes.map fun h => if inService (s.home h).state then (s.home h).g else 0).sum) ∧
    s'.share.dSelf = s.demandSum / 500 ∧
    (∀ i : Station, s'.share.peers[i] = match (s.share.peers[i] : Option Peer) with
      | some p => if p.age ≤ 1 then some { p with age := p.age + 1 } else none
      | none => none) ∧
    (s.config = none → s'.share.e = s.share.e ∧ s'.link = s.link) ∧
    ∀ c, s.config = some c →
      let fSum := s'.share.fSelf + ((s.share.live.map Peer.f).sum)
      let dSum := s'.share.dSelf + ((s.share.live.map Peer.d).sum)
      let n := s.share.live.length + 1
      s'.share.fSum = fSum ∧ s'.share.dSum = dSum ∧ s'.share.n = n ∧
      (c.capacity ≤ fSum → s'.share.e = 32 ∧ s'.share.overCommitted = true ∧ s'.share.s = 0) ∧
      (fSum < c.capacity → s'.share.overCommitted = false ∧ s'.share.s = c.capacity - fSum ∧
        s'.share.e = max 32 (min 8000 (if dSum ≤ c.capacity - fSum then s'.share.dSelf + (c.capacity - fSum - dSum) / n
          else (c.capacity - fSum) * s'.share.dSelf / dSum))) ∧
      s'.share = { s'.share with recorded := s.share.recorded, ignored := s.share.ignored } ∧
      let notice : Frame := ⟨31, .share s'.share.fSelf s'.share.dSelf, false⟩
      let queued (l : Link) : Prop := s'.link = l ∧ s'.share.heldNotice = none
      let held : Prop := s'.link = s.link ∧ s'.share.heldNotice = some (s'.share.fSelf, s'.share.dSelf)
      (fSum < c.capacity ∨ s.share.overCommitted = true →
        s'.share.heldOvercommit = s.share.heldOvercommit ∧
        ((∀ x ∈ s.link.waiting, x.content.isShare = false) → (∀ f a, s.link.current = some (f, a) → f.content.isShare = true → s.link.onLine = true) →
          (s.link.roomFor false = true → queued (s.link.take notice)) ∧ (s.link.roomFor false = false → held)) ∧
        (∀ (f : Frame) (a : Nat), s.link.current = some (f, a) → f.content.isShare = true → s.link.onLine = false →
          queued { s.link with current := some ({ f with content := notice.content }, a)
                               waiting := s.link.waiting.filter fun x => x.content.isShare = false }) ∧
        (∀ (before after : List Frame) (f : Frame), s.link.waiting = before ++ f :: after → (∀ x ∈ before, x.content.isShare = false) →
          f.content.isShare = true → (∀ g a, s.link.current = some (g, a) → g.content.isShare = true → s.link.onLine = true) →
          queued { s.link with waiting := before ++ { f with content := notice.content } :: after.filter fun x => x.content.isShare = false })) ∧
      ((∀ x ∈ s.link.frames, x.content.isShare = false) → c.capacity ≤ fSum → s.share.overCommitted = false → s.share.heldOvercommit = none →
        s.link.total ≤ 10 → s.link.routine ≤ 6 →
        s'.share.heldNotice = none ∧ s'.share.heldOvercommit = none ∧
        s'.link = (s.link.take notice).take ⟨31, .event (.overcommit c.capacity fSum n), false⟩)

/-- Tier 1. PERIOD_CLOSE of a close that has fired at moment m (R17, R144, R153, R154, R156): a home in SOAKING, ONLINE, LOST or ISOLATED with no bank waiting has its banks swapped at m, its residues and pending carried and its discarded count closed; one
with a bank waiting, and a MEASURING or CLOSING entry, has its spans raised; a FORWARD entry's retention falls; other entries stand. The swaps skipped are counted (R154). The emission walk is woken, and the next close moment is computed once more from the
clock as it stands (the model's reading, assumption 21).
The closes fired and not yet taken are the model's own mark (assumption 6). -/
def Obligations.PeriodCloses : Prop :=
  ∀ (s : State) (m : Moment) (rest : List Moment), s.cal.closesFired = m :: rest → ∃ s' : State, exec .periodClose s = .next s' ∧
    s' = { s with homes := s'.homes, cal := { s.cal with closesFired := rest, nextClose := some (closeAfter s.cal.now s.cal.closeTime) },
                  meter := { s.meter with
                    skippedSwaps := min 65535 (s.meter.skippedSwaps +
                      homeIndexes.countP (fun h => bankSwaps (s.home h).state && (s.home h).closedWaiting)) },
                  emission := wokenWalk s.emission, out := [] } ∧
    ∀ h,
      (bankSwaps (s.home h).state = true → (s.home h).closedWaiting = false →
        (s'.home h).otherBank = { (s.home h).openBank with
          periodEnd := some m, pendingOut := some (s.home h).pending.sum, discarded := some (s.home h).discarded
          upResidue := ⟨0, 0, 0, 0⟩, downResidue := ⟨0, 0, 0, 0⟩ } ∧
        (s'.home h).openBank = { Bank.cleared with
          periodStart := some m, upResidue := (s.home h).openBank.upResidue, downResidue := (s.home h).openBank.downResidue
          pendingIn := (s.home h).pending.sum, isolatedInPeriod := decide ((s.home h).state = .isolated) } ∧
        s'.home h = { s.home h with
          closedWaiting := true, discarded := 0, secondOpen := !(s.home h).secondOpen, bankA := (s'.home h).bankA, bankB := (s'.home h).bankB }) ∧
      ((bankSwaps (s.home h).state = true ∧ (s.home h).closedWaiting = true) ∨ (s.home h).state = .measuring ∨ (s.home h).state = .closing →
        s'.home h = (s.home h).onOpen fun b => { b with spans := min 255 (b.spans + 1) }) ∧
      ((s.home h).state = .forward → s'.home h = { s.home h with retention := (s.home h).retention - 1 }) ∧
      ((s.home h).state = .free ∨ (s.home h).state = .claiming → s'.home h = s.home h)

/-! ## Bursts, zones, quiet windows and packets -/

/-- Tier 2. BURST_RECEIVED for the next window of a tree's active map, its guard block dark (R30, R31, R32, R36 to R38, R69). Without light, an effective home's missed count rises, holding at 8, and an ONLINE home that reaches 8 is LOST with its timer 0; that a window without a lit block has no light whatever head
was found beside it is the model's choice (assumption 28). A bad
burst raises the tree's counter and changes no home. A good burst of an ONLINE home at offset 0, without payload, near its level, clears missed and since, records its report and moves its level estimate.
That a burst with a byte count of 0 delivers nothing and is no bad payload, whatever follows its head, is the model's reading (assumption 12), and the count of windows taken and the last block lit are its own marks (assumption 6). -/
def Obligations.BurstsJudged : Prop :=
  ∀ (s : State) (c : Config) (t : Tree) (b : BurstRx) (w : Window), s.config = some c → (s.tree t).active.windows[(s.tree t).windowsTaken]? = some w →
    (b.levels.getD 0 0).toNat < 8 →
    let taken : TreeLine := { s.tree t with windowsTaken := (s.tree t).windowsTaken + 1, lastBlockLit := litAt (b.levels.getLastD 0) }
    ((∀ l ∈ b.levels, l.toNat < 8) → inService (s.home w.home).state = true → (s.home w.home).silence = .none →
      exec (.burstReceived t b) s =
        .next { s with out := [], trees := s.trees.set t.idx taken
                       homes := s.homes.set w.home
                         (if (s.home w.home).state = .online ∧ 7 ≤ (s.home w.home).missed
                          then { s.home w.home with missed := 8, state := .lost, lostTimer := 0 }
                          else { s.home w.home with missed := min 8 ((s.home w.home).missed + 1) }) }) ∧
    ((∃ l ∈ b.levels, 8 ≤ l.toNat) → b.head = none →
      exec (.burstReceived t b) s =
        .next { s with out := [], trees := s.trees.set t.idx { taken with badBursts := min 65535 ((s.tree t).badBursts + 1) } }) ∧
    (∀ (bytes : List Byte) (head : Head), (∃ l ∈ b.levels, 8 ≤ l.toNat) → b.head = some (0, bytes) → readHead bytes = some head → head.tag = w.tag →
      head.bytes = 0 → (s.home w.home).state = .online → (s.home w.home).silence = .none → -16 < (s.home w.home).drift →
      (s.home w.home).drift < 16 → burstLevel b.head0 b.head1 ≤ (s.home w.home).level / 16 + c.overlap →
      exec (.burstReceived t b) s =
        .next { s with out := [], trees := s.trees.set t.idx taken
                       homes := s.homes.set w.home
                         ({ s.home w.home with
                           missed := 0, report := head.report, since := 0
                           level := moveLevel (s.home w.home).level (burstLevel b.head0 b.head1) c.kOnline }.deliver
                             s.cal.band 0) })

/-- A good burst of the next window of a tree's active map (R30): its guard block dark and some block lit, its head found in the search span with a correct check and the window's tag, its home in service and not silenced. -/
structure Sys2Proof.GoodBurst (s : State) (c : Config) (t : Tree) (b : BurstRx) (w : Window) (δ : Int) (head : Head) : Prop where
  config : s.config = some c
  window : (s.tree t).active.windows[(s.tree t).windowsTaken]? = some w
  guard : (b.levels.getD 0 0).toNat < 8
  lit : ∃ l ∈ b.levels, 8 ≤ l.toNat
  found : ∃ bytes, b.head = some (δ, bytes) ∧ readHead bytes = some head
  span : -64 ≤ δ ∧ δ ≤ 63
  tag : head.tag = w.tag
  served : inService (s.home w.home).state = true ∧ (s.home w.home).silence = .none

/-- The tree after its next window has been received. -/
def Sys2Proof.windowTaken (x : TreeLine) (b : BurstRx) : TreeLine :=
  { x with windowsTaken := x.windowsTaken + 1, lastBlockLit := litAt (b.levels.getLastD 0) }

/-- A home after the payload of its good burst (R32, step 2): the bytes of its packets delivered, or nothing. -/
def Sys2Proof.paid (x : Home) (band : Band) : Option (List (List Byte)) → Home
  | some packets => x.deliver band (packets.map List.length).sum
  | none => x

/-- Tier 2. Good bursts and the evidence of bursts. The packets of a good payload go to the payload port in order and are metered, into the band meters of a home whose score is below 32 and into pending for a watched one; a bad payload is counted (R32, R107, R149, R150). A SOAKING or ONLINE home's missed count and since
are cleared, its report recorded and its level moved (R36); an offset of −2 to +2 joins the drift accumulator, and a sum of 16 either way moves EQ by one against it with a DELAY-SET, within EQ's range and while the control queue has room (R37). A LOST home within the drift limit returns to ONLINE, and beyond it goes to
MEASURING in SAMPLING, charged DRIFT (R39). Beyond the drift limit the home is charged DRIFT (R102), and a level more than the overlap margin above the estimate is OVERLAP for the tree (R104). A lit guard block is OVERRUN of an adjacent earlier window lit to its end, else EARLY (R35, R101); the charge raises the score of a
home in service, MEASURING or ISOLATED and is discarded for another (R100), and at 192 isolates a home in service (R108, R109).
The marks of what has been received of a round are the model's own (assumption 6); a burst without payload is no bad payload by its reading (assumption 12), as are the bytes counted (assumption 13). That EQ at its limit leaves the accumulator as it stood even where the control queue has no room either is the model's choice (assumption 37), and so is that the soak countdown and attempts used of an isolated home stand as they stood (assumption 40). -/
def Obligations.GoodBurstsAndEvidence : Prop :=
  (∀ (s : State) (c : Config) (t : Tree) (b : BurstRx) (w : Window) (δ : Int) (head : Head), GoodBurst s c t b w δ head → 2 ≤ c.drift →
    let x := s.home w.home
    let m := burstLevel b.head0 b.head1
    let packets := burstPackets b head.bytes w.payload
    let line : TreeLine := { windowTaken (s.tree t) b with
      badPayloads := if packets.isNone then min 65535 ((s.tree t).badPayloads + 1) else (s.tree t).badPayloads }
    let out := (packets.getD []).map fun p => Output.upstreamPacket w.home p
    let gives (y : Home) (u : TreeLine) : Prop :=
      exec (.burstReceived t b) s = .next { s with homes := s.homes.set w.home y, trees := s.trees.set t.idx u, out := out }
    (x.state = .soaking ∨ x.state = .online →
      let y : Home := { paid { x with missed := 0, report := head.report, since := 0 } s.cal.band packets with
        level := moveLevel x.level m (if x.state = .soaking then 2 else c.kOnline) }
      (m ≤ x.level / 16 + c.overlap →
        (2 < δ.natAbs → δ.natAbs ≤ c.drift → gives y line) ∧
        (δ.natAbs ≤ 2 → (x.drift + δ).natAbs < 16 → gives { y with drift := x.drift + δ } line) ∧
        (∀ eq tag : Nat, δ.natAbs ≤ 2 → x.eq = some eq → x.tag = some tag →
          (16 ≤ x.drift + δ →
            (eq = 0 → gives y line) ∧
            (0 < eq → (s.tree t).delayRoom tag = true →
              gives { y with eq := some (eq - 1), drift := 0 } (line.offer ⟨.delaySet (eq - 1) .drift, tag, 0, false⟩)) ∧
            (0 < eq → (s.tree t).delayRoom tag = false → gives { y with drift := 15 } line)) ∧
          (x.drift + δ ≤ -16 →
            (7920 ≤ eq → gives y line) ∧
            (eq < 7920 → (s.tree t).delayRoom tag = true →
              gives { y with eq := some (eq + 1), drift := 0 } (line.offer ⟨.delaySet (eq + 1) .drift, tag, 0, false⟩)) ∧
            (eq < 7920 → (s.tree t).delayRoom tag = false → gives { y with drift := -15 } line))) ∧
        (c.drift < δ.natAbs → x.score < 184 →
          gives { y with score := min 255 (x.score + 8) } { line with drifts := min 65535 ((s.tree t).drifts + 1) })) ∧
      (x.level / 16 + c.overlap < m → 2 < δ.natAbs → δ.natAbs ≤ c.drift →
        ((s.tree t).search.running = true → gives y { line with overlaps := min 65535 ((s.tree t).overlaps + 1) }) ∧
        ((s.tree t).search.running = false → ((s.tree t).darkCounter < 14 ∨ 0 < (s.tree t).holdOff) →
          gives y { line with overlaps := min 65535 ((s.tree t).overlaps + 1), darkCounter := min 255 ((s.tree t).darkCounter + 2) }))) ∧
    (x.state = .lost → m ≤ x.level / 16 + c.overlap →
      (δ.natAbs ≤ c.drift →
        gives { paid { x with missed := 0, report := head.report, since := 0 } s.cal.band packets with
          level := moveLevel x.level m c.kOnline, state := .online, lostTimer := 0 } line) ∧
      (c.drift < δ.natAbs → x.score < 184 →
        gives { paid { x with missed := 0 } s.cal.band packets with
          score := min 255 (x.score + 8), state := .measuring, phase := some .sampling, attempts := 0, samples := [], report := 0, since := 0
          deferred := false, soak := 0, lostTimer := 0, claim := none, refresh := none, refreshDue := false }
          { line with drifts := min 65535 ((s.tree t).drifts + 1) }))) ∧
  (∀ (x : Home) (band : Band) (n : Nat),
    (x.score < 32 → x.deliver band n = x.onOpen fun k => k.countUp band n) ∧
    (32 ≤ x.score → x.pending.sum + x.discarded + n ≤ 2 ^ 40 - 1 →
      x.deliver band n = { x with pending := x.pending.set band (x.pending.get band + n) })) ∧
  (∀ (k : Bank) (band : Band) (n : Nat),
    let kb := (k.upResidue.get band + n) / 1000
    let rest := k.upResidue.set band ((k.upResidue.get band + n) % 1000)
    (k.up.get band + kb ≤ 9999999999 → k.countUp band n = { k with up := k.up.set band (k.up.get band + kb), upResidue := rest }) ∧
    (9999999999 < k.up.get band + kb →
      k.countUp band n = { k with up := k.up.set band 9999999999, upResidue := rest, saturated := true
                                  overUp := min (2 ^ 48 - 1) (k.overUp + (k.up.get band + kb - 9999999999)) })) ∧
  ∀ (s : State) (c : Config) (t : Tree) (b : BurstRx) (w : Window) (owner : HomeIndex) (kind : Evidence) (weight : Nat), s.config = some c →
    (s.tree t).active.windows[(s.tree t).windowsTaken]? = some w → 8 ≤ (b.levels.getD 0 0).toNat → 0 < b.levels.length → b.head = none →
    let before : Prop := ∃ v : Window, 0 < (s.tree t).windowsTaken ∧ (s.tree t).active.windows[(s.tree t).windowsTaken - 1]? = some v ∧
      v.start + v.length = w.start ∧ (s.tree t).lastBlockLit = true ∧ b.runsOn = true ∧ owner = v.home
    (before ∧ kind = .overrun ∧ weight = 24) ∨
      ((∀ v : Window, (s.tree t).active.windows[(s.tree t).windowsTaken - 1]? = some v → 0 < (s.tree t).windowsTaken →
        v.start + v.length = w.start → (s.tree t).lastBlockLit = true → b.runsOn = false) ∧ owner = w.home ∧ kind = .early ∧ weight = 16) →
    let x := s.home owner
    let raised : Home := { x with score := min 255 (x.score + weight) }
    let line : TreeLine := { windowTaken (s.tree t) b with badBursts := min 65535 ((s.tree t).badBursts + 1) }
    let judged : State := { s with
      out := []
      trees := s.trees.set t.idx (if weight = 24 then { line with overruns := min 65535 ((s.tree t).overruns + 1) }
        else { line with earlies := min 65535 ((s.tree t).earlies + 1) }) }
    (x.state = .measuring ∨ x.state = .isolated ∨ (inService x.state = true ∧ x.score + weight < 192) →
      exec (.burstReceived t b) s = .next { judged with homes := s.homes.set owner raised }) ∧
    (x.state = .free ∨ x.state = .claiming ∨ x.state = .closing ∨ x.state = .forward →
      exec (.burstReceived t b) s = .next { judged with discardedEvidence := min 65535 (s.discardedEvidence + 1) }) ∧
    (∀ (u : Tree) (tag : Nat), inService x.state = true → 192 ≤ x.score + weight → x.tree = some u → x.tag = some tag →
      (s.tree u).queue.length < 16 → s.link.total < 12 →
      exec (.burstReceived t b) s = .next { judged with
        homes := s.homes.set owner { raised.pendingToDiscarded with
          state := .isolated, report := 0, since := 0, deferred := false, missed := 0, lostTimer := 0, refresh := some 0, refreshDue := false }
        trees := judged.trees.set u.idx { judged.tree u with
          isolations := min 65535 ((s.tree u).isolations + 1), queue := insertCtl ⟨.laserOff, tag, 0, false⟩ (s.tree u).queue }
        link := s.link.take ⟨31, .event (.isolated owner x.identity x.account (some u) (some tag) raised.score .score (some kind)), false⟩ })

/-- Tier 2. ZONE_RECEIVED, once per round (R33, R46, R47, R63, R64). A DISCOVER zone fills the capture list anew with its first four distinct clean identities, counts the other clean bursts as extra and the garbled ones as collisions; of the
captures the barred are counted, the others join the search queue in order while it holds fewer than 6, and the rest are dropped and counted (R20). A MEASURE zone without its sample (no head with the zone's tag within the zone; a report above 8191 makes no head,
assumption 29, and of several heads the first counts, assumption 5) fails the attempt of its SAMPLING candidate, and the fourth failure sends a home with meters to LOST (R65), as a sample out of reach does at once; a new home is freed, its tag drains, the unknown list takes its identity, and an admission
entry of it joins a list with room that does not hold it. A first or second sample joins the others; a third that agrees with the two before it is accepted: EQ is the reach
less the median offset, the level estimate 16 times its level, and the entry is SETTING behind its DELAY-SET; one that does not agree fails the attempt. A zone whose candidate is no longer in SAMPLING changes no home (R45).
That the round's zone has been taken is the model's own mark (assumption 6); that attempts used and the samples of a home that goes to LOST stand as they stood is its choice (assumption 40). -/
def Obligations.ZonesReceived : Prop :=
  ∀ (s : State) (t : Tree) (z : ZoneRx) (len : Nat), (s.tree t).zoneTaken = false →
    ((s.tree t).active.zone = some ⟨.discover, len⟩ →
      let clean := z.bursts.filterMap zoneIdentity
      let captures := clean.reverse.dedup.reverse.take 4
      let open' := captures.filter fun id => id ∉ s.enrol.barred
      let room := 6 - s.walks.length
      exec (.zoneReceived t z) s =
        .next { s with
          trees := s.trees.set t.idx { s.tree t with zoneTaken := true, captures := captures }
          enrol := { s.enrol with
            collisions := min 65535 (s.enrol.collisions + (z.bursts.length - clean.length))
            extraCaptures := min 65535 (s.enrol.extraCaptures + (clean.length - captures.length))
            barredCaptures := if open' = captures then s.enrol.barredCaptures
              else min 65535 (s.enrol.barredCaptures + (captures.length - open'.length)) }
          walks := s.walks ++ (open'.take room).map fun id => ⟨.capture t, id, 0, 128⟩
          walkDrops := if open'.length ≤ room then s.walkDrops else min 65535 (s.walkDrops + (open'.length - room))
          out := [] }) ∧
    (∀ (h : HomeIndex) (tag : Nat), (s.tree t).active.zone = some ⟨.measure h tag, len⟩ →
      let taken : State := { s with out := [], trees := s.trees.set t.idx { s.tree t with zoneTaken := true } }
      ((s.home h).phase ≠ some .sampling → exec (.zoneReceived t z) s = .next taken) ∧
      ((s.home h).state = .measuring → (s.home h).tree = some t → (s.home h).phase = some .sampling → (s.home h).tag = some tag →
        (zoneSample z.heads tag len = none → (s.home h).attempts < 3 →
          exec (.zoneReceived t z) s =
            .next { taken with homes := s.homes.set h { s.home h with samples := [], attempts := (s.home h).attempts + 1 } }) ∧
        (∀ (id : Identity) (reason : UnknownReason), (s.home h).eq = none → (s.home h).identity = some id → (s.tree t).place tag = some (.held h) →
          ((zoneSample z.heads tag len = none ∧ (s.home h).attempts = 3 ∧ reason = .noReply) ∨
            ((∃ x, zoneSample z.heads tag len = some x ∧ (len - 8) * 8 < x.offset) ∧ reason = .outOfReach)) →
          ∃ s' : State, exec (.zoneReceived t z) s = .next s' ∧ TagDrained (s.tree t) (s'.tree t) tag ∧
            s'.tree t = { s.tree t with zoneTaken := true, pool := (s.tree t).pool - (s.home h).g, tags := (s'.tree t).tags
                                        queue := (s'.tree t).queue, held := (s'.tree t).held } ∧
            (∀ u, u ≠ t → s'.tree u = s.tree u) ∧
            s' = { s with
              trees := s'.trees
              homes := s.homes.set h Home.free
              forwardList := s.forwardList.filter fun i => i ≠ h
              enrol := { s.enrol.takeUnknown id t reason with admission :=
                if s.enrol.admission.length < 32 ∧ ∀ a ∈ s.enrol.admission, a.identity ≠ id
                then s.enrol.admission ++ [⟨id, (s.home h).account.getD 0, (s.home h).g, (s.home h).p⟩] else s.enrol.admission }
              out := [] }) ∧
        (zoneSample z.heads tag len = none → (s.home h).attempts = 3 → (s.home h).eq.isSome = true →
          exec (.zoneReceived t z) s =
            .next { taken with
              homes := s.homes.set h { s.home h with samples := [], attempts := 4, state := .lost, lostTimer := 0, phase := none } }) ∧
        (∀ x : Sample, zoneSample z.heads tag len = some x →
          ((len - 8) * 8 < x.offset → (s.home h).eq.isSome = true →
            exec (.zoneReceived t z) s =
              .next { taken with homes := s.homes.set h { s.home h with state := .lost, lostTimer := 0, phase := none } }) ∧
          (x.offset ≤ (len - 8) * 8 → (s.home h).samples.length < 2 →
            exec (.zoneReceived t z) s =
              .next { taken with homes := s.homes.set h { s.home h with samples := (s.home h).samples ++ [x] } }) ∧
          (∀ a b : Sample, x.offset ≤ (len - 8) * 8 → (s.home h).samples = [a, b] →
            ((∃ p ∈ [a, b, x], ∃ q ∈ [a, b, x], q.offset + 2 < p.offset) → (s.home h).attempts < 3 →
              exec (.zoneReceived t z) s =
                .next { taken with homes := s.homes.set h { s.home h with samples := [], attempts := (s.home h).attempts + 1 } }) ∧
            (∀ med : Sample, (∀ p ∈ [a, b, x], ∀ q ∈ [a, b, x], p.offset ≤ q.offset + 2) → medianSample [a, b, x] = some med →
              (s.tree t).queue.length < 16 → (∀ m ∈ (s.tree t).queue, m.delaySetFor tag = false) →
              exec (.zoneReceived t z) s =
                .next { s with
                  out := []
                  trees := s.trees.set t.idx { s.tree t with
                    zoneTaken := true, queue := (s.tree t).queue ++ [⟨.delaySet ((len - 8) * 8 - med.offset) .enrollment, tag, 0, false⟩] }
                  homes := s.homes.set h { s.home h with
                    eq := some ((len - 8) * 8 - med.offset), level := 16 * med.level, drift := 0, attempts := 0, samples := []
                    phase := some .setting } })))))

/-- Tier 1. QUIET_WINDOW_MEASURED of a reserved quiet window (R34, R105, R113, R114, R123, R124). With no search, a level below the dark threshold is not handed on, and one at or above it is DARK: its counter rises and the dark counter by 4, saturating at 255, with no search
started while the counter stays below 16 or the hold-off runs. During a search, a SETTLING probe observes nothing and an OBSERVING one counts the observation.
That the round's quiet window has been taken is the model's own mark (assumption 6). -/
def Obligations.QuietWindowsJudged : Prop :=
  ∀ (s : State) (c : Config) (t : Tree) (level : Byte), s.config = some c → (s.tree t).active.quiet = true → (s.tree t).quietTaken = false →
    ((s.tree t).search.running = false → level.toNat < c.dark →
      exec (.quietWindowMeasured t level) s =
        .next { s with out := [], trees := s.trees.set t.idx { s.tree t with quietTaken := true } }) ∧
    ((s.tree t).search.running = false → c.dark ≤ level.toNat → ((s.tree t).darkCounter < 12 ∨ 0 < (s.tree t).holdOff) →
      exec (.quietWindowMeasured t level) s =
        .next { s with out := [], trees := s.trees.set t.idx { s.tree t with
          quietTaken := true, darks := min 65535 ((s.tree t).darks + 1), darkCounter := min 255 ((s.tree t).darkCounter + 4) } }) ∧
    ((s.tree t).search.running = true → (s.tree t).search.phase = .settling →
      exec (.quietWindowMeasured t level) s =
        .next { s with out := [], trees := s.trees.set t.idx { s.tree t with quietTaken := true } }) ∧
    ((s.tree t).search.running = true → (s.tree t).search.phase = .observing → (s.tree t).search.observations < 2 →
      exec (.quietWindowMeasured t level) s =
        .next { s with out := [], trees := s.trees.set t.idx { s.tree t with
          quietTaken := true
          search := { (s.tree t).search with observations := (s.tree t).search.observations + 1
                                             dark := (s.tree t).search.dark + if c.dark ≤ level.toNat then 1 else 0 } } })

/-- Tier 2. The four search contexts are independent (chapter 7): a quiet window measured on one tree, whatever verdict, isolation or end of search it leads to, always completes, leaves every other tree and every entry of other trees as they stand, and touches
nothing but homes, trees and the link controller. -/
def Obligations.QuietWindowStaysOnItsTree : Prop :=
  ∀ (s : State) (t : Tree) (level : Byte), ∃ s' : State, exec (.quietWindowMeasured t level) s = .next s' ∧
    (∀ u, u ≠ t → s'.tree u = s.tree u) ∧ (∀ h, (s.home h).tree ≠ some t → s'.home h = s.home h) ∧
    s' = { s with homes := s'.homes, trees := s'.trees, link := s'.link, out := [] }

/-- Tier 1. DOWNSTREAM_PACKET (R40, R149): a packet for a home in SOAKING, ONLINE or LOST on a RUNNING tree goes out on that tree and its bytes are counted into the open bank under the band in force; any other, an index above 127 among them, is dropped and
counted. -/
def Obligations.DownstreamForwardedOrRefused : Prop :=
  ∀ (s : State) (packet : List Byte),
    (∀ (h : HomeIndex) (t : Tree), (s.home h).tree = some t → inService (s.home h).state = true → (s.tree t).running = true →
      exec (.downstreamPacket h.val packet) s =
        .next { s with homes := s.homes.set h ((s.home h).onOpen fun b => b.countDown s.cal.band packet.length)
                       out := [.downstreamPacket t h packet] }) ∧
    (∀ n : Nat, (∀ h : HomeIndex, h.val = n → inService (s.home h).state = true → ∀ t, (s.home h).tree = some t → (s.tree t).running = false) →
      exec (.downstreamPacket n packet) s = .next { s with refusedDownstream := min 65535 (s.refusedDownstream + 1), out := [] })

end Statements
end

