-- ==== Sys2Proof/Laws/State.lean ====
section
/-! SUPPORT. One lemma per field per update of the state, and what reading a home or a tree gives after an update. -/

namespace Sys2Proof.Machine

/-! ### Four-place tables -/

@[simp] theorem Quad_get_set {α : Type} (q : Quad α) (i j : Fin 4) (x : α) : (q.set i x).get j = if j = i then x else q.get j := by
  fin_cases i <;> fin_cases j <;> rfl

theorem Tree_idx_inj {t t' : Tree} : t.idx = t'.idx ↔ t = t' := by cases t <;> cases t' <;> decide

@[simp] theorem Quad_get_map {α β : Type} (f : α → β) (q : Quad α) (i : Fin 4) : (q.map f).get i = f (q.get i) := by
  fin_cases i <;> rfl

theorem Quad_ext {α : Type} {p q : Quad α} (h : ∀ i, p.get i = q.get i) : p = q := by
  have h0 := h 0; have h1 := h 1; have h2 := h 2; have h3 := h 3
  cases p; cases q; simp_all [Quad.get]

/-! ### Reading a home or a tree after writing it -/

@[simp] theorem State.setHome_home (s : State) (h i : HomeIndex) (x : Home) : (s.setHome h x).home i = if i = h then x else s.home i := by
  by_cases hi : i = h
  · subst hi; simp [State.home, State.setHome]
  · have : h.val ≠ i.val := fun e => hi (Fin.ext e.symm)
    simp [State.home, State.setHome, hi, this]

@[simp] theorem State.onHome_home (s : State) (h i : HomeIndex) (f : Home → Home) :
    (s.onHome h f).home i = if i = h then f (s.home h) else s.home i := by simp [State.onHome]

@[simp] theorem State.mapHomes_home (s : State) (f : HomeIndex → Home → Home) (i : HomeIndex) :
    (s.mapHomes f).home i = f i (s.home i) := by
  simp [State.home, State.mapHomes]

@[simp] theorem State.setTree_tree (s : State) (t i : Tree) (x : TreeLine) :
    (s.setTree t x).tree i = if i = t then x else s.tree i := by
  simp [State.tree, State.setTree, Tree_idx_inj]

@[simp] theorem State.onTree_tree (s : State) (t i : Tree) (f : TreeLine → TreeLine) :
    (s.onTree t f).tree i = if i = t then f (s.tree t) else s.tree i := by simp [State.onTree]

@[simp] theorem State.mk_home_with_trees (s : State) (q : Quad TreeLine) (i : HomeIndex) : ({ s with trees := q } : State).home i = s.home i := rfl

/-- Two home tables that read alike at every index are the same. -/
theorem homes_ext {v w : Vector Home 128} (h : ∀ i : HomeIndex, v[i] = w[i]) : v = w := by
  apply Vector.ext
  intro i hi
  exact h ⟨i, hi⟩

/-! ### One lemma per untouched field -/

/-! ### setHome -/

@[simp] theorem State.setHome_own (s : State) (h : HomeIndex) (x : Home) : (s.setHome h x).own = s.own := rfl
@[simp] theorem State.setHome_mgt (s : State) (h : HomeIndex) (x : Home) : (s.setHome h x).mgt = s.mgt := rfl
@[simp] theorem State.setHome_config (s : State) (h : HomeIndex) (x : Home) : (s.setHome h x).config = s.config := rfl
@[simp] theorem State.setHome_clock (s : State) (h : HomeIndex) (x : Home) : (s.setHome h x).clock = s.clock := rfl
@[simp] theorem State.setHome_forwardList (s : State) (h : HomeIndex) (x : Home) : (s.setHome h x).forwardList = s.forwardList := rfl
@[simp] theorem State.setHome_walks (s : State) (h : HomeIndex) (x : Home) : (s.setHome h x).walks = s.walks := rfl
@[simp] theorem State.setHome_walkDrops (s : State) (h : HomeIndex) (x : Home) : (s.setHome h x).walkDrops = s.walkDrops := rfl
@[simp] theorem State.setHome_findWalk (s : State) (h : HomeIndex) (x : Home) : (s.setHome h x).findWalk = s.findWalk := rfl
@[simp] theorem State.setHome_trees (s : State) (h : HomeIndex) (x : Home) : (s.setHome h x).trees = s.trees := rfl
@[simp] theorem State.setHome_enrol (s : State) (h : HomeIndex) (x : Home) : (s.setHome h x).enrol = s.enrol := rfl
@[simp] theorem State.setHome_demandSum (s : State) (h : HomeIndex) (x : Home) : (s.setHome h x).demandSum = s.demandSum := rfl
@[simp] theorem State.setHome_eUsed (s : State) (h : HomeIndex) (x : Home) : (s.setHome h x).eUsed = s.eUsed := rfl
@[simp] theorem State.setHome_share (s : State) (h : HomeIndex) (x : Home) : (s.setHome h x).share = s.share := rfl
@[simp] theorem State.setHome_identities (s : State) (h : HomeIndex) (x : Home) : (s.setHome h x).identities = s.identities := rfl
@[simp] theorem State.setHome_discardedEvidence (s : State) (h : HomeIndex) (x : Home) : (s.setHome h x).discardedEvidence = s.discardedEvidence := rfl
@[simp] theorem State.setHome_cal (s : State) (h : HomeIndex) (x : Home) : (s.setHome h x).cal = s.cal := rfl
@[simp] theorem State.setHome_meter (s : State) (h : HomeIndex) (x : Home) : (s.setHome h x).meter = s.meter := rfl
@[simp] theorem State.setHome_emission (s : State) (h : HomeIndex) (x : Home) : (s.setHome h x).emission = s.emission := rfl
@[simp] theorem State.setHome_link (s : State) (h : HomeIndex) (x : Home) : (s.setHome h x).link = s.link := rfl
@[simp] theorem State.setHome_refusedDownstream (s : State) (h : HomeIndex) (x : Home) : (s.setHome h x).refusedDownstream = s.refusedDownstream := rfl
@[simp] theorem State.setHome_out (s : State) (h : HomeIndex) (x : Home) : (s.setHome h x).out = s.out := rfl
@[simp] theorem State.setHome_pending (s : State) (h : HomeIndex) (x : Home) : (s.setHome h x).pending = s.pending := rfl

/-! ### onHome -/

@[simp] theorem State.onHome_own (s : State) (h : HomeIndex) (f : Home → Home) : (s.onHome h f).own = s.own := rfl
@[simp] theorem State.onHome_mgt (s : State) (h : HomeIndex) (f : Home → Home) : (s.onHome h f).mgt = s.mgt := rfl
@[simp] theorem State.onHome_config (s : State) (h : HomeIndex) (f : Home → Home) : (s.onHome h f).config = s.config := rfl
@[simp] theorem State.onHome_clock (s : State) (h : HomeIndex) (f : Home → Home) : (s.onHome h f).clock = s.clock := rfl
@[simp] theorem State.onHome_forwardList (s : State) (h : HomeIndex) (f : Home → Home) : (s.onHome h f).forwardList = s.forwardList := rfl
@[simp] theorem State.onHome_walks (s : State) (h : HomeIndex) (f : Home → Home) : (s.onHome h f).walks = s.walks := rfl
@[simp] theorem State.onHome_walkDrops (s : State) (h : HomeIndex) (f : Home → Home) : (s.onHome h f).walkDrops = s.walkDrops := rfl
@[simp] theorem State.onHome_findWalk (s : State) (h : HomeIndex) (f : Home → Home) : (s.onHome h f).findWalk = s.findWalk := rfl
@[simp] theorem State.onHome_trees (s : State) (h : HomeIndex) (f : Home → Home) : (s.onHome h f).trees = s.trees := rfl
@[simp] theorem State.onHome_enrol (s : State) (h : HomeIndex) (f : Home → Home) : (s.onHome h f).enrol = s.enrol := rfl
@[simp] theorem State.onHome_demandSum (s : State) (h : HomeIndex) (f : Home → Home) : (s.onHome h f).demandSum = s.demandSum := rfl
@[simp] theorem State.onHome_eUsed (s : State) (h : HomeIndex) (f : Home → Home) : (s.onHome h f).eUsed = s.eUsed := rfl
@[simp] theorem State.onHome_share (s : State) (h : HomeIndex) (f : Home → Home) : (s.onHome h f).share = s.share := rfl
@[simp] theorem State.onHome_identities (s : State) (h : HomeIndex) (f : Home → Home) : (s.onHome h f).identities = s.identities := rfl
@[simp] theorem State.onHome_discardedEvidence (s : State) (h : HomeIndex) (f : Home → Home) : (s.onHome h f).discardedEvidence = s.discardedEvidence := rfl
@[simp] theorem State.onHome_cal (s : State) (h : HomeIndex) (f : Home → Home) : (s.onHome h f).cal = s.cal := rfl
@[simp] theorem State.onHome_meter (s : State) (h : HomeIndex) (f : Home → Home) : (s.onHome h f).meter = s.meter := rfl
@[simp] theorem State.onHome_emission (s : State) (h : HomeIndex) (f : Home → Home) : (s.onHome h f).emission = s.emission := rfl
@[simp] theorem State.onHome_link (s : State) (h : HomeIndex) (f : Home → Home) : (s.onHome h f).link = s.link := rfl
@[simp] theorem State.onHome_refusedDownstream (s : State) (h : HomeIndex) (f : Home → Home) : (s.onHome h f).refusedDownstream = s.refusedDownstream := rfl
@[simp] theorem State.onHome_out (s : State) (h : HomeIndex) (f : Home → Home) : (s.onHome h f).out = s.out := rfl
@[simp] theorem State.onHome_pending (s : State) (h : HomeIndex) (f : Home → Home) : (s.onHome h f).pending = s.pending := rfl

/-! ### mapHomes -/

@[simp] theorem State.mapHomes_own (s : State) (f : HomeIndex → Home → Home) : (s.mapHomes f).own = s.own := rfl
@[simp] theorem State.mapHomes_mgt (s : State) (f : HomeIndex → Home → Home) : (s.mapHomes f).mgt = s.mgt := rfl
@[simp] theorem State.mapHomes_config (s : State) (f : HomeIndex → Home → Home) : (s.mapHomes f).config = s.config := rfl
@[simp] theorem State.mapHomes_clock (s : State) (f : HomeIndex → Home → Home) : (s.mapHomes f).clock = s.clock := rfl
@[simp] theorem State.mapHomes_forwardList (s : State) (f : HomeIndex → Home → Home) : (s.mapHomes f).forwardList = s.forwardList := rfl
@[simp] theorem State.mapHomes_walks (s : State) (f : HomeIndex → Home → Home) : (s.mapHomes f).walks = s.walks := rfl
@[simp] theorem State.mapHomes_walkDrops (s : State) (f : HomeIndex → Home → Home) : (s.mapHomes f).walkDrops = s.walkDrops := rfl
@[simp] theorem State.mapHomes_findWalk (s : State) (f : HomeIndex → Home → Home) : (s.mapHomes f).findWalk = s.findWalk := rfl
@[simp] theorem State.mapHomes_trees (s : State) (f : HomeIndex → Home → Home) : (s.mapHomes f).trees = s.trees := rfl
@[simp] theorem State.mapHomes_enrol (s : State) (f : HomeIndex → Home → Home) : (s.mapHomes f).enrol = s.enrol := rfl
@[simp] theorem State.mapHomes_demandSum (s : State) (f : HomeIndex → Home → Home) : (s.mapHomes f).demandSum = s.demandSum := rfl
@[simp] theorem State.mapHomes_eUsed (s : State) (f : HomeIndex → Home → Home) : (s.mapHomes f).eUsed = s.eUsed := rfl
@[simp] theorem State.mapHomes_share (s : State) (f : HomeIndex → Home → Home) : (s.mapHomes f).share = s.share := rfl
@[simp] theorem State.mapHomes_identities (s : State) (f : HomeIndex → Home → Home) : (s.mapHomes f).identities = s.identities := rfl
@[simp] theorem State.mapHomes_discardedEvidence (s : State) (f : HomeIndex → Home → Home) : (s.mapHomes f).discardedEvidence = s.discardedEvidence := rfl
@[simp] theorem State.mapHomes_cal (s : State) (f : HomeIndex → Home → Home) : (s.mapHomes f).cal = s.cal := rfl
@[simp] theorem State.mapHomes_meter (s : State) (f : HomeIndex → Home → Home) : (s.mapHomes f).meter = s.meter := rfl
@[simp] theorem State.mapHomes_emission (s : State) (f : HomeIndex → Home → Home) : (s.mapHomes f).emission = s.emission := rfl
@[simp] theorem State.mapHomes_link (s : State) (f : HomeIndex → Home → Home) : (s.mapHomes f).link = s.link := rfl
@[simp] theorem State.mapHomes_refusedDownstream (s : State) (f : HomeIndex → Home → Home) : (s.mapHomes f).refusedDownstream = s.refusedDownstream := rfl
@[simp] theorem State.mapHomes_out (s : State) (f : HomeIndex → Home → Home) : (s.mapHomes f).out = s.out := rfl
@[simp] theorem State.mapHomes_pending (s : State) (f : HomeIndex → Home → Home) : (s.mapHomes f).pending = s.pending := rfl

/-! ### setTree -/

@[simp] theorem State.setTree_own (s : State) (t : Tree) (x : TreeLine) : (s.setTree t x).own = s.own := rfl
@[simp] theorem State.setTree_mgt (s : State) (t : Tree) (x : TreeLine) : (s.setTree t x).mgt = s.mgt := rfl
@[simp] theorem State.setTree_config (s : State) (t : Tree) (x : TreeLine) : (s.setTree t x).config = s.config := rfl
@[simp] theorem State.setTree_clock (s : State) (t : Tree) (x : TreeLine) : (s.setTree t x).clock = s.clock := rfl
@[simp] theorem State.setTree_homes (s : State) (t : Tree) (x : TreeLine) : (s.setTree t x).homes = s.homes := rfl
@[simp] theorem State.setTree_forwardList (s : State) (t : Tree) (x : TreeLine) : (s.setTree t x).forwardList = s.forwardList := rfl
@[simp] theorem State.setTree_walks (s : State) (t : Tree) (x : TreeLine) : (s.setTree t x).walks = s.walks := rfl
@[simp] theorem State.setTree_walkDrops (s : State) (t : Tree) (x : TreeLine) : (s.setTree t x).walkDrops = s.walkDrops := rfl
@[simp] theorem State.setTree_findWalk (s : State) (t : Tree) (x : TreeLine) : (s.setTree t x).findWalk = s.findWalk := rfl
@[simp] theorem State.setTree_enrol (s : State) (t : Tree) (x : TreeLine) : (s.setTree t x).enrol = s.enrol := rfl
@[simp] theorem State.setTree_demandSum (s : State) (t : Tree) (x : TreeLine) : (s.setTree t x).demandSum = s.demandSum := rfl
@[simp] theorem State.setTree_eUsed (s : State) (t : Tree) (x : TreeLine) : (s.setTree t x).eUsed = s.eUsed := rfl
@[simp] theorem State.setTree_share (s : State) (t : Tree) (x : TreeLine) : (s.setTree t x).share = s.share := rfl
@[simp] theorem State.setTree_identities (s : State) (t : Tree) (x : TreeLine) : (s.setTree t x).identities = s.identities := rfl
@[simp] theorem State.setTree_discardedEvidence (s : State) (t : Tree) (x : TreeLine) : (s.setTree t x).discardedEvidence = s.discardedEvidence := rfl
@[simp] theorem State.setTree_cal (s : State) (t : Tree) (x : TreeLine) : (s.setTree t x).cal = s.cal := rfl
@[simp] theorem State.setTree_meter (s : State) (t : Tree) (x : TreeLine) : (s.setTree t x).meter = s.meter := rfl
@[simp] theorem State.setTree_emission (s : State) (t : Tree) (x : TreeLine) : (s.setTree t x).emission = s.emission := rfl
@[simp] theorem State.setTree_link (s : State) (t : Tree) (x : TreeLine) : (s.setTree t x).link = s.link := rfl
@[simp] theorem State.setTree_refusedDownstream (s : State) (t : Tree) (x : TreeLine) : (s.setTree t x).refusedDownstream = s.refusedDownstream := rfl
@[simp] theorem State.setTree_out (s : State) (t : Tree) (x : TreeLine) : (s.setTree t x).out = s.out := rfl
@[simp] theorem State.setTree_pending (s : State) (t : Tree) (x : TreeLine) : (s.setTree t x).pending = s.pending := rfl

/-! ### onTree -/

@[simp] theorem State.onTree_own (s : State) (t : Tree) (f : TreeLine → TreeLine) : (s.onTree t f).own = s.own := rfl
@[simp] theorem State.onTree_mgt (s : State) (t : Tree) (f : TreeLine → TreeLine) : (s.onTree t f).mgt = s.mgt := rfl
@[simp] theorem State.onTree_config (s : State) (t : Tree) (f : TreeLine → TreeLine) : (s.onTree t f).config = s.config := rfl
@[simp] theorem State.onTree_clock (s : State) (t : Tree) (f : TreeLine → TreeLine) : (s.onTree t f).clock = s.clock := rfl
@[simp] theorem State.onTree_homes (s : State) (t : Tree) (f : TreeLine → TreeLine) : (s.onTree t f).homes = s.homes := rfl
@[simp] theorem State.onTree_forwardList (s : State) (t : Tree) (f : TreeLine → TreeLine) : (s.onTree t f).forwardList = s.forwardList := rfl
@[simp] theorem State.onTree_walks (s : State) (t : Tree) (f : TreeLine → TreeLine) : (s.onTree t f).walks = s.walks := rfl
@[simp] theorem State.onTree_walkDrops (s : State) (t : Tree) (f : TreeLine → TreeLine) : (s.onTree t f).walkDrops = s.walkDrops := rfl
@[simp] theorem State.onTree_findWalk (s : State) (t : Tree) (f : TreeLine → TreeLine) : (s.onTree t f).findWalk = s.findWalk := rfl
@[simp] theorem State.onTree_enrol (s : State) (t : Tree) (f : TreeLine → TreeLine) : (s.onTree t f).enrol = s.enrol := rfl
@[simp] theorem State.onTree_demandSum (s : State) (t : Tree) (f : TreeLine → TreeLine) : (s.onTree t f).demandSum = s.demandSum := rfl
@[simp] theorem State.onTree_eUsed (s : State) (t : Tree) (f : TreeLine → TreeLine) : (s.onTree t f).eUsed = s.eUsed := rfl
@[simp] theorem State.onTree_share (s : State) (t : Tree) (f : TreeLine → TreeLine) : (s.onTree t f).share = s.share := rfl
@[simp] theorem State.onTree_identities (s : State) (t : Tree) (f : TreeLine → TreeLine) : (s.onTree t f).identities = s.identities := rfl
@[simp] theorem State.onTree_discardedEvidence (s : State) (t : Tree) (f : TreeLine → TreeLine) : (s.onTree t f).discardedEvidence = s.discardedEvidence := rfl
@[simp] theorem State.onTree_cal (s : State) (t : Tree) (f : TreeLine → TreeLine) : (s.onTree t f).cal = s.cal := rfl
@[simp] theorem State.onTree_meter (s : State) (t : Tree) (f : TreeLine → TreeLine) : (s.onTree t f).meter = s.meter := rfl
@[simp] theorem State.onTree_emission (s : State) (t : Tree) (f : TreeLine → TreeLine) : (s.onTree t f).emission = s.emission := rfl
@[simp] theorem State.onTree_link (s : State) (t : Tree) (f : TreeLine → TreeLine) : (s.onTree t f).link = s.link := rfl
@[simp] theorem State.onTree_refusedDownstream (s : State) (t : Tree) (f : TreeLine → TreeLine) : (s.onTree t f).refusedDownstream = s.refusedDownstream := rfl
@[simp] theorem State.onTree_out (s : State) (t : Tree) (f : TreeLine → TreeLine) : (s.onTree t f).out = s.out := rfl
@[simp] theorem State.onTree_pending (s : State) (t : Tree) (f : TreeLine → TreeLine) : (s.onTree t f).pending = s.pending := rfl

/-! ### onEnrol -/

@[simp] theorem State.onEnrol_own (s : State) (f : Enrollment → Enrollment) : (s.onEnrol f).own = s.own := rfl
@[simp] theorem State.onEnrol_mgt (s : State) (f : Enrollment → Enrollment) : (s.onEnrol f).mgt = s.mgt := rfl
@[simp] theorem State.onEnrol_config (s : State) (f : Enrollment → Enrollment) : (s.onEnrol f).config = s.config := rfl
@[simp] theorem State.onEnrol_clock (s : State) (f : Enrollment → Enrollment) : (s.onEnrol f).clock = s.clock := rfl
@[simp] theorem State.onEnrol_homes (s : State) (f : Enrollment → Enrollment) : (s.onEnrol f).homes = s.homes := rfl
@[simp] theorem State.onEnrol_forwardList (s : State) (f : Enrollment → Enrollment) : (s.onEnrol f).forwardList = s.forwardList := rfl
@[simp] theorem State.onEnrol_walks (s : State) (f : Enrollment → Enrollment) : (s.onEnrol f).walks = s.walks := rfl
@[simp] theorem State.onEnrol_walkDrops (s : State) (f : Enrollment → Enrollment) : (s.onEnrol f).walkDrops = s.walkDrops := rfl
@[simp] theorem State.onEnrol_findWalk (s : State) (f : Enrollment → Enrollment) : (s.onEnrol f).findWalk = s.findWalk := rfl
@[simp] theorem State.onEnrol_trees (s : State) (f : Enrollment → Enrollment) : (s.onEnrol f).trees = s.trees := rfl
@[simp] theorem State.onEnrol_demandSum (s : State) (f : Enrollment → Enrollment) : (s.onEnrol f).demandSum = s.demandSum := rfl
@[simp] theorem State.onEnrol_eUsed (s : State) (f : Enrollment → Enrollment) : (s.onEnrol f).eUsed = s.eUsed := rfl
@[simp] theorem State.onEnrol_share (s : State) (f : Enrollment → Enrollment) : (s.onEnrol f).share = s.share := rfl
@[simp] theorem State.onEnrol_identities (s : State) (f : Enrollment → Enrollment) : (s.onEnrol f).identities = s.identities := rfl
@[simp] theorem State.onEnrol_discardedEvidence (s : State) (f : Enrollment → Enrollment) : (s.onEnrol f).discardedEvidence = s.discardedEvidence := rfl
@[simp] theorem State.onEnrol_cal (s : State) (f : Enrollment → Enrollment) : (s.onEnrol f).cal = s.cal := rfl
@[simp] theorem State.onEnrol_meter (s : State) (f : Enrollment → Enrollment) : (s.onEnrol f).meter = s.meter := rfl
@[simp] theorem State.onEnrol_emission (s : State) (f : Enrollment → Enrollment) : (s.onEnrol f).emission = s.emission := rfl
@[simp] theorem State.onEnrol_link (s : State) (f : Enrollment → Enrollment) : (s.onEnrol f).link = s.link := rfl
@[simp] theorem State.onEnrol_refusedDownstream (s : State) (f : Enrollment → Enrollment) : (s.onEnrol f).refusedDownstream = s.refusedDownstream := rfl
@[simp] theorem State.onEnrol_out (s : State) (f : Enrollment → Enrollment) : (s.onEnrol f).out = s.out := rfl
@[simp] theorem State.onEnrol_pending (s : State) (f : Enrollment → Enrollment) : (s.onEnrol f).pending = s.pending := rfl

/-! ### onLink -/

@[simp] theorem State.onLink_own (s : State) (f : Link → Link) : (s.onLink f).own = s.own := rfl
@[simp] theorem State.onLink_mgt (s : State) (f : Link → Link) : (s.onLink f).mgt = s.mgt := rfl
@[simp] theorem State.onLink_config (s : State) (f : Link → Link) : (s.onLink f).config = s.config := rfl
@[simp] theorem State.onLink_clock (s : State) (f : Link → Link) : (s.onLink f).clock = s.clock := rfl
@[simp] theorem State.onLink_homes (s : State) (f : Link → Link) : (s.onLink f).homes = s.homes := rfl
@[simp] theorem State.onLink_forwardList (s : State) (f : Link → Link) : (s.onLink f).forwardList = s.forwardList := rfl
@[simp] theorem State.onLink_walks (s : State) (f : Link → Link) : (s.onLink f).walks = s.walks := rfl
@[simp] theorem State.onLink_walkDrops (s : State) (f : Link → Link) : (s.onLink f).walkDrops = s.walkDrops := rfl
@[simp] theorem State.onLink_findWalk (s : State) (f : Link → Link) : (s.onLink f).findWalk = s.findWalk := rfl
@[simp] theorem State.onLink_trees (s : State) (f : Link → Link) : (s.onLink f).trees = s.trees := rfl
@[simp] theorem State.onLink_enrol (s : State) (f : Link → Link) : (s.onLink f).enrol = s.enrol := rfl
@[simp] theorem State.onLink_demandSum (s : State) (f : Link → Link) : (s.onLink f).demandSum = s.demandSum := rfl
@[simp] theorem State.onLink_eUsed (s : State) (f : Link → Link) : (s.onLink f).eUsed = s.eUsed := rfl
@[simp] theorem State.onLink_share (s : State) (f : Link → Link) : (s.onLink f).share = s.share := rfl
@[simp] theorem State.onLink_identities (s : State) (f : Link → Link) : (s.onLink f).identities = s.identities := rfl
@[simp] theorem State.onLink_discardedEvidence (s : State) (f : Link → Link) : (s.onLink f).discardedEvidence = s.discardedEvidence := rfl
@[simp] theorem State.onLink_cal (s : State) (f : Link → Link) : (s.onLink f).cal = s.cal := rfl
@[simp] theorem State.onLink_meter (s : State) (f : Link → Link) : (s.onLink f).meter = s.meter := rfl
@[simp] theorem State.onLink_emission (s : State) (f : Link → Link) : (s.onLink f).emission = s.emission := rfl
@[simp] theorem State.onLink_refusedDownstream (s : State) (f : Link → Link) : (s.onLink f).refusedDownstream = s.refusedDownstream := rfl
@[simp] theorem State.onLink_out (s : State) (f : Link → Link) : (s.onLink f).out = s.out := rfl
@[simp] theorem State.onLink_pending (s : State) (f : Link → Link) : (s.onLink f).pending = s.pending := rfl

/-! ### onShare -/

@[simp] theorem State.onShare_own (s : State) (f : ShareState → ShareState) : (s.onShare f).own = s.own := rfl
@[simp] theorem State.onShare_mgt (s : State) (f : ShareState → ShareState) : (s.onShare f).mgt = s.mgt := rfl
@[simp] theorem State.onShare_config (s : State) (f : ShareState → ShareState) : (s.onShare f).config = s.config := rfl
@[simp] theorem State.onShare_clock (s : State) (f : ShareState → ShareState) : (s.onShare f).clock = s.clock := rfl
@[simp] theorem State.onShare_homes (s : State) (f : ShareState → ShareState) : (s.onShare f).homes = s.homes := rfl
@[simp] theorem State.onShare_forwardList (s : State) (f : ShareState → ShareState) : (s.onShare f).forwardList = s.forwardList := rfl
@[simp] theorem State.onShare_walks (s : State) (f : ShareState → ShareState) : (s.onShare f).walks = s.walks := rfl
@[simp] theorem State.onShare_walkDrops (s : State) (f : ShareState → ShareState) : (s.onShare f).walkDrops = s.walkDrops := rfl
@[simp] theorem State.onShare_findWalk (s : State) (f : ShareState → ShareState) : (s.onShare f).findWalk = s.findWalk := rfl
@[simp] theorem State.onShare_trees (s : State) (f : ShareState → ShareState) : (s.onShare f).trees = s.trees := rfl
@[simp] theorem State.onShare_enrol (s : State) (f : ShareState → ShareState) : (s.onShare f).enrol = s.enrol := rfl
@[simp] theorem State.onShare_demandSum (s : State) (f : ShareState → ShareState) : (s.onShare f).demandSum = s.demandSum := rfl
@[simp] theorem State.onShare_eUsed (s : State) (f : ShareState → ShareState) : (s.onShare f).eUsed = s.eUsed := rfl
@[simp] theorem State.onShare_identities (s : State) (f : ShareState → ShareState) : (s.onShare f).identities = s.identities := rfl
@[simp] theorem State.onShare_discardedEvidence (s : State) (f : ShareState → ShareState) : (s.onShare f).discardedEvidence = s.discardedEvidence := rfl
@[simp] theorem State.onShare_cal (s : State) (f : ShareState → ShareState) : (s.onShare f).cal = s.cal := rfl
@[simp] theorem State.onShare_meter (s : State) (f : ShareState → ShareState) : (s.onShare f).meter = s.meter := rfl
@[simp] theorem State.onShare_emission (s : State) (f : ShareState → ShareState) : (s.onShare f).emission = s.emission := rfl
@[simp] theorem State.onShare_link (s : State) (f : ShareState → ShareState) : (s.onShare f).link = s.link := rfl
@[simp] theorem State.onShare_refusedDownstream (s : State) (f : ShareState → ShareState) : (s.onShare f).refusedDownstream = s.refusedDownstream := rfl
@[simp] theorem State.onShare_out (s : State) (f : ShareState → ShareState) : (s.onShare f).out = s.out := rfl
@[simp] theorem State.onShare_pending (s : State) (f : ShareState → ShareState) : (s.onShare f).pending = s.pending := rfl

/-! ### onMeter -/

@[simp] theorem State.onMeter_own (s : State) (f : Metering → Metering) : (s.onMeter f).own = s.own := rfl
@[simp] theorem State.onMeter_mgt (s : State) (f : Metering → Metering) : (s.onMeter f).mgt = s.mgt := rfl
@[simp] theorem State.onMeter_config (s : State) (f : Metering → Metering) : (s.onMeter f).config = s.config := rfl
@[simp] theorem State.onMeter_clock (s : State) (f : Metering → Metering) : (s.onMeter f).clock = s.clock := rfl
@[simp] theorem State.onMeter_homes (s : State) (f : Metering → Metering) : (s.onMeter f).homes = s.homes := rfl
@[simp] theorem State.onMeter_forwardList (s : State) (f : Metering → Metering) : (s.onMeter f).forwardList = s.forwardList := rfl
@[simp] theorem State.onMeter_walks (s : State) (f : Metering → Metering) : (s.onMeter f).walks = s.walks := rfl
@[simp] theorem State.onMeter_walkDrops (s : State) (f : Metering → Metering) : (s.onMeter f).walkDrops = s.walkDrops := rfl
@[simp] theorem State.onMeter_findWalk (s : State) (f : Metering → Metering) : (s.onMeter f).findWalk = s.findWalk := rfl
@[simp] theorem State.onMeter_trees (s : State) (f : Metering → Metering) : (s.onMeter f).trees = s.trees := rfl
@[simp] theorem State.onMeter_enrol (s : State) (f : Metering → Metering) : (s.onMeter f).enrol = s.enrol := rfl
@[simp] theorem State.onMeter_demandSum (s : State) (f : Metering → Metering) : (s.onMeter f).demandSum = s.demandSum := rfl
@[simp] theorem State.onMeter_eUsed (s : State) (f : Metering → Metering) : (s.onMeter f).eUsed = s.eUsed := rfl
@[simp] theorem State.onMeter_share (s : State) (f : Metering → Metering) : (s.onMeter f).share = s.share := rfl
@[simp] theorem State.onMeter_identities (s : State) (f : Metering → Metering) : (s.onMeter f).identities = s.identities := rfl
@[simp] theorem State.onMeter_discardedEvidence (s : State) (f : Metering → Metering) : (s.onMeter f).discardedEvidence = s.discardedEvidence := rfl
@[simp] theorem State.onMeter_cal (s : State) (f : Metering → Metering) : (s.onMeter f).cal = s.cal := rfl
@[simp] theorem State.onMeter_emission (s : State) (f : Metering → Metering) : (s.onMeter f).emission = s.emission := rfl
@[simp] theorem State.onMeter_link (s : State) (f : Metering → Metering) : (s.onMeter f).link = s.link := rfl
@[simp] theorem State.onMeter_refusedDownstream (s : State) (f : Metering → Metering) : (s.onMeter f).refusedDownstream = s.refusedDownstream := rfl
@[simp] theorem State.onMeter_out (s : State) (f : Metering → Metering) : (s.onMeter f).out = s.out := rfl
@[simp] theorem State.onMeter_pending (s : State) (f : Metering → Metering) : (s.onMeter f).pending = s.pending := rfl

/-! ### onCal -/

@[simp] theorem State.onCal_own (s : State) (f : Calendar → Calendar) : (s.onCal f).own = s.own := rfl
@[simp] theorem State.onCal_mgt (s : State) (f : Calendar → Calendar) : (s.onCal f).mgt = s.mgt := rfl
@[simp] theorem State.onCal_config (s : State) (f : Calendar → Calendar) : (s.onCal f).config = s.config := rfl
@[simp] theorem State.onCal_clock (s : State) (f : Calendar → Calendar) : (s.onCal f).clock = s.clock := rfl
@[simp] theorem State.onCal_homes (s : State) (f : Calendar → Calendar) : (s.onCal f).homes = s.homes := rfl
@[simp] theorem State.onCal_forwardList (s : State) (f : Calendar → Calendar) : (s.onCal f).forwardList = s.forwardList := rfl
@[simp] theorem State.onCal_walks (s : State) (f : Calendar → Calendar) : (s.onCal f).walks = s.walks := rfl
@[simp] theorem State.onCal_walkDrops (s : State) (f : Calendar → Calendar) : (s.onCal f).walkDrops = s.walkDrops := rfl
@[simp] theorem State.onCal_findWalk (s : State) (f : Calendar → Calendar) : (s.onCal f).findWalk = s.findWalk := rfl
@[simp] theorem State.onCal_trees (s : State) (f : Calendar → Calendar) : (s.onCal f).trees = s.trees := rfl
@[simp] theorem State.onCal_enrol (s : State) (f : Calendar → Calendar) : (s.onCal f).enrol = s.enrol := rfl
@[simp] theorem State.onCal_demandSum (s : State) (f : Calendar → Calendar) : (s.onCal f).demandSum = s.demandSum := rfl
@[simp] theorem State.onCal_eUsed (s : State) (f : Calendar → Calendar) : (s.onCal f).eUsed = s.eUsed := rfl
@[simp] theorem State.onCal_share (s : State) (f : Calendar → Calendar) : (s.onCal f).share = s.share := rfl
@[simp] theorem State.onCal_identities (s : State) (f : Calendar → Calendar) : (s.onCal f).identities = s.identities := rfl
@[simp] theorem State.onCal_discardedEvidence (s : State) (f : Calendar → Calendar) : (s.onCal f).discardedEvidence = s.discardedEvidence := rfl
@[simp] theorem State.onCal_meter (s : State) (f : Calendar → Calendar) : (s.onCal f).meter = s.meter := rfl
@[simp] theorem State.onCal_emission (s : State) (f : Calendar → Calendar) : (s.onCal f).emission = s.emission := rfl
@[simp] theorem State.onCal_link (s : State) (f : Calendar → Calendar) : (s.onCal f).link = s.link := rfl
@[simp] theorem State.onCal_refusedDownstream (s : State) (f : Calendar → Calendar) : (s.onCal f).refusedDownstream = s.refusedDownstream := rfl
@[simp] theorem State.onCal_out (s : State) (f : Calendar → Calendar) : (s.onCal f).out = s.out := rfl
@[simp] theorem State.onCal_pending (s : State) (f : Calendar → Calendar) : (s.onCal f).pending = s.pending := rfl

/-! ### onClock -/

@[simp] theorem State.onClock_own (s : State) (f : RoundClock → RoundClock) : (s.onClock f).own = s.own := rfl
@[simp] theorem State.onClock_mgt (s : State) (f : RoundClock → RoundClock) : (s.onClock f).mgt = s.mgt := rfl
@[simp] theorem State.onClock_config (s : State) (f : RoundClock → RoundClock) : (s.onClock f).config = s.config := rfl
@[simp] theorem State.onClock_homes (s : State) (f : RoundClock → RoundClock) : (s.onClock f).homes = s.homes := rfl
@[simp] theorem State.onClock_forwardList (s : State) (f : RoundClock → RoundClock) : (s.onClock f).forwardList = s.forwardList := rfl
@[simp] theorem State.onClock_walks (s : State) (f : RoundClock → RoundClock) : (s.onClock f).walks = s.walks := rfl
@[simp] theorem State.onClock_walkDrops (s : State) (f : RoundClock → RoundClock) : (s.onClock f).walkDrops = s.walkDrops := rfl
@[simp] theorem State.onClock_findWalk (s : State) (f : RoundClock → RoundClock) : (s.onClock f).findWalk = s.findWalk := rfl
@[simp] theorem State.onClock_trees (s : State) (f : RoundClock → RoundClock) : (s.onClock f).trees = s.trees := rfl
@[simp] theorem State.onClock_enrol (s : State) (f : RoundClock → RoundClock) : (s.onClock f).enrol = s.enrol := rfl
@[simp] theorem State.onClock_demandSum (s : State) (f : RoundClock → RoundClock) : (s.onClock f).demandSum = s.demandSum := rfl
@[simp] theorem State.onClock_eUsed (s : State) (f : RoundClock → RoundClock) : (s.onClock f).eUsed = s.eUsed := rfl
@[simp] theorem State.onClock_share (s : State) (f : RoundClock → RoundClock) : (s.onClock f).share = s.share := rfl
@[simp] theorem State.onClock_identities (s : State) (f : RoundClock → RoundClock) : (s.onClock f).identities = s.identities := rfl
@[simp] theorem State.onClock_discardedEvidence (s : State) (f : RoundClock → RoundClock) : (s.onClock f).discardedEvidence = s.discardedEvidence := rfl
@[simp] theorem State.onClock_cal (s : State) (f : RoundClock → RoundClock) : (s.onClock f).cal = s.cal := rfl
@[simp] theorem State.onClock_meter (s : State) (f : RoundClock → RoundClock) : (s.onClock f).meter = s.meter := rfl
@[simp] theorem State.onClock_emission (s : State) (f : RoundClock → RoundClock) : (s.onClock f).emission = s.emission := rfl
@[simp] theorem State.onClock_link (s : State) (f : RoundClock → RoundClock) : (s.onClock f).link = s.link := rfl
@[simp] theorem State.onClock_refusedDownstream (s : State) (f : RoundClock → RoundClock) : (s.onClock f).refusedDownstream = s.refusedDownstream := rfl
@[simp] theorem State.onClock_out (s : State) (f : RoundClock → RoundClock) : (s.onClock f).out = s.out := rfl
@[simp] theorem State.onClock_pending (s : State) (f : RoundClock → RoundClock) : (s.onClock f).pending = s.pending := rfl

/-! ### emit -/

@[simp] theorem State.emit_own (s : State) (o : Output) : (s.emit o).own = s.own := rfl
@[simp] theorem State.emit_mgt (s : State) (o : Output) : (s.emit o).mgt = s.mgt := rfl
@[simp] theorem State.emit_config (s : State) (o : Output) : (s.emit o).config = s.config := rfl
@[simp] theorem State.emit_clock (s : State) (o : Output) : (s.emit o).clock = s.clock := rfl
@[simp] theorem State.emit_homes (s : State) (o : Output) : (s.emit o).homes = s.homes := rfl
@[simp] theorem State.emit_forwardList (s : State) (o : Output) : (s.emit o).forwardList = s.forwardList := rfl
@[simp] theorem State.emit_walks (s : State) (o : Output) : (s.emit o).walks = s.walks := rfl
@[simp] theorem State.emit_walkDrops (s : State) (o : Output) : (s.emit o).walkDrops = s.walkDrops := rfl
@[simp] theorem State.emit_findWalk (s : State) (o : Output) : (s.emit o).findWalk = s.findWalk := rfl
@[simp] theorem State.emit_trees (s : State) (o : Output) : (s.emit o).trees = s.trees := rfl
@[simp] theorem State.emit_enrol (s : State) (o : Output) : (s.emit o).enrol = s.enrol := rfl
@[simp] theorem State.emit_demandSum (s : State) (o : Output) : (s.emit o).demandSum = s.demandSum := rfl
@[simp] theorem State.emit_eUsed (s : State) (o : Output) : (s.emit o).eUsed = s.eUsed := rfl
@[simp] theorem State.emit_share (s : State) (o : Output) : (s.emit o).share = s.share := rfl
@[simp] theorem State.emit_identities (s : State) (o : Output) : (s.emit o).identities = s.identities := rfl
@[simp] theorem State.emit_discardedEvidence (s : State) (o : Output) : (s.emit o).discardedEvidence = s.discardedEvidence := rfl
@[simp] theorem State.emit_cal (s : State) (o : Output) : (s.emit o).cal = s.cal := rfl
@[simp] theorem State.emit_meter (s : State) (o : Output) : (s.emit o).meter = s.meter := rfl
@[simp] theorem State.emit_emission (s : State) (o : Output) : (s.emit o).emission = s.emission := rfl
@[simp] theorem State.emit_link (s : State) (o : Output) : (s.emit o).link = s.link := rfl
@[simp] theorem State.emit_refusedDownstream (s : State) (o : Output) : (s.emit o).refusedDownstream = s.refusedDownstream := rfl
@[simp] theorem State.emit_pending (s : State) (o : Output) : (s.emit o).pending = s.pending := rfl

/-! ### begin -/

@[simp] theorem State.begin_own (s : State) : (s.begin).own = s.own := rfl
@[simp] theorem State.begin_mgt (s : State) : (s.begin).mgt = s.mgt := rfl
@[simp] theorem State.begin_config (s : State) : (s.begin).config = s.config := rfl
@[simp] theorem State.begin_clock (s : State) : (s.begin).clock = s.clock := rfl
@[simp] theorem State.begin_homes (s : State) : (s.begin).homes = s.homes := rfl
@[simp] theorem State.begin_forwardList (s : State) : (s.begin).forwardList = s.forwardList := rfl
@[simp] theorem State.begin_walks (s : State) : (s.begin).walks = s.walks := rfl
@[simp] theorem State.begin_walkDrops (s : State) : (s.begin).walkDrops = s.walkDrops := rfl
@[simp] theorem State.begin_findWalk (s : State) : (s.begin).findWalk = s.findWalk := rfl
@[simp] theorem State.begin_trees (s : State) : (s.begin).trees = s.trees := rfl
@[simp] theorem State.begin_enrol (s : State) : (s.begin).enrol = s.enrol := rfl
@[simp] theorem State.begin_demandSum (s : State) : (s.begin).demandSum = s.demandSum := rfl
@[simp] theorem State.begin_eUsed (s : State) : (s.begin).eUsed = s.eUsed := rfl
@[simp] theorem State.begin_share (s : State) : (s.begin).share = s.share := rfl
@[simp] theorem State.begin_identities (s : State) : (s.begin).identities = s.identities := rfl
@[simp] theorem State.begin_discardedEvidence (s : State) : (s.begin).discardedEvidence = s.discardedEvidence := rfl
@[simp] theorem State.begin_cal (s : State) : (s.begin).cal = s.cal := rfl
@[simp] theorem State.begin_meter (s : State) : (s.begin).meter = s.meter := rfl
@[simp] theorem State.begin_emission (s : State) : (s.begin).emission = s.emission := rfl
@[simp] theorem State.begin_link (s : State) : (s.begin).link = s.link := rfl
@[simp] theorem State.begin_refusedDownstream (s : State) : (s.begin).refusedDownstream = s.refusedDownstream := rfl
@[simp] theorem State.begin_pending (s : State) : (s.begin).pending = s.pending := rfl
@[simp] theorem State.onEnrol_enrol (s : State) (f : Enrollment → Enrollment) : (s.onEnrol f).enrol = f s.enrol := rfl
@[simp] theorem State.onLink_link (s : State) (f : Link → Link) : (s.onLink f).link = f s.link := rfl
@[simp] theorem State.onShare_share (s : State) (f : ShareState → ShareState) : (s.onShare f).share = f s.share := rfl
@[simp] theorem State.onMeter_meter (s : State) (f : Metering → Metering) : (s.onMeter f).meter = f s.meter := rfl
@[simp] theorem State.onCal_cal (s : State) (f : Calendar → Calendar) : (s.onCal f).cal = f s.cal := rfl
@[simp] theorem State.onClock_clock (s : State) (f : RoundClock → RoundClock) : (s.onClock f).clock = f s.clock := rfl
@[simp] theorem State.emit_out (s : State) (o : Output) : (s.emit o).out = s.out ++ [o] := rfl
@[simp] theorem State.begin_out (s : State) : s.begin.out = [] := rfl

/-! ### Homes and trees through the updates -/

@[simp] theorem State.setHome_tree (s : State) (h : HomeIndex) (x : Home) (i : Tree) : (s.setHome h x).tree i = s.tree i := rfl
@[simp] theorem State.onHome_tree (s : State) (h : HomeIndex) (f : Home → Home) (i : Tree) : (s.onHome h f).tree i = s.tree i := rfl
@[simp] theorem State.mapHomes_tree (s : State) (f : HomeIndex → Home → Home) (i : Tree) : (s.mapHomes f).tree i = s.tree i := rfl
@[simp] theorem State.setTree_home (s : State) (t : Tree) (x : TreeLine) (i : HomeIndex) : (s.setTree t x).home i = s.home i := rfl
@[simp] theorem State.onTree_home (s : State) (t : Tree) (f : TreeLine → TreeLine) (i : HomeIndex) : (s.onTree t f).home i = s.home i := rfl
@[simp] theorem State.onEnrol_home (s : State) (f : Enrollment → Enrollment) (i : HomeIndex) : (s.onEnrol f).home i = s.home i := rfl
@[simp] theorem State.onEnrol_tree (s : State) (f : Enrollment → Enrollment) (i : Tree) : (s.onEnrol f).tree i = s.tree i := rfl
@[simp] theorem State.onLink_home (s : State) (f : Link → Link) (i : HomeIndex) : (s.onLink f).home i = s.home i := rfl
@[simp] theorem State.onLink_tree (s : State) (f : Link → Link) (i : Tree) : (s.onLink f).tree i = s.tree i := rfl
@[simp] theorem State.onShare_home (s : State) (f : ShareState → ShareState) (i : HomeIndex) : (s.onShare f).home i = s.home i := rfl
@[simp] theorem State.onShare_tree (s : State) (f : ShareState → ShareState) (i : Tree) : (s.onShare f).tree i = s.tree i := rfl
@[simp] theorem State.onMeter_home (s : State) (f : Metering → Metering) (i : HomeIndex) : (s.onMeter f).home i = s.home i := rfl
@[simp] theorem State.onMeter_tree (s : State) (f : Metering → Metering) (i : Tree) : (s.onMeter f).tree i = s.tree i := rfl
@[simp] theorem State.onCal_home (s : State) (f : Calendar → Calendar) (i : HomeIndex) : (s.onCal f).home i = s.home i := rfl
@[simp] theorem State.onCal_tree (s : State) (f : Calendar → Calendar) (i : Tree) : (s.onCal f).tree i = s.tree i := rfl
@[simp] theorem State.onClock_home (s : State) (f : RoundClock → RoundClock) (i : HomeIndex) : (s.onClock f).home i = s.home i := rfl
@[simp] theorem State.onClock_tree (s : State) (f : RoundClock → RoundClock) (i : Tree) : (s.onClock f).tree i = s.tree i := rfl
@[simp] theorem State.emit_home (s : State) (o : Output) (i : HomeIndex) : (s.emit o).home i = s.home i := rfl
@[simp] theorem State.emit_tree (s : State) (o : Output) (i : Tree) : (s.emit o).tree i = s.tree i := rfl
@[simp] theorem State.begin_home (s : State) (i : HomeIndex) : (s.begin).home i = s.home i := rfl
@[simp] theorem State.begin_tree (s : State) (i : Tree) : (s.begin).tree i = s.tree i := rfl

end Sys2Proof.Machine
end

