-- ==== Sys2Proof/Laws/Link.lean ====
section
/-! SUPPORT. What the shared operations of the district link do: the checks of a received frame, the way of a request through R171 to R173, answers, and the transmit queue. -/

namespace Sys2Proof.Machine

theorem bump_eq (n : Nat) : bump n = min 65535 (n + 1) := rfl

theorem State.ext_of_link (s : State) (l : Link) : s.onLink (fun _ => l) = { s with link := l } := rfl

/-! ### Receiving -/

theorem State.hears_iff (s : State) (rx : Rx) :
    s.hears rx = true ↔ rx.src ≠ s.own ∧ (rx.dest = toStation s.own ∨ rx.dest = 31) := by
  have h : (toAll : Byte) = 31 := rfl
  simp only [State.hears, Bool.and_eq_true, Bool.or_eq_true, decide_eq_true_eq, h]

theorem State.hears_false_iff (s : State) (rx : Rx) :
    s.hears rx = false ↔ (rx.src = s.own ∨ (rx.dest ≠ toStation s.own ∧ rx.dest ≠ 31)) := by
  rw [← Bool.not_eq_true, State.hears_iff]; tauto

theorem State.addressed_iff (s : State) (rx : Rx) : s.addressed rx = true ↔ rx.dest = toStation s.own := by simp [State.addressed]

@[simp] theorem State.hears_begin (s : State) (rx : Rx) : s.begin.hears rx = s.hears rx := rfl
@[simp] theorem State.addressed_begin (s : State) (rx : Rx) : s.begin.addressed rx = s.addressed rx := rfl
@[simp] theorem State.rankOf_begin (s : State) (st : Station) : s.begin.rankOf st = s.rankOf st := rfl
@[simp] theorem State.addressed_countReceived (s : State) (rx : Rx) : s.countReceived.addressed rx = s.addressed rx := rfl
@[simp] theorem State.rankOf_countReceived (s : State) (st : Station) : s.countReceived.rankOf st = s.rankOf st := rfl
@[simp] theorem State.addressed_onLink (s : State) (f : Link → Link) (rx : Rx) : (s.onLink f).addressed rx = s.addressed rx := rfl
@[simp] theorem State.countReceived_home (s : State) (h : HomeIndex) : s.countReceived.home h = s.home h := rfl
@[simp] theorem State.countReceived_tree (s : State) (t : Tree) : s.countReceived.tree t = s.tree t := rfl

theorem State.countReceived_eq (s : State) : s.countReceived = { s with link := s.link.received } := rfl

theorem State.receive_heard {s : State} {rx : Rx} (f : State → State) (h : s.hears rx = true) : s.receive rx f = f s.countReceived := by
  simp [State.receive, h]

theorem State.receive_unheard {s : State} {rx : Rx} (f : State → State) (h : s.hears rx = false) : s.receive rx f = s := by
  simp [State.receive, h]

/-- A frame to this station alone from another is no frame to all. -/
theorem State.toMe.hears {s : State} {rx : Rx} (h : s.toMe rx) : s.hears rx = true := (s.hears_iff rx).2 ⟨h.2, .inl h.1⟩

theorem toStation_ne_all (st : Station) : toStation st ≠ 31 := by revert st; decide

theorem State.not_addressed_of_all {s : State} {rx : Rx} (h : rx.dest = 31) : s.addressed rx = false := by
  simp [State.addressed, h]; exact (toStation_ne_all s.own).symm

/-! ### Peer frames -/

theorem State.rankOf_run {s : State} {c : Config} (h : s.config = some c) (st : Station) : s.rankOf st = some c.ranks[st] := by
  simp [State.rankOf, h]

theorem State.rankOf_wait {s : State} (h : s.config = none) (st : Station) : s.rankOf st = none := by simp [State.rankOf, h]

/-- R171: a peer frame of rank 0 to 2 is handed on. -/
theorem State.receivePeer_ranked {s : State} {rx : Rx} {c : Config} (f : State → State) (hc : s.config = some c) (hh : s.hears rx = true)
    (hr : (c.ranks[rx.src]).val ≤ 2) : s.receivePeer rx f = f s.countReceived := by
  simp only [State.receivePeer, State.receive, hh, if_true, State.rankOf_countReceived, State.rankOf_run hc]
  simp only [hr, if_true]

/-- R171: a peer frame of rank 3 is discarded and counted. -/
theorem State.receivePeer_ordinary {s : State} {rx : Rx} {c : Config} (f : State → State) (hc : s.config = some c) (hh : s.hears rx = true)
    (hr : (c.ranks[rx.src]).val = 3) :
    s.receivePeer rx f = s.countReceived.onLink fun l => { l with rankDiscards := bump l.rankDiscards } := by
  simp only [State.receivePeer, State.receive, hh, if_true, State.rankOf_countReceived, State.rankOf_run hc]
  rw [hr]; rfl

/-- R171: in WAIT_CONFIG a peer frame is received and discarded. -/
theorem State.receivePeer_waiting {s : State} {rx : Rx} (f : State → State) (hc : s.config = none) (hh : s.hears rx = true) :
    s.receivePeer rx f = s.countReceived := by
  simp only [State.receivePeer, State.receive, hh, if_true, State.rankOf_countReceived, State.rankOf_wait hc]

/-! ### Requests -/

/-- R171 to R173: a request of a sufficient rank in RUN, addressed to this station, reaches its owning block. -/
theorem State.request_asked {s : State} {rx : Rx} {c : Config} {top : Nat} (num : BitVec 16) (kind : Byte) (answerOnly : Bool)
    (act : State → State) (h : s.asked rx c top) : s.request rx num kind top answerOnly act = act s.countReceived := by
  obtain ⟨hc, hm, hr⟩ := h
  have ha : s.addressed rx = true := (s.addressed_iff rx).2 hm.1
  simp only [State.request, State.receive, hm.hears, if_true, State.rankOf_countReceived, State.rankOf_run hc,
    State.addressed_countReceived, ha, Bool.not_true, Bool.and_false, Bool.false_eq_true, if_false, Nat.not_lt.2 hr]

/-- R172: a request addressed to this station from a station of too high a rank value is refused RANK. -/
theorem State.request_rank {s : State} {rx : Rx} {c : Config} {top : Nat} (num : BitVec 16) (kind : Byte) (answerOnly : Bool)
    (act : State → State) (hc : s.config = some c) (hm : s.toMe rx) (hr : top < (c.ranks[rx.src]).val) :
    s.request rx num kind top answerOnly act = s.countReceived.conclude rx num kind (s.countReceived.refuse .rank) := by
  have ha : s.addressed rx = true := (s.addressed_iff rx).2 hm.1
  simp only [State.request, State.receive, hm.hears, if_true, State.rankOf_countReceived, State.rankOf_run hc,
    State.addressed_countReceived, ha, Bool.not_true, Bool.and_false, Bool.false_eq_true, if_false, hr]

/-- R173: a request whose effect is its answer, sent to all stations, is discarded unread. -/
theorem State.request_unread {s : State} {rx : Rx} {c : Config} {top : Nat} (num : BitVec 16) (kind : Byte) (act : State → State)
    (hc : s.config = some c) (hs : rx.src ≠ s.own) (hd : rx.dest = 31) : s.request rx num kind top true act = s.countReceived := by
  simp only [State.request, State.receive, (s.hears_iff rx).2 ⟨hs, .inr hd⟩, if_true, State.rankOf_countReceived,
    State.rankOf_run hc, State.not_addressed_of_all hd, Bool.not_false, Bool.and_true]

/-- R172, R176: in WAIT_CONFIG an addressed request is refused NOT_READY and one to all is discarded. -/
theorem State.request_waiting {s : State} {rx : Rx} (num : BitVec 16) (kind : Byte) (top : Nat) (answerOnly : Bool) (act : State → State)
    (hc : s.config = none) (hh : s.hears rx = true) :
    s.request rx num kind top answerOnly act =
      if s.addressed rx then s.countReceived.conclude rx num kind (s.countReceived.refuse .notReady) else s.countReceived := by
  simp only [State.request, State.receive, hh, if_true, State.rankOf_countReceived, State.rankOf_wait hc]
  rfl

/-- R168: an answer that finds room joins the queue. -/
theorem State.respond_room {s : State} (st : Station) (num : BitVec 16) (kind : Byte) (status : Status) (body : List Byte)
    (h : s.link.roomFor false = true) :
    s.respond st num kind status body = { s with link := s.link.take (responseFrame st num kind status body) } := by
  simp [State.respond, State.onLink, h, responseFrame]

/-- R172, R173: an accepted request that is addressed is answered. -/
theorem State.conclude_taken {s : State} {rx : Rx} {num : BitVec 16} {kind : Byte} {a : Answer} (hr : refuses kind a.status = false)
    (hd : s.addressed rx = true) (hroom : a.state.link.roomFor false = true) :
    s.conclude rx num kind a = { a.state with link := a.state.link.take (responseFrame rx.src num kind a.status a.body) } := by
  simp only [State.conclude, hr, Bool.false_eq_true, if_false, hd, if_true]
  exact State.respond_room _ _ _ _ _ hroom

/-- R172, R173: a refused request that is addressed is counted and answered. -/
theorem State.conclude_refused {s : State} {rx : Rx} {num : BitVec 16} {kind : Byte} {a : Answer} (hr : refuses kind a.status = true)
    (hd : s.addressed rx = true) (hroom : a.state.link.roomFor false = true) :
    s.conclude rx num kind a = { a.state with link := a.state.link.refused.take (responseFrame rx.src num kind a.status a.body) } := by
  simp only [State.conclude, hr, hd, if_true]
  rw [State.respond_room _ _ _ _ _ (by simpa [State.onLink, Link.roomFor, Link.total, Link.routine, Link.frames] using hroom)]
  rfl

@[simp] theorem Link.roomFor_received (l : Link) (u : Bool) : l.received.roomFor u = l.roomFor u := rfl
@[simp] theorem Link.roomFor_refused (l : Link) (u : Bool) : l.refused.roomFor u = l.roomFor u := rfl

/-! ### The transmit queue -/

theorem insertFrame_mem (f g : Frame) (xs : List Frame) : g ∈ insertFrame f xs ↔ g = f ∨ g ∈ xs := by
  induction xs with
  | nil => simp [insertFrame]
  | cons x xs ih =>
    simp only [insertFrame]
    split
    · simp
    · simp [ih]; tauto

theorem insertFrame_length (f : Frame) (xs : List Frame) : (insertFrame f xs).length = xs.length + 1 := by
  induction xs with
  | nil => rfl
  | cons x xs ih => simp only [insertFrame]; split <;> simp [ih]

theorem insertFrame_countP (p : Frame → Bool) (f : Frame) (xs : List Frame) :
    (insertFrame f xs).countP p = xs.countP p + if p f then 1 else 0 := by
  induction xs with
  | nil => simp [insertFrame, List.countP_cons]
  | cons x xs ih =>
    simp only [insertFrame]
    split
    · simp [List.countP_cons]
    · simp [List.countP_cons, ih]; omega

/-- R165: choosing a current frame moves no frame out of the queue or into it. -/
theorem Link.choose_frames (l : Link) (h : l.current = none ∨ l.phase ≠ .idle) : l.choose.frames = l.frames := by
  unfold Link.choose
  split
  · rename_i f rest hp hw
    have hcur : l.current = none := h.resolve_right (fun hn => hn hp)
    simp [Link.frames, hw, hcur]
  · rfl

/-- R180: the receiver assembles from the bits of the line the bytes that were sent. -/
theorem bytesOfBits_lineBits (bytes : List Byte) : bytesOfBits (lineBits bytes) = bytes := by
  have hb : ∀ b : Byte, byteOfBits (b.getLsbD 0) (b.getLsbD 1) (b.getLsbD 2) (b.getLsbD 3) (b.getLsbD 4) (b.getLsbD 5) (b.getLsbD 6) (b.getLsbD 7) = b := by
    decide +kernel
  induction bytes with
  | nil => rfl
  | cons b bs ih =>
    change byteOfBits _ _ _ _ _ _ _ _ :: bytesOfBits (lineBits bs) = b :: bs
    rw [ih]
    exact congrArg (· :: bs) (hb b)

theorem withoutShares_any (fs : List Frame) : (withoutShares fs).any (fun f => f.content.isShare) = false := by
  simp [withoutShares]

/-- R91: a notice that replaces leaves one SHARE waiting. -/
theorem replaceShare_countP (f d : Nat) (fs : List Frame) :
    (replaceShare (.share f d) fs).countP (fun x => x.content.isShare) = if fs.any (fun x => x.content.isShare) then 1 else 0 := by
  have hw : ∀ xs : List Frame, (withoutShares xs).countP (fun x => x.content.isShare) = 0 := fun xs => by
    simp [List.countP_eq_zero, withoutShares]
  induction fs with
  | nil => rfl
  | cons x xs ih =>
    by_cases hx : x.content.isShare = true
    · have hs : (Content.share f d).isShare = true := rfl
      simp [replaceShare, hx, hs, hw]
    · simp [replaceShare, hx, ih]

/-! ### Claim contexts -/

@[simp] theorem ClaimContext.fresh_sent : ClaimContext.fresh.sent = false := rfl
@[simp] theorem ClaimContext.queuedAgain_unsent (c : ClaimContext) : c.queuedAgain.unsent = c.unsent + 1 := rfl
@[simp] theorem ClaimContext.queuedAgain_waits (c : ClaimContext) : c.queuedAgain.waits = c.waits := rfl
@[simp] theorem ClaimContext.queuedAgain_held (c : ClaimContext) : c.queuedAgain.held = c.held := rfl
@[simp] theorem ClaimContext.queuedAgain_again (c : ClaimContext) : c.queuedAgain.again = true := rfl
@[simp] theorem ClaimContext.queuedAgain_sent (c : ClaimContext) : c.queuedAgain.sent = false := rfl

/-- R55, R57: a report takes one CLAIM off those still to be sent, and the claim is sent exactly with the last of them. -/
theorem ClaimContext.reportSent_unsent (c : ClaimContext) : c.reportSent.unsent = c.unsent - 1 := by
  unfold ClaimContext.reportSent
  split
  · simp; omega
  · rfl

theorem ClaimContext.reportSent_sent (c : ClaimContext) : c.reportSent.sent = decide (c.unsent ≤ 1) := by
  have h := c.reportSent_unsent
  simp only [ClaimContext.sent, h, decide_eq_decide]
  omega

end Sys2Proof.Machine
end

