-- ==== Sys2Proof/Laws/Fixed.lean ====
section
/-! SUPPORT. What the shared operations on homes, trees, the link controller, the lists and the walks leave alone: the straps, the configuration, the clocks, District Share, Metering's station state and the waiting commands. -/

namespace Sys2Proof.Machine

/-- The two states agree on the straps, the configuration, the round clock, the demand sum and the E used, District Share, the calendar, Metering's station state, the
refused-downstream counter and the waiting commands. -/
structure State.Fixed (s s' : State) : Prop where
  own : s'.own = s.own
  mgt : s'.mgt = s.mgt
  config : s'.config = s.config
  clock : s'.clock = s.clock
  demandSum : s'.demandSum = s.demandSum
  eUsed : s'.eUsed = s.eUsed
  share : s'.share = s.share
  cal : s'.cal = s.cal
  meter : s'.meter = s.meter
  refusedDownstream : s'.refusedDownstream = s.refusedDownstream
  pending : s'.pending = s.pending

theorem State.Fixed.refl (s : State) : s.Fixed s := ⟨rfl, rfl, rfl, rfl, rfl, rfl, rfl, rfl, rfl, rfl, rfl⟩

theorem State.Fixed.trans {a b c : State} (h : a.Fixed b) (k : b.Fixed c) : a.Fixed c :=
  ⟨k.own.trans h.own, k.mgt.trans h.mgt, k.config.trans h.config, k.clock.trans h.clock, k.demandSum.trans h.demandSum, k.eUsed.trans h.eUsed, k.share.trans h.share, k.cal.trans h.cal, k.meter.trans h.meter, k.refusedDownstream.trans h.refusedDownstream, k.pending.trans h.pending⟩

/-- A fold of steps that leave these fields alone leaves them alone. -/
theorem State.Fixed.foldl {α : Type} {f : State → α → State} (hf : ∀ (s : State) (a : α), s.Fixed (f s a)) (xs : List α) (s : State) : s.Fixed (xs.foldl f s) := by
  induction xs generalizing s with
  | nil => exact .refl s
  | cons x xs ih => exact (hf s x).trans (ih (f s x))

/-! ### The plain updates -/

theorem State.setHome_fixed (s : State) (h : HomeIndex) (x : Home) : s.Fixed (s.setHome h x) := by constructor <;> rfl
theorem State.onHome_fixed (s : State) (h : HomeIndex) (f : Home → Home) : s.Fixed (s.onHome h f) := by constructor <;> rfl
theorem State.mapHomes_fixed (s : State) (f : HomeIndex → Home → Home) : s.Fixed (s.mapHomes f) := by constructor <;> rfl
theorem State.setTree_fixed (s : State) (t : Tree) (x : TreeLine) : s.Fixed (s.setTree t x) := by constructor <;> rfl
theorem State.onTree_fixed (s : State) (t : Tree) (f : TreeLine → TreeLine) : s.Fixed (s.onTree t f) := by constructor <;> rfl
theorem State.onSearch_fixed (s : State) (t : Tree) (f : SearchContext → SearchContext) : s.Fixed (s.onSearch t f) := by constructor <;> rfl
theorem State.onLink_fixed (s : State) (f : Link → Link) : s.Fixed (s.onLink f) := by constructor <;> rfl
theorem State.onEnrol_fixed (s : State) (f : Enrollment → Enrollment) : s.Fixed (s.onEnrol f) := by constructor <;> rfl
theorem State.emit_fixed (s : State) (o : Output) : s.Fixed (s.emit o) := by constructor <;> rfl
theorem State.begin_fixed (s : State) : s.Fixed s.begin := by constructor <;> rfl
theorem State.leaveForwardList_fixed (s : State) (h : HomeIndex) : s.Fixed (s.leaveForwardList h) := by constructor <;> rfl
theorem State.endWalk_fixed (s : State) : s.Fixed s.endWalk := by constructor <;> rfl

/-! ### The link controller -/

theorem State.countReceived_fixed (s : State) : s.Fixed s.countReceived := by constructor <;> rfl
theorem State.offerUrgent_fixed (s : State) (d : Byte) (c : Content) : s.Fixed (s.offerUrgent d c) := by constructor <;> rfl
theorem State.event_fixed (s : State) (e : EventKind) : s.Fixed (s.event e) := by constructor <;> rfl
theorem State.respond_fixed (s : State) (st : Station) (n : BitVec 16) (k : Byte) (status : Status) (b : List Byte) :
    s.Fixed (s.respond st n k status b) := by constructor <;> rfl
theorem State.respondTwo_fixed (s : State) (st : Station) (n : BitVec 16) (k : Byte) (p q : List Byte) : s.Fixed (s.respondTwo st n k p q) := by
  constructor <;> rfl
theorem State.conclude_fixed (s : State) (rx : Rx) (n : BitVec 16) (k : Byte) (a : Answer) : a.state.Fixed (s.conclude rx n k a) := by
  unfold State.conclude
  dsimp only
  split <;> split <;> constructor <;> rfl
theorem State.offerClaim_fixed (s : State) (h : HomeIndex) : s.Fixed (s.offerClaim h) := by
  unfold State.offerClaim
  dsimp only
  split
  · split <;> constructor <;> rfl
  · exact .refl s
theorem State.reofferClaim_fixed (s : State) (h : HomeIndex) : s.Fixed (s.reofferClaim h) := by
  unfold State.reofferClaim
  dsimp only
  split
  · split
    · constructor <;> rfl
    · exact .refl s
  · exact .refl s

/-! ### Control messages, tags and entries -/

theorem State.offerCtl_fixed (s : State) (t : Tree) (m : CtlMsg) : s.Fixed (s.offerCtl t m) := by constructor <;> rfl
theorem State.giveTag_fixed (s : State) (t : Tree) (tag : Nat) (h : HomeIndex) : s.Fixed (s.giveTag t tag h) := by constructor <;> rfl
theorem State.poolAdd_fixed (s : State) (t : Tree) (g : Nat) : s.Fixed (s.poolAdd t g) := by constructor <;> rfl
theorem State.poolSub_fixed (s : State) (t : Tree) (g : Nat) : s.Fixed (s.poolSub t g) := by constructor <;> rfl
theorem State.drainTag_fixed (s : State) (x : Home) : s.Fixed (s.drainTag x) := by
  unfold State.drainTag
  split
  · exact s.onTree_fixed _ _
  · exact .refl s
theorem State.reoffer_fixed (s : State) (t : Tree) (i : Nat) : s.Fixed (s.reoffer t i) := by
  unfold State.reoffer
  dsimp only
  split
  · exact .refl s
  · split
    · exact .refl s
    · split
      · exact s.setTree_fixed _ _
      · split
        · exact s.setTree_fixed _ _
        · exact .refl s
theorem State.leavePool_fixed (s : State) (x : Home) : s.Fixed (s.leavePool x) := by
  unfold State.leavePool
  split
  · split
    · exact s.poolSub_fixed _ _
    · exact .refl s
  · exact .refl s
theorem State.wakeWalk_fixed (s : State) : s.Fixed s.wakeWalk := by
  unfold State.wakeWalk
  split <;> constructor <;> rfl
theorem State.freeEntry_fixed (s : State) (h : HomeIndex) : s.Fixed (s.freeEntry h) :=
  (s.leavePool_fixed _).trans ((State.drainTag_fixed _ _).trans ((State.leaveForwardList_fixed _ _).trans (State.setHome_fixed _ _ _)))
theorem State.abandonClaim_fixed (s : State) (h : HomeIndex) : s.Fixed (s.abandonClaim h) := (s.onLink_fixed _).trans (State.freeEntry_fixed _ _)
theorem State.leaveIsolated_fixed (s : State) (x : Home) : s.Fixed (s.leaveIsolated x) := by
  unfold State.leaveIsolated
  split
  · split
    · exact s.onTree_fixed _ _
    · exact .refl s
  · exact .refl s
theorem State.closeEntry_fixed (s : State) (h : HomeIndex) (r : LeaveReason) (f : Option Station) : s.Fixed (s.closeEntry h r f) :=
  (s.leaveIsolated_fixed _).trans ((State.leavePool_fixed _ _).trans ((State.drainTag_fixed _ _).trans
    ((State.setHome_fixed _ _ _).trans (State.wakeWalk_fixed _))))
theorem State.isolate_fixed (s : State) (h : HomeIndex) (c : IsolateCause) (e : Option Evidence) : s.Fixed (s.isolate h c e) := by
  unfold State.isolate
  dsimp only
  refine State.Fixed.trans ?_ (State.event_fixed _ _)
  refine (s.setHome_fixed h (s.home h).toIsolated).trans ?_
  split
  · split
    · exact (State.onTree_fixed _ _ _).trans (State.offerCtl_fixed _ _ _)
    · exact State.onTree_fixed _ _ _
  · exact .refl _
theorem State.makeForwardRoom_fixed (s : State) : s.Fixed s.makeForwardRoom := by
  unfold State.makeForwardRoom
  split
  · split
    · exact s.freeEntry_fixed _
    · exact .refl s
  · exact .refl s
theorem State.endClosing_fixed (s : State) (h : HomeIndex) : s.Fixed (s.endClosing h) := by
  unfold State.endClosing
  dsimp only
  split
  · exact s.freeEntry_fixed h
  · exact s.makeForwardRoom_fixed.trans (by constructor <;> rfl)
theorem State.succeedClaim_fixed (s : State) (h : HomeIndex) (m : Option Station) : s.Fixed (s.succeedClaim h m) := by
  unfold State.succeedClaim
  dsimp only
  split
  · split
    · exact .refl s
    · constructor <;> rfl
  · exact .refl s
theorem State.queueWalk_fixed (s : State) (r : WalkRequest) : s.Fixed (s.queueWalk r).1 := by
  unfold State.queueWalk
  split
  · constructor <;> rfl
  · exact .refl s

/-! ### Searches and evidence -/

theorem State.commandCandidate_fixed (s : State) (t : Tree) (target : List Nat) (p : Candidate × Nat) : s.Fixed (s.commandCandidate t target p) := by
  unfold State.commandCandidate
  dsimp only
  split
  · split
    · exact .refl s
    · split
      · constructor <;> rfl
      · split
        · constructor <;> rfl
        · exact .refl s
  · exact .refl s
theorem State.setupProbe_fixed (s : State) (t : Tree) (step : SearchStep) (a b : Nat) : s.Fixed (s.setupProbe t step a b) :=
  (s.onSearch_fixed t _).trans (.foldl (fun s p => s.commandCandidate_fixed t _ p) _ _)
theorem State.startSearch_fixed (s : State) (t : Tree) (c : SearchCause) : s.Fixed (s.startSearch t c) :=
  (s.onTree_fixed t _).trans (State.setupProbe_fixed _ _ _ _ _)
theorem State.endSilence_fixed (t : Tree) (s : State) (h : HomeIndex) : s.Fixed (State.endSilence t s h) := by
  unfold State.endSilence
  dsimp only
  split
  · split
    · constructor <;> rfl
    · exact s.onHome_fixed _ _
  · exact .refl s
theorem State.endSearch_fixed (s : State) (t : Tree) (o : SearchOutcome) (r : SearchReason) : s.Fixed (s.endSearch t o r) :=
  (s.onTree_fixed t _).trans ((State.Fixed.foldl (fun s h => State.endSilence_fixed t s h) _ _).trans
    ((State.onTree_fixed _ _ _).trans (State.event_fixed _ _)))
theorem State.nextProbe_fixed (s : State) (t : Tree) (step : SearchStep) (a b : Nat) : s.Fixed (s.nextProbe t step a b) := by
  unfold State.nextProbe
  split
  · exact s.endSearch_fixed t _ _
  · exact s.setupProbe_fixed t _ _ _
theorem State.examine_fixed (s : State) (t : Tree) (a b : Nat) : s.Fixed (s.examine t a b) := by
  unfold State.examine
  split <;> exact s.nextProbe_fixed t _ _ _
theorem State.popTrail_fixed (s : State) (t : Tree) : s.Fixed (s.popTrail t) := by
  unfold State.popTrail; dsimp only
  split
  · exact s.nextProbe_fixed t _ _ _
  · exact (s.onSearch_fixed t _).trans (State.examine_fixed _ _ _ _)
theorem State.confirmClear_fixed (s : State) (t : Tree) (p : Nat) : s.Fixed (s.confirmClear t p) := by
  unfold State.confirmClear
  split
  · exact .refl s
  · split
    · exact (s.isolate_fixed _ _ _).trans (State.onSearch_fixed _ _ _)
    · split
      · exact s.onSearch_fixed t _
      · exact .refl s
theorem State.verdict_fixed (s : State) (t : Tree) (lit : Bool) : s.Fixed (s.verdict t lit) := by
  unfold State.verdict
  dsimp only
  split
  · exact s.endSearch_fixed t _ _
  · split
    · exact s.nextProbe_fixed t _ _ _
    · exact s.examine_fixed t _ _
  · exact s.examine_fixed t _ _
  · exact (s.onSearch_fixed t _).trans (State.examine_fixed _ _ _ _)
  · exact (s.confirmClear_fixed t _).trans (State.nextProbe_fixed _ _ _ _ _)
  · exact s.popTrail_fixed t
  · exact s.endSearch_fixed t _ _
  · exact s.popTrail_fixed t
  · exact s.endSearch_fixed t _ _
  · exact s.endSearch_fixed t _ _
theorem State.observe_fixed (s : State) (t : Tree) (dark : Bool) : s.Fixed (s.observe t dark) := by
  unfold State.observe
  dsimp only
  split
  · exact .refl s
  · split
    · exact (s.onSearch_fixed t _).trans (State.verdict_fixed _ _ _)
    · exact s.onSearch_fixed t _
theorem State.charge_fixed (s : State) (h : HomeIndex) (k : Evidence) : s.Fixed (s.charge h k) := by
  unfold State.charge
  dsimp only
  split
  · split
    · exact (s.onHome_fixed h _).trans (State.isolate_fixed _ _ _ _)
    · exact s.onHome_fixed h _
  · split
    · exact (s.onHome_fixed h _).trans (State.isolate_fixed _ _ _ _)
    · exact s.onHome_fixed h _
  · split
    · exact (s.onHome_fixed h _).trans (State.isolate_fixed _ _ _ _)
    · exact s.onHome_fixed h _
  all_goals first
    | exact s.onHome_fixed h _
    | (constructor <;> rfl)
theorem State.evidence_fixed (s : State) (t : Tree) (h : HomeIndex) (k : Evidence) : s.Fixed (s.evidence t h k) :=
  (s.onTree_fixed t _).trans (State.charge_fixed _ _ _)
theorem State.chargeIdentity_fixed (s : State) (h : HomeIndex) : s.Fixed (s.chargeIdentity h) :=
  State.Fixed.trans (b := { s with identities := bump s.identities }) (by constructor <;> rfl) (State.charge_fixed _ _ _)
theorem State.addDark_fixed (s : State) (t : Tree) (w : Nat) : s.Fixed (s.addDark t w) := by
  unfold State.addDark
  dsimp only
  split
  · exact .refl s
  · split
    · exact (s.onTree_fixed t _).trans ((State.onTree_fixed _ _ _).trans (State.startSearch_fixed _ _ _))
    · exact s.onTree_fixed t _
theorem State.overlap_fixed (s : State) (t : Tree) : s.Fixed (s.overlap t) := (s.onTree_fixed t _).trans (State.addDark_fixed _ _ _)
theorem State.dark_fixed (s : State) (t : Tree) : s.Fixed (s.dark t) := (s.onTree_fixed t _).trans (State.addDark_fixed _ _ _)

/-! ### Enrolment -/

theorem State.noteUnknown_fixed (s : State) (id : Identity) (t : Tree) (r : UnknownReason) : s.Fixed (s.noteUnknown id t r) := by constructor <;> rfl
theorem State.ignoreCapture_fixed (s : State) : s.Fixed s.ignoreCapture := by constructor <;> rfl
theorem State.unmatched_fixed (s : State) : s.Fixed s.unmatched := by constructor <;> rfl
theorem State.sendObject_fixed (s : State) (c : Station) (id : Identity) (i : Byte) (k : ObjectKind) : s.Fixed (s.sendObject c id i k) := by
  constructor <;> rfl
theorem State.sendRelease_fixed (s : State) (c : Station) (id : Identity) (i : Byte) : s.Fixed (s.sendRelease c id i) := by constructor <;> rfl
theorem State.dealCapture_fixed (t : Tree) (s : State) (id : Identity) : s.Fixed (State.dealCapture t s id) := by
  unfold State.dealCapture
  split
  · exact s.onEnrol_fixed _
  · have h := s.queueWalk_fixed (wholeWalk (.capture t) id)
    split
    · rename_i s' e
      rw [e] at h; exact h
    · rename_i s' e
      rw [e] at h; exact h.trans (by constructor <;> rfl)
theorem State.capture_fixed (s : State) (t : Tree) (bs : List (List Byte)) : s.Fixed (s.capture t bs) :=
  ((s.onTree_fixed t _).trans (State.onEnrol_fixed _ _)).trans (.foldl (fun s id => State.dealCapture_fixed t s id) _ _)
theorem State.admitCapture_fixed (s : State) (t : Tree) (id : Identity) : s.Fixed (s.admitCapture t id) := by
  unfold State.admitCapture
  split
  · exact s.onEnrol_fixed _
  · split
    · exact s.noteUnknown_fixed _ _ _
    · split
      · exact s.noteUnknown_fixed _ _ _
      · split
        · exact s.noteUnknown_fixed _ _ _
        · split
          · exact s.noteUnknown_fixed _ _ _
          · exact (s.setHome_fixed _ _).trans ((State.poolAdd_fixed _ _ _).trans (State.offerClaim_fixed _ _))
theorem State.rejoin_fixed (s : State) (h : HomeIndex) (t : Tree) (id : Identity) : s.Fixed (s.rejoin h t id) := by
  unfold State.rejoin
  dsimp only
  split
  · constructor <;> rfl
  · exact s.setHome_fixed _ _
theorem State.rejoinMoved_fixed (s : State) (h : HomeIndex) (t : Tree) (id : Identity) : s.Fixed (s.rejoinMoved h t id) := by
  unfold State.rejoinMoved
  dsimp only
  split
  · split
    · exact s.noteUnknown_fixed _ _ _
    · exact (s.leavePool_fixed _).trans ((State.drainTag_fixed _ _).trans (by constructor <;> rfl))
  · exact s.noteUnknown_fixed _ _ _
theorem State.localConflict_fixed (s : State) (h : HomeIndex) (t : Tree) (id : Identity) : s.Fixed (s.localConflict h t id) := by
  unfold State.localConflict
  dsimp only
  split
  · exact (s.onEnrol_fixed _).trans ((State.event_fixed _ _).trans (State.abandonClaim_fixed _ _))
  · exact (s.onEnrol_fixed _).trans ((State.event_fixed _ _).trans (State.chargeIdentity_fixed _ _))
theorem State.actCapture_fixed (s : State) (t : Tree) (id : Identity) : s.Fixed (s.actCapture t id) := by
  unfold State.actCapture
  dsimp only
  split
  · exact s.admitCapture_fixed t id
  · split
    case h_1 => exact s.admitCapture_fixed t id
    case h_2 => exact (s.freeEntry_fixed _).trans (State.admitCapture_fixed _ _ _)
    all_goals (try split)
    all_goals first
      | exact s.rejoin_fixed _ _ _
      | exact s.rejoinMoved_fixed _ _ _
      | exact s.localConflict_fixed _ _ _
      | exact s.ignoreCapture_fixed
theorem State.hearClaim_fixed (s : State) (c : Station) (id : Identity) (i : Byte) : s.Fixed (s.hearClaim c id i) := by
  unfold State.hearClaim
  dsimp only
  have h := (s.onEnrol_fixed fun e => e.forget id).trans (State.queueWalk_fixed _ (wholeWalk (.claim c i) id))
  split
  · rename_i s' e
    rw [e] at h; exact h
  · rename_i s' e
    rw [e] at h; exact h.trans (State.sendObject_fixed _ _ _ _ _)
theorem State.actClaim_fixed (s : State) (c : Station) (i : Byte) (id : Identity) : s.Fixed (s.actClaim c i id) := by
  unfold State.actClaim
  dsimp only
  split
  · exact .refl s
  · split
    all_goals first
      | exact .refl s
      | exact (s.closeEntry_fixed _ _ _).trans (State.sendRelease_fixed _ _ _ _)
      | exact (s.onHome_fixed _ _).trans (State.sendRelease_fixed _ _ _ _)
      | exact s.onHome_fixed _ _
      | exact (s.sendObject_fixed _ _ _ _).trans (State.chargeIdentity_fixed _ _)
      | exact s.sendObject_fixed _ _ _ _
      | exact (s.abandonClaim_fixed _).trans ((State.onEnrol_fixed _ _).trans (State.event_fixed _ _))
theorem State.actRelease_fixed (s : State) (c : Station) (id : Identity) : s.Fixed (s.actRelease c id) := by
  unfold State.actRelease
  split
  · exact .refl s
  · split
    all_goals first
      | exact s.onHome_fixed _ _
      | exact .refl s
theorem State.takeObject_fixed (s : State) (st : Station) (id : Identity) (i : Byte) (k : ObjectKind) : s.Fixed (s.takeObject st id i k) := by
  unfold State.takeObject
  split
  · exact s.unmatched_fixed
  · split
    · cases k
      · exact (s.abandonClaim_fixed _).trans ((State.onEnrol_fixed _ _).trans (State.event_fixed _ _))
      · dsimp only [State.objectWait]
        split
        · exact .refl s
        · split
          · exact s.abandonClaim_fixed _
          · split
            · exact s.onHome_fixed _ _
            · exact (s.onHome_fixed _ _).trans (State.offerClaim_fixed _ _)
    · cases k
      · dsimp only [State.lateObject]
        split
        · exact (s.event_fixed _).trans (State.chargeIdentity_fixed _ _)
        · exact s.event_fixed _
      · exact .refl s
theorem State.takeRelease_fixed (s : State) (r : Station) (id : Identity) (i : Byte) : s.Fixed (s.takeRelease r id i) := by
  unfold State.takeRelease
  split
  · exact s.unmatched_fixed
  · dsimp only
    split
    · exact s.succeedClaim_fixed _ _
    · split
      · exact s.onHome_fixed _ _
      · exact .refl s
theorem State.failMeasurement_fixed (s : State) (h : HomeIndex) (r : UnknownReason) : s.Fixed (s.failMeasurement h r) := by
  unfold State.failMeasurement
  dsimp only
  split
  · exact s.setHome_fixed _ _
  · split
    · exact (s.freeEntry_fixed _).trans ((State.noteUnknown_fixed _ _ _ _).trans (State.onEnrol_fixed _ _))
    · exact s.freeEntry_fixed _
theorem State.failAttempt_fixed (s : State) (h : HomeIndex) : s.Fixed (s.failAttempt h) := by
  unfold State.failAttempt
  dsimp only
  split
  · exact (s.onHome_fixed _ _).trans (State.failMeasurement_fixed _ _ _)
  · exact s.onHome_fixed _ _
theorem State.acceptAttempt_fixed (s : State) (h : HomeIndex) (t : Tree) (r : Nat) (m : Sample) : s.Fixed (s.acceptAttempt h t r m) := by
  unfold State.acceptAttempt
  dsimp only
  split
  · exact (s.setHome_fixed _ _).trans (State.offerCtl_fixed _ _ _)
  · exact s.setHome_fixed _ _
theorem State.takeSample_fixed (s : State) (h : HomeIndex) (t : Tree) (n : Nat) (x : Option Sample) : s.Fixed (s.takeSample h t n x) := by
  unfold State.takeSample
  dsimp only
  split
  · exact s.failAttempt_fixed _
  · split
    · exact s.failMeasurement_fixed _ _
    · split
      · exact s.onHome_fixed _ _
      · split
        · split
          · exact (s.onHome_fixed _ _).trans (State.acceptAttempt_fixed _ _ _ _ _)
          · exact s.onHome_fixed _ _
        · exact (s.onHome_fixed _ _).trans (State.failAttempt_fixed _ _)
theorem State.zone_fixed (s : State) (t : Tree) (z : ZoneRx) : s.Fixed (s.zone t z) := by
  unfold State.zone
  dsimp only
  split
  · exact .refl s
  · split
    · exact .refl s
    · split
      · exact (s.onTree_fixed _ _).trans (State.capture_fixed _ _ _)
      · unfold State.measureZone
        dsimp only
        split
        · exact (s.onTree_fixed _ _).trans (State.takeSample_fixed _ _ _ _ _)
        · exact s.onTree_fixed _ _

/-! ### The round -/

theorem State.addSince_fixed (s : State) (w : Window) : s.Fixed (s.addSince w) := s.onHome_fixed _ _
theorem State.swapTree_fixed (s : State) (t : Tree) : s.Fixed (s.swapTree t) := by
  unfold State.swapTree
  dsimp only
  split
  · exact (s.setTree_fixed _ _).trans (.foldl (fun s w => s.addSince_fixed w) _ _)
  · exact .refl s
theorem State.reportSent_fixed (t : Tree) (s : State) (m : CtlMsg) : s.Fixed (State.reportSent t s m) := by
  have ha : ∀ tag, s.Fixed (s.announced t tag) := fun tag => by
    unfold State.announced
    dsimp only
    split
    · exact .refl s
    · split
      · exact s.onHome_fixed _ _
      · exact .refl s
  have hd : ∀ tag, s.Fixed (s.delaySent t tag) := fun tag => by
    unfold State.delaySent
    split
    · exact .refl s
    · split
      · exact s.onHome_fixed _ _
      · exact .refl s
  unfold State.reportSent
  split
  all_goals first
    | exact s.onTree_fixed _ _
    | exact ha _
    | exact hd _
    | exact .refl s
theorem State.sendHeader_fixed (s : State) (t : Tree) : s.Fixed (s.sendHeader t) := by
  unfold State.sendHeader
  dsimp only
  split
  · exact ((s.emit_fixed _).trans (State.onTree_fixed _ _ _)).trans (.foldl (fun s m => State.reportSent_fixed t s m) _ _)
  · exact .refl s

/-! ### Bursts -/

theorem State.deliverPayload_fixed (s : State) (t : Tree) (h : HomeIndex) (ps : Option (List (List Byte))) : s.Fixed (s.deliverPayload t h ps) := by
  unfold State.deliverPayload
  split
  · exact s.onTree_fixed _ _
  · exact (State.Fixed.foldl (fun s p => s.emit_fixed _) _ s).trans (State.onHome_fixed _ _ _)
theorem State.accumulateDrift_fixed (s : State) (t : Tree) (h : HomeIndex) (δ : Int) : s.Fixed (s.accumulateDrift t h δ) := by
  unfold State.accumulateDrift
  dsimp only
  split
  · exact .refl s
  · split
    · exact s.setHome_fixed _ _
    · split
      · split
        · exact .refl s
        · split
          · exact (s.setHome_fixed _ _).trans (State.offerCtl_fixed _ _ _)
          · exact s.setHome_fixed _ _
      · exact .refl s
theorem State.judgeBurst_fixed (s : State) (c : Config) (t : Tree) (h : HomeIndex) (δ : Int) (m l : Nat) : s.Fixed (s.judgeBurst c t h δ m l) := by
  unfold State.judgeBurst
  dsimp only
  split
  · split
    · exact (s.evidence_fixed _ _ _).trans (State.overlap_fixed _ _)
    · exact s.overlap_fixed _
  · split
    · exact s.evidence_fixed _ _ _
    · exact .refl s
theorem State.lostReturn_fixed (s : State) (c : Config) (h : HomeIndex) (δ : Int) : s.Fixed (s.lostReturn c h δ) := by
  unfold State.lostReturn
  split
  · split <;> exact s.onHome_fixed _ _
  · exact .refl s
theorem State.goodServed_fixed (s : State) (c : Config) (t : Tree) (h : HomeIndex) (b : BurstRx) (w : Window) (δ : Int) (d : Head) (m : Nat) :
    s.Fixed (s.goodServed c t h b w δ d m) :=
  ((s.onHome_fixed _ _).trans (State.onHome_fixed _ _ _)).trans ((State.deliverPayload_fixed _ _ _ _).trans ((State.onHome_fixed _ _ _).trans
    ((State.accumulateDrift_fixed _ _ _ _).trans (State.judgeBurst_fixed _ _ _ _ _ _ _))))
theorem State.goodLost_fixed (s : State) (c : Config) (t : Tree) (h : HomeIndex) (b : BurstRx) (w : Window) (δ : Int) (d : Head) (m : Nat) :
    s.Fixed (s.goodLost c t h b w δ d m) := by
  unfold State.goodLost
  dsimp only
  split
  · split
    · exact (s.onHome_fixed _ _).trans ((State.deliverPayload_fixed _ _ _ _).trans ((State.judgeBurst_fixed _ _ _ _ _ _ _).trans
        (State.lostReturn_fixed _ _ _ _)))
    · exact (s.onHome_fixed _ _).trans ((State.deliverPayload_fixed _ _ _ _).trans ((State.lostReturn_fixed _ _ _ _).trans
        (State.judgeBurst_fixed _ _ _ _ _ _ _)))
  · exact (s.onHome_fixed _ _).trans ((State.onHome_fixed _ _ _).trans ((State.deliverPayload_fixed _ _ _ _).trans
      ((State.onHome_fixed _ _ _).trans ((State.lostReturn_fixed _ _ _ _).trans (State.judgeBurst_fixed _ _ _ _ _ _ _)))))
theorem State.takeBurst_fixed (s : State) (c : Config) (t : Tree) (w : Window) (b : BurstRx) : s.Fixed (s.takeBurst c t w b) := by
  unfold State.takeBurst
  dsimp only
  split
  · split
    · exact s.onHome_fixed _ _
    · exact .refl s
  · exact s.onTree_fixed _ _
  · split
    · split
      · exact s.goodLost_fixed _ _ _ _ _ _ _ _
      · exact s.goodServed_fixed _ _ _ _ _ _ _ _
    · exact .refl s
theorem State.takeGuard_fixed (s : State) (t : Tree) (v : Option Window) (l : Bool) (w : Window) (b : BurstRx) : s.Fixed (s.takeGuard t v l w b) := by
  unfold State.takeGuard
  dsimp only
  split
  · exact s.evidence_fixed _ _ _
  · exact .refl s
theorem State.burst_fixed (s : State) (c : Config) (t : Tree) (b : BurstRx) : s.Fixed (s.burst c t b) := by
  unfold State.burst
  dsimp only
  split
  · exact .refl s
  · split
    · exact (s.onTree_fixed _ _).trans ((State.takeGuard_fixed _ _ _ _ _ _).trans (State.takeBurst_fixed _ _ _ _ _))
    · exact (s.onTree_fixed _ _).trans ((State.takeBurst_fixed _ _ _ _ _).trans (State.takeGuard_fixed _ _ _ _ _ _))
theorem State.handQuiet_fixed (s : State) (t : Tree) (o d : Bool) : s.Fixed (s.handQuiet t o d) := by
  unfold State.handQuiet
  split
  · split
    · exact s.observe_fixed _ _
    · exact .refl s
  · split
    · exact s.dark_fixed _
    · exact .refl s
theorem State.quietWindow_fixed (s : State) (c : Config) (t : Tree) (l : Byte) : s.Fixed (s.quietWindow c t l) := by
  unfold State.quietWindow
  dsimp only
  split
  · exact (s.onTree_fixed _ _).trans (State.handQuiet_fixed _ _ _ _)
  · split
    · exact (s.onTree_fixed _ _).trans (State.handQuiet_fixed _ _ _ _)
    · exact .refl s

/-! ### Requests on homes and trees -/

theorem State.pardonHome_fixed (s : State) (h : HomeIndex) : s.Fixed (s.pardonHome h) := by
  unfold State.pardonHome
  dsimp only
  have k := (s.leaveIsolated_fixed (s.home h)).trans (State.setHome_fixed _ h (({ s.home h with score := 0 } : Home).toMeasuring .announcing))
  split
  · exact k.trans ((State.onTree_fixed _ _ _).trans (State.offerCtl_fixed _ _ _))
  · exact k
theorem State.writeClass_fixed (s : State) (h : HomeIndex) (g p : Nat) : s.Fixed (s.writeClass h g p) := by
  unfold State.writeClass
  dsimp only
  split
  · exact (s.setHome_fixed _ _).trans (State.onTree_fixed _ _ _)
  · exact s.setHome_fixed _ _
theorem State.stopTree_fixed (s : State) (t : Tree) : s.Fixed (s.stopTree t) := by
  unfold State.stopTree
  dsimp only
  split
  · exact (s.endSearch_fixed _ _ _).trans ((State.onTree_fixed _ _ _).trans (State.mapHomes_fixed _ _))
  · exact (s.onTree_fixed _ _).trans (State.mapHomes_fixed _ _)
theorem State.assignAgain_fixed (t : Tree) (s : State) (h : HomeIndex) : s.Fixed (State.assignAgain t s h) := by
  unfold State.assignAgain
  dsimp only
  split
  · split
    · split
      · exact .refl s
      · exact s.offerCtl_fixed _ _
    · exact .refl s
  · exact .refl s
theorem State.laserOffAgain_fixed (t : Tree) (s : State) (h : HomeIndex) : s.Fixed (State.laserOffAgain t s h) := by
  unfold State.laserOffAgain
  dsimp only
  split
  · split
    · exact (s.setHome_fixed _ _).trans (State.offerCtl_fixed _ _ _)
    · exact s.setHome_fixed _ _
  · exact .refl s
theorem State.startTree_fixed (s : State) (c : Config) (t : Tree) : s.Fixed (s.startTree c t) :=
  (s.onTree_fixed _ _).trans ((State.mapHomes_fixed _ _).trans ((State.Fixed.foldl (fun s h => State.assignAgain_fixed t s h) _ _).trans
    (.foldl (fun s h => State.laserOffAgain_fixed t s h) _ _)))

end Sys2Proof.Machine
end

