-- ==== Sys2Proof/Laws/Parts.lean ====
section
/-! SUPPORT. What the operations on one home record and on one tree change and what they leave: each record as itself with the changed fields named. -/

namespace Sys2Proof.Machine

/-! ### Home records -/

theorem Home.onOpen_frame (x : Home) (f : Bank → Bank) : x.onOpen f = { x with bankA := (x.onOpen f).bankA, bankB := (x.onOpen f).bankB } := by
  unfold Home.onOpen; split <;> rfl

theorem Home.onOpen_openBank (x : Home) (f : Bank → Bank) : (x.onOpen f).openBank = f x.openBank := by
  unfold Home.onOpen Home.openBank; split <;> simp_all

theorem Home.onOpen_otherBank (x : Home) (f : Bank → Bank) : (x.onOpen f).otherBank = x.otherBank := by
  unfold Home.onOpen Home.otherBank; split <;> simp_all

theorem Home.deliver_frame (x : Home) (b : Band) (n : Nat) :
    x.deliver b n = { x with bankA := (x.deliver b n).bankA, bankB := (x.deliver b n).bankB, pending := (x.deliver b n).pending } := by
  unfold Home.deliver Home.onOpen; dsimp only; (repeat' split) <;> rfl

theorem Home.pendingToMeters_frame (x : Home) :
    x.pendingToMeters = { x with bankA := x.pendingToMeters.bankA, bankB := x.pendingToMeters.bankB, pending := Quad.fill 0 } := by
  unfold Home.pendingToMeters Home.onOpen; dsimp only; split <;> rfl

theorem Home.pendingToDiscarded_frame (x : Home) :
    x.pendingToDiscarded =
      { x with bankA := x.pendingToDiscarded.bankA, bankB := x.pendingToDiscarded.bankB, pending := Quad.fill 0,
               discarded := x.discarded + x.pending.sum } := by
  unfold Home.pendingToDiscarded Home.onOpen; dsimp only; split <;> rfl

theorem Home.swapBanks_frame (x : Home) (m : Moment) :
    x.swapBanks m = { x with bankA := (x.swapBanks m).bankA, bankB := (x.swapBanks m).bankB, secondOpen := !x.secondOpen,
                             closedWaiting := true, discarded := 0 } := by
  unfold Home.swapBanks; dsimp only; split <;> simp_all

theorem Home.halve_score (x : Home) : x.halve.score = x.score / 2 := by
  unfold Home.halve Home.pendingToMeters Home.onOpen; dsimp only; (repeat' split) <;> rfl

theorem Home.boundaryTick_frame (x : Home) (r : Bool) :
    x.boundaryTick r = { x with soak := (x.boundaryTick r).soak, claim := (x.boundaryTick r).claim } := by
  unfold Home.boundaryTick; split <;> (try split) <;> rfl

theorem Home.refreshTick_frame (x : Home) (r : Bool) :
    x.refreshTick r = { x with refresh := (x.refreshTick r).refresh, refreshDue := (x.refreshTick r).refreshDue } := by
  unfold Home.refreshTick; (repeat' split) <;> rfl

theorem Home.afterBuild_frame (x : Home) (t : Tree) (d : Bool) : x.afterBuild t d = { x with deferred := (x.afterBuild t d).deferred } := by
  unfold Home.afterBuild; split <;> rfl

/-! ### Trees -/

theorem tagIndex_val {tag : Nat} {i : Fin 62} (h : tagIndex tag = some i) : tag = i.val + 1 := by
  unfold tagIndex at h
  split at h
  · split at h
    · simp at h
    · simp only [Option.some.injEq] at h; subst h; simp only; omega
  · simp at h

theorem tagIndex_inj {a b : Nat} {i : Fin 62} (ha : tagIndex a = some i) (hb : tagIndex b = some i) : a = b := by
  rw [tagIndex_val ha, tagIndex_val hb]

/-- Reading a tag's place after writing one. -/
theorem TreeLine.setPlace_place (t : TreeLine) (tag k : Nat) (p : TagPlace) :
    (t.setPlace tag p).place k = if k = tag then (t.place k).map fun _ => p else t.place k := by
  unfold TreeLine.setPlace TreeLine.place
  split
  · rename_i i hi
    by_cases hk : k = tag
    · subst hk; simp [hi]
    · rw [if_neg hk]
      cases hj : tagIndex k with
      | none => rfl
      | some j =>
        have : i.val ≠ j.val := fun e => hk ((tagIndex_val hj).trans (by rw [tagIndex_val hi]; omega))
        simp [this]
  · rename_i hn
    by_cases hk : k = tag
    · subst hk; simp [hn]
    · rw [if_neg hk]

theorem TreeLine.setPlace_frame (t : TreeLine) (tag : Nat) (p : TagPlace) : t.setPlace tag p = { t with tags := (t.setPlace tag p).tags } := by
  unfold TreeLine.setPlace; split <;> rfl

theorem TreeLine.freeTag_frame (t : TreeLine) (tag : Nat) : t.freeTag tag = { t with tags := (t.freeTag tag).tags } := by
  unfold TreeLine.freeTag; split
  · exact t.setPlace_frame tag .free
  · rfl

/-- R7: freeing a draining tag leaves every held tag as it is. -/
theorem TreeLine.freeTag_held (t : TreeLine) (tag k : Nat) (h : HomeIndex) (hk : t.place k = some (.held h)) :
    (t.freeTag tag).place k = some (.held h) := by
  unfold TreeLine.freeTag
  split
  · rename_i hd
    rw [TreeLine.setPlace_place]
    split
    · rename_i e; subst e; rw [hd] at hk; simp at hk
    · exact hk
  · exact hk

theorem TreeLine.keep_frame (t : TreeLine) (m : CtlMsg) : t.keep m = { t with held := (t.keep m).held } := by
  unfold TreeLine.keep; (repeat' split) <;> rfl

theorem TreeLine.lose_frame (t : TreeLine) (m : CtlMsg) :
    t.lose m = { t with held := (t.lose m).held, tags := (t.lose m).tags, lostMessages := bump t.lostMessages } := by
  unfold TreeLine.lose; dsimp only; split
  · rw [TreeLine.freeTag_frame]
  · rw [TreeLine.keep_frame]

/-- R26, R28: offering a control message changes the queue, what producers keep, the tag table (a displaced DROP) and the lost-message counter, and nothing else. -/
theorem TreeLine.offer_frame (t : TreeLine) (m : CtlMsg) :
    t.offer m = { t with queue := (t.offer m).queue, held := (t.offer m).held, tags := (t.offer m).tags, lostMessages := (t.offer m).lostMessages } := by
  have hp : ∀ n : CtlMsg, t.place16 n = { t with queue := (t.place16 n).queue, held := (t.place16 n).held, tags := (t.place16 n).tags,
                                                 lostMessages := (t.place16 n).lostMessages } := fun n => by
    unfold TreeLine.place16
    split
    · rfl
    · split
      · split
        · split
          · rw [TreeLine.keep_frame]
          · rw [TreeLine.lose_frame]
        · rw [TreeLine.keep_frame]
      · rw [TreeLine.keep_frame]
  unfold TreeLine.offer
  split
  · split
    · rfl
    · exact hp m
  all_goals exact hp m

/-- R26, R28: with room in the queue a routine message other than a DELAY-SET joins the tail. -/
theorem TreeLine.offer_routine (t : TreeLine) (m : CtlMsg) (hm : ∀ n src, m.kind ≠ .delaySet n src) (hu : m.urgent = false)
    (hr : t.queue.length < 16) : t.offer m = { t with queue := t.queue ++ [m] } := by
  have hi : ∀ q : List CtlMsg, insertCtl m q = q ++ [m] := fun q => by
    induction q with
    | nil => rfl
    | cons x xs ih => simp [insertCtl, hu, ih]
  unfold TreeLine.offer
  split
  · rename_i n src hk; exact absurd hk (hm n src)
  all_goals simp [TreeLine.place16, hr, hi]

/-- R26, R28: with room in the queue an urgent message stands behind the urgent ones. -/
theorem TreeLine.offer_urgent (t : TreeLine) (m : CtlMsg) (hu : m.urgent = true) (hr : t.queue.length < 16) :
    t.offer m = { t with queue := insertCtl m t.queue } := by
  unfold TreeLine.offer
  split
  · rename_i n src hk; simp [CtlMsg.urgent, CtlKind.urgent, hk] at hu
  all_goals simp [TreeLine.place16, hr]

theorem TreeLine.drain_frame (t : TreeLine) (tag : Nat) :
    t.drain tag = { t with queue := (t.drain tag).queue, held := (t.drain tag).held, tags := (t.drain tag).tags,
                           lostMessages := (t.drain tag).lostMessages } := by
  unfold TreeLine.drain
  dsimp only
  rw [TreeLine.offer_frame, TreeLine.setPlace_frame]

theorem TreeLine.epochEnd_frame (t : TreeLine) :
    t.epochEnd = { t with darkCounter := t.epochEnd.darkCounter, holdOff := t.epochEnd.holdOff } := rfl

end Sys2Proof.Machine
end

