-- ==== Sys2Proof/Laws/Step.lean ====
section
/-! SUPPORT. What a step can do: it always answers a next state, and what every command keeps every step keeps. -/

namespace Sys2Proof.Machine

/-- Every command answers a next state. -/
theorem exec_next (c : Instr) (s : State) : ∃ s', exec c s = .next s' := by
  cases c <;> exact ⟨_, rfl⟩

/-- A step that answers a next state idled on an empty queue or ran the command at the front. -/
theorem step_cases {s s' : State} (h : step s = .next s') :
    (s.pending = [] ∧ s' = s) ∨ ∃ c rest, s.pending = c :: rest ∧ exec c { s with pending := rest } = .next s' := by
  unfold step at h
  split at h
  · rename_i c rest hp; exact .inr ⟨c, rest, hp, h⟩
  · rename_i hp; simp only [Host.Outcome.next.injEq] at h; exact .inl ⟨hp, h.symm⟩

/-- An invariant that does not read the queue of commands and that every command keeps is kept by every step. -/
theorem KeptByEveryStep.of_exec {inv : State → Prop} (hq : ∀ s q, inv s → inv { s with pending := q })
    (he : ∀ c s s', inv s → exec c s = .next s' → inv s') : KeptByEveryStep inv := by
  intro s s' hs h
  obtain ⟨-, rfl⟩ | ⟨c, rest, -, hx⟩ := step_cases h
  · exact hs
  · exact he c _ _ (hq s rest hs) hx

/-- A command whose meaning is a state change answers that change. -/
theorem State.does_next {s s' : State} {f : State → State} : s.does f = .next s' ↔ s' = f s.begin := by
  simp [State.does, eq_comm]

end Sys2Proof.Machine
end

