-- ==== Sys2Proof/Tests/Slice0.lean ====
section
/-! SUPPORT. Tests of the model against the spec's layouts and worked examples, and a witness for every statement that has hypotheses. -/

namespace Sys2Proof.Tests

-- One theorem after another: each kernel evaluation of its own thread takes much memory.
set_option Elab.async false

open Sys2Proof.Machine

/-! ## Small states -/

/-- Station 0 manages; 1 to 3 have the rank of their number, every other station rank 1. -/
def rank (st : Station) : Rank := if st = 0 then 0 else if st = 2 then 2 else if st = 3 then 3 else 1

/-- The configuration of 11.3, but for its rank table. -/
def cfg : Config :=
  { capacity := 2000, ranks := ⟨⟨(List.finRange 16).map rank⟩, by simp⟩, enable := ⟨true, true, true, false⟩, spread := ⟨20, 20, 80, 0⟩, discovery := 500,
    quiet := 16, dark := 40, overlap := 12, drift := 8, kOnline := 4, soak := 1024, lostTimeout := 600, close := ⟨4, 0, 0⟩ }

/-- Station 4 in RUN, every tree still STOPPED. -/
def run : State := { State.reset with config := some cfg }

/-- The identity of the tests, as a number and as its bytes. -/
def ident : Identity := 0x1122334455667788

def identBytes : List Byte := [0x11, 0x22, 0x33, 0x44, 0x55, 0x66, 0x77, 0x88]

/-- A frame for station 4 alone from the management station, and one for all stations. -/
def me : Rx := ⟨4, 0⟩

def all : Rx := ⟨31, 0⟩

/-- Home 0 on tree A in a state, with tag 1. -/
def homeIn (st : HomeState) : Home :=
  { Home.free with state := st, identity := some ident, account := some 7, tree := some .a, tag := some 1, g := 60, p := 300, eq := some 1000,
                   level := 1600 }

/-- Tree A RUNNING with tag 1 held by home 0, the pool its 60. -/
def treeA : TreeLine := { TreeLine.atReset with running := true, pool := 60, tags := TreeLine.atReset.tags.set 0 (.held 0) }

/-- Station 4 in RUN with tree A RUNNING and one home. -/
def with0 (x : Home) : State := (run.setTree .a treeA).setHome 0 x

/-- A frame of a transmit queue that is no claim. -/
def frame0 : Frame := ⟨31, .share 900 600, false⟩

/-- A sender in a phase, on an attempt of a frame. -/
def sending (f : Frame) (a : Nat) (ph : SenderPhase) : State := { run with link := { run.link with current := some (f, a), phase := ph } }

/-- What an outcome holds, for a test that reads one figure of it. -/
def after (o : Host.Outcome State Fault Refusal) (p : State → Bool) : Bool :=
  match o with
  | .next s => p s
  | _ => false

/-- One window on tree A for home 0. -/
def window0 (x : Home) : State := (with0 x).onTree .a fun t => { t with active := ⟨[⟨0, 1, 0, 3⟩], none, false⟩ }

/-- A head of tag 1 with report 95 and no payload, its check computed outside the model. -/
def head1 : List Byte := [0x01, 0x00, 0x5F, 0x00, 0x00, 0xC9, 0xA2]

/-- A probe of tree A in a phase. -/
def searching (ph : ProbePhase) (settle seen : Nat) : State :=
  (with0 (homeIn .online)).onTree .a fun t =>
    { t with active := ⟨[], none, true⟩
             search := { SearchContext.idle none with running := true, candidates := [⟨0, ident⟩], probe := 1, phase := ph, settle := settle, observations := seen } }

/-- A search queue with FINDs of the home's identity. -/
def finding (waiting : Nat) : State := { with0 (homeIn .online) with walks := List.replicate waiting ⟨.find 14 9, ident, 0, 128⟩ }

/-! ## Well-formedness: one ill-formed term for each check -/

theorem test_wf_short_window : (Instr.burstReceived .a ⟨[0, 0], 0, 0, false, none, [], true, true⟩).wellFormed = false := by decide
theorem test_wf_long_window : (Instr.burstReceived .a ⟨List.replicate 2001 0, 0, 0, false, none, [], true, true⟩).wellFormed = false := by decide +kernel
theorem test_wf_head_too_early : (Instr.burstReceived .a ⟨[0, 9, 9], 9, 9, false, some (-65, List.replicate 7 0), [], true, true⟩).wellFormed = false := by decide
theorem test_wf_head_too_late : (Instr.burstReceived .a ⟨[0, 9, 9], 9, 9, false, some (64, List.replicate 7 0), [], true, true⟩).wellFormed = false := by decide
theorem test_wf_head_length : (Instr.burstReceived .a ⟨[0, 9, 9], 9, 9, false, some (0, [1]), [], true, true⟩).wellFormed = false := by decide
theorem test_wf_head_blocks : (Instr.burstReceived .a ⟨[0, 9, 9], 9, 8, false, some (0, List.replicate 7 0), [], true, true⟩).wellFormed = false := by decide
theorem test_wf_zone_head : (Instr.zoneReceived .a ⟨[], [⟨0, 9, 9, [1]⟩]⟩).wellFormed = false := by decide
theorem test_wf_walk_report : (Instr.findWalkComplete (.examinedTo 129)).wellFormed = false := by decide
theorem test_wf_payload : (Instr.claim me (List.replicate 97 0)).wellFormed = false := by decide +kernel
theorem test_wf_arguments : (Instr.time me 1 (List.replicate 94 0)).wellFormed = false := by decide +kernel
theorem test_wf_known_class : (Instr.unknownClass me 7 []).wellFormed = false := by decide
theorem test_wf_known_kind : (Instr.unknownRequestKind me [0, 1, 19]).wellFormed = false := by decide
theorem test_wf_accepts : (Instr.burstReceived .a ⟨[0, 9, 9], 9, 9, false, some (63, List.replicate 7 0), [], true, true⟩).wellFormed = true := by decide

/-! ## Frames on the line (Tables 12-1, 12-2 and 12-4), their checks computed outside the model -/

/-- The check of R170 over the nine digits, the figure this CRC is known by. -/
theorem test_crc : crc16 [0x31, 0x32, 0x33, 0x34, 0x35, 0x36, 0x37, 0x38, 0x39] = 0x29B1 := by decide +kernel
theorem test_line_claim :
    decodeLine [0x7E, 0x1F, 0x07, 0x01, 0x0A, 0x11, 0x22, 0x33, 0x44, 0x55, 0x66, 0x77, 0x88, 0x00, 0x03, 0x61, 0x77] =
      .claim ⟨31, 7⟩ (identBytes ++ [0, 3]) := by decide +kernel
theorem test_line_object :
    decodeLine [0x7E, 0x04, 0x07, 0x02, 0x0A, 0x11, 0x22, 0x33, 0x44, 0x55, 0x66, 0x77, 0x88, 0x03, 0x01, 0xB1, 0xC6] =
      .object ⟨4, 7⟩ (identBytes ++ [3, 1]) := by decide +kernel
theorem test_line_release :
    decodeLine [0x7E, 0x1F, 0x07, 0x03, 0x0B, 0x11, 0x22, 0x33, 0x44, 0x55, 0x66, 0x77, 0x88, 0x07, 0x04, 0x03, 0xAE, 0x50] =
      .release ⟨31, 7⟩ (identBytes ++ [7, 4, 3]) := by decide +kernel
theorem test_line_share :
    decodeLine [0x7E, 0x1F, 0x05, 0x04, 0x05, 0x02, 0xBC, 0x00, 0x00, 0xC8, 0xBB, 0x85] = .share ⟨31, 5⟩ [0x02, 0xBC, 0, 0, 0xC8] := by decide +kernel
theorem test_line_event :
    decodeLine [0x7E, 0x1F, 0x05, 0x05, 0x08, 0x04, 0x07, 0xD0, 0x00, 0x00, 0x08, 0x34, 0x04, 0x50, 0x22] =
      .event ⟨31, 5⟩ [4, 0x07, 0xD0, 0, 0, 8, 0x34, 4] := by decide +kernel
theorem test_line_response :
    decodeLine [0x7E, 0x00, 0x04, 0x07, 0x06, 0x00, 0x09, 0x13, 0x00, 0x00, 0x02, 0x13, 0xAE] = .response ⟨0, 4⟩ [0, 9, 19, 0, 0, 2] := by decide +kernel
theorem test_line_collect : decodeLine [0x7E, 0x04, 0x0E, 0x06, 0x03, 0x00, 0x09, 0x12, 0x6E, 0x19] = .collect ⟨4, 14⟩ 9 [] := by decide +kernel
theorem test_line_retire : decodeLine [0x7E, 0x04, 0x00, 0x06, 0x04, 0x01, 0x02, 0x07, 0x28, 0x1E, 0x9D] = .retire me 258 [40] := by decide +kernel
theorem test_line_find :
    decodeLine [0x7E, 0x04, 0x00, 0x06, 0x0D, 0x00, 0x01, 0x0F, 0x11, 0x22, 0x33, 0x44, 0x55, 0x66, 0x77, 0x88, 0x00, 0x80, 0x48, 0xCA] =
      .find me 1 (identBytes ++ [0, 128]) := by decide +kernel
theorem test_line_unknown_class : decodeLine [0x7E, 0x04, 0x00, 0x09, 0x00, 0xF4, 0xA9] = .unknownClass me 9 [] := by decide +kernel
theorem test_line_unknown_kind :
    decodeLine [0x7E, 0x04, 0x00, 0x06, 0x03, 0x00, 0x01, 0x14, 0x07, 0xD5] = .unknownRequestKind me [0, 1, 20] := by decide +kernel
/-- R170, check 3: a source above 15. -/
theorem test_line_bad_source :
    lineFrame [0x7E, 0x04, 0x10, 0x04, 0x05, 0x02, 0xBC, 0x00, 0x00, 0xC8, 0x99, 0xCA] = none := by decide +kernel
/-- R170, check 2: a check one bit wrong. -/
theorem test_line_bad_check :
    lineFrame [0x7E, 0x1F, 0x05, 0x04, 0x05, 0x02, 0xBC, 0x00, 0x00, 0xC8, 0xBB, 0x84] = none := by decide +kernel
/-- 10.8: the RELEASE of station 3's sequence is 18 bytes long. -/
theorem test_release_length : ((⟨31, .release ident 3 7 3, false⟩ : Frame).lineBytes 3).length = 18 := by decide +kernel
/-- Table 12-5: a billing record is 123 bytes. -/
theorem test_record_length : ((homeIn .closing).record 0 7 Bank.cleared none true).bytes.length = 123 := by decide +kernel
/-- R180: a decimal meter, two digits to a byte. -/
theorem test_bcd : toBCD 5 1234567890 = [0x12, 0x34, 0x56, 0x78, 0x90] := by decide
/-- Table 12-6: a header with one window and one LASER-OFF is 11 + 5 + 10 + 2 bytes. -/
theorem test_header_length : (headerBytes 96000 ⟨[⟨20, 7, 0, 142⟩], none, true⟩ [⟨.laserOff, 7, 0, false⟩]).length = 28 := by decide +kernel

/-- R180: bytes go on the district link least significant bit first: 0x7E and then a destination of 4. -/
theorem test_bit_order :
    lineBits [0x7E, 4] = [false, true, true, true, true, true, true, false, false, false, true, false, false, false, false, false] := by decide
/-- R29: with its head 63 eighth-blocks late a burst's level is that of its own head blocks, whatever the window's blocks 1 and 2 hold; at k = 4 it moves an estimate of 1600 to 1604. -/
theorem test_burst_level_at_its_head :
    after (exec (.burstReceived .a ⟨[0, 0, 0, 9], 105, 104, false, some (63, head1), [], true, true⟩) (window0 (homeIn .online))) (fun s =>
      (s.home 0).level == 1604) = true := by decide +kernel
/-- R91: a new SHARE takes the place of the SHARE that waits; of two, the foremost's, and the other is discarded (the model's choice, assumption 39). -/
theorem test_share_replaces :
    let l := { run.link with current := some (frame0, 1), phase := .gap, waiting := [frame0] }
    (l.offerShare 5 6).1.frames.map Frame.content = [.share 5 6] := by decide +kernel
/-- R123 and R134: the quiet window of the round before, observed after the boundary, leaves the new round's own still to be taken. -/
theorem test_late_quiet_window :
    let s := (searching .observing 2 0).onTree .a fun t => { t with active := ⟨[], none, true⟩, quietTaken := true, lateQuiet := some true }
    after (exec (.quietWindowMeasured .a 40) s) (fun s =>
      (s.tree .a).search.observations == 1 && !(s.tree .a).quietTaken && (s.tree .a).lateQuiet.isNone) = true := by decide +kernel
/-- R21: a match is what the entry was when it was examined, though it has been freed since. -/
theorem test_find_keeps_its_match :
    let s : State := { finding 1 with findWalk := FindProgress.start }
    after (exec (.findWalkComplete (.examinedTo 5)) s) (fun s => after (exec (.findWalkComplete .asItStands) (s.setHome 0 Home.free)) fun s =>
      s.link.frames.map Frame.content == [.response 9 15 .ok 0 [0, 4, 0, 255]]) = true := by decide +kernel

/-! ## Worked examples of the spec -/

/-- 4.10: the split of E = 400 over X = 730, 300, 0 and 100. -/
theorem test_split : [730, 300, 0, 100].map (splitAllowance 400 1130) = [258, 106, 0, 35] := by decide
/-- 4.10: tree A's 258 blocks over the requests 250, 0, 480, 0 and 0. -/
theorem test_excess_shares : excessShares 258 730 [250, 0, 480, 0, 0] = [89, 0, 169, 0, 0] := by decide +kernel
/-- 4.10: the windows of homes 20, 23, 31, 40 and 57. -/
theorem test_windows :
    (layWindows 0 [(20, 7, 139), (23, 2, 60), (31, 15, 189), (40, 9, 0), (57, 33, 40)]).map (fun w => (w.start, w.start + w.length - 1)) =
      [(0, 141), (142, 204), (205, 396), (397, 399), (400, 442)] := by decide
/-- 4.11: six windows of 203 blocks into 1192: the sixth is deferred. -/
theorem test_deferral : fitWindows (fun _ => 203) 1192 [62, 63, 64, 65, 60, 61] = ([62, 63, 64, 65, 60], [61]) := by decide
/-- 4.10: the rotation pointer moves from 20 to 23, and wraps past the last home. -/
theorem test_pointer : nextPointer 20 [20, 23, 31, 40, 57] = 23 ∧ nextPointer 57 [20, 23, 31, 40, 57] = 20 := by decide

/-- The view of 5.7 at period end P. -/
def shareP : ShareState :=
  { run.share with fSelf := 900, dSelf := 600, peers := (run.share.peers.set 5 (some ⟨700, 200, 0⟩)).set 9 (some ⟨100, 900, 1⟩) }

/-- 5.7, period end P: E is 105. -/
theorem test_share_proportional : (shareP.compute 2000).e = 105 := by decide +kernel
/-- 5.7, period end P + 1: E is 93. -/
theorem test_share_spare :
    ({ shareP with dSelf := 50, peers := (run.share.peers.set 5 (some ⟨700, 20, 0⟩)).set 9 (some ⟨100, 100, 0⟩) }.compute 2000).e = 93 := by decide +kernel
/-- 5.7, period end P + 2: the floors reach C. -/
theorem test_share_overcommit :
    let x := ({ shareP with dSelf := 50, peers := ((run.share.peers.set 5 (some ⟨700, 20, 0⟩)).set 9 (some ⟨100, 100, 1⟩)).set 12
                                                    (some ⟨400, 0, 0⟩) }.compute 2000)
    x.e = 32 ∧ x.overCommitted = true ∧ x.fSum = 2100 ∧ x.n = 4 := by decide +kernel
/-- 5.8: the clamps. -/
theorem test_share_clamps :
    ({ run.share with fSelf := 1200, dSelf := 10 }.compute 40000).e = 8000 ∧ ({ run.share with fSelf := 1280, dSelf := 500 }.compute 1300).e = 32 := by
  decide +kernel

/-- R36: k = 4, an estimate of 1600 with bursts at 104 and 96, and 1603 with one at 100. -/
theorem test_level : moveLevel 1600 104 4 = 1604 ∧ moveLevel 1600 96 4 = 1596 ∧ moveLevel 1603 100 4 = 1603 := by decide
/-- 9.2: a residue of 640 receiving 2900 bytes. -/
theorem test_residue :
    let b := { Bank.cleared with upResidue := ⟨0, 640, 0, 0⟩ }.countUp 1 2900
    b.upResidue.get 1 = 540 ∧ b.up.get 1 = 3 := by decide
/-- R106: 255, 33 and 1 halved. -/
theorem test_halving : ([255, 33, 1].map fun n => ({ Home.free with score := n } : Home).halve.score) = [127, 16, 0] := by decide
/-- 10.8: the back-offs of stations 3 and 9 after attempts 1 and 2. -/
theorem test_backoff : backoffBits 3 1 = 576 ∧ backoffBits 9 1 = 960 ∧ backoffBits 3 2 = 896 ∧ backoffBits 9 2 = 256 := by decide

/-- The band table of 8.8. -/
def bands : Quad BandEntry :=
  ⟨⟨true, ⟨22, 0, 0⟩, ⟨5, 59, 59⟩, 0x1F, 2⟩, ⟨true, ⟨0, 0, 0⟩, ⟨23, 59, 59⟩, 0x60, 3⟩, ⟨true, ⟨8, 0, 0⟩, ⟨17, 59, 59⟩, 0x1F, 1⟩, BandEntry.disabled⟩

/-- 8.8: the eight readings of the table. -/
theorem test_bands :
    [bandAt bands 4 ⟨17, 59, 59⟩, bandAt bands 4 ⟨18, 0, 0⟩, bandAt bands 4 ⟨23, 30, 0⟩, bandAt bands 5 ⟨0, 0, 0⟩, bandAt bands 6 ⟨23, 59, 59⟩,
      bandAt bands 0 ⟨0, 0, 0⟩, bandAt bands 0 ⟨6, 0, 0⟩, bandAt bands 0 ⟨8, 0, 0⟩] = [1, 0, 2, 3, 3, 2, 0, 1] := by decide +kernel
/-- R138: 28 February of years 08 and 09. -/
theorem test_february :
    (Moment.advance ⟨8, 2, 28, ⟨23, 59, 59⟩⟩, Moment.advance ⟨9, 2, 28, ⟨23, 59, 59⟩⟩) = (⟨8, 2, 29, ⟨0, 0, 0⟩⟩, ⟨9, 3, 1, ⟨0, 0, 0⟩⟩) := by decide +kernel
/-- 8.9: the next closes. -/
theorem test_close_after :
    closeAfter ⟨8, 2, 28, ⟨4, 0, 0⟩⟩ ⟨4, 0, 0⟩ = ⟨8, 2, 29, ⟨4, 0, 0⟩⟩ ∧ closeAfter ⟨8, 2, 26, ⟨12, 0, 0⟩⟩ ⟨4, 0, 0⟩ = ⟨8, 2, 27, ⟨4, 0, 0⟩⟩ := by decide +kernel
/-- 8.9: durations, one with a borrow. -/
theorem test_durations :
    duration ⟨8, 2, 27, ⟨4, 0, 0⟩⟩ ⟨8, 3, 2, ⟨9, 0, 0⟩⟩ = (4, ⟨5, 0, 0⟩) ∧
      duration ⟨8, 2, 27, ⟨22, 30, 15⟩⟩ ⟨8, 3, 1, ⟨4, 0, 0⟩⟩ = (2, ⟨5, 29, 45⟩) := by decide +kernel
/-- 8.9: the backward step of 166 520 seconds. -/
theorem test_step_back :
    let c := { run.cal with set := true, now := ⟨8, 2, 28, ⟨10, 15, 20⟩⟩ }.apply ⟨8, 2, 26, ⟨12, 0, 0⟩⟩ 2
    c.lastStep = some (.back 166520) ∧ c.stepCount = 1 := by decide +kernel

/-- The CONFIGURE of 11.3 with a quiet interval given: C 2000, stations 3, 5, 12 and 14 at rank 1 and 11 at rank 3. -/
def configure (quiet : Byte) : List Byte :=
  [0x07, 0xD0, 0x40, 0x04, 0xC0, 0x11, 7, 20, 20, 80, 0, 0, 0, quiet, 0, 0, 0, 0, 0, 0, 0, 0, 4, 0, 0]

/-- 11.3: quiet interval 12 leaves the part in WAIT_CONFIG; 0 takes the default, and trees A, B and C run. -/
theorem test_configure :
    after (exec (.configure me 1 (configure 12)) State.reset) (fun s => s.config.isNone) = true ∧
      after (exec (.configure me 1 (configure 0)) State.reset) (fun s =>
        s.config.map (fun c => (c.quiet, c.soak, c.lostTimeout)) == some (16, 1024, 600) &&
          Tree.all.map (fun t => (s.tree t).running) == [true, true, true, false]) = true := by decide +kernel
/-- 11.3: the zone lengths. -/
theorem test_zone_lengths : [Tree.a, .b, .c].map (zoneLength cfg) = [208, 208, 808] := by decide

/-! ## Witnesses: for each statement with hypotheses, states and operands that meet them, clause by clause -/

theorem test_witness_StepTakesTheFrontCommand :
    ({ run with pending := [.mapPoint, .roundBoundary] } : State).pending = [.mapPoint, .roundBoundary] ∧ run.pending = [] := ⟨rfl, rfl⟩

/-- A CLAIM of the longest payload, a COLLECT without arguments, a request without a kind, an unknown class. -/
theorem test_witness_LineFramesRoundTrip :
    ∀ i ∈ [Instr.claim all (List.replicate 96 5), .collect me 0xFFFF [], .unknownRequestKind me [0, 1], .unknownClass ⟨200, 15⟩ 8 []],
      i.wellFormed = true ∧ i.encodeLine.isSome = true := by decide +kernel

theorem test_witness_ConfigurationRoundTrip : configInRange cfg = true ∧ cfg.ranks[(0 : Station)] = 0 := by decide +kernel

/-- The invariants' hypotheses: a part in service with one ONLINE home, and the same part after its next step. -/
def served : State := { with0 (homeIn .online) with pending := [.roundBoundary] }

theorem served_home (h : HomeIndex) : served.home h = if h = 0 then homeIn .online else Home.free := by
  simp only [served, with0]
  change ((run.setTree .a treeA).setHome 0 (homeIn .online)).home h = _
  rw [State.setHome_home]
  split
  · rfl
  · exact (by decide +kernel : ∀ h : HomeIndex, (run.setTree .a treeA).home h = Home.free) h

theorem test_witness_step : ∃ s', step served = .next s' := ⟨_, rfl⟩
theorem test_witness_ClocksKept : served.clock.sound ∧ served.cal.sound :=
  ⟨by unfold RoundClock.sound; decide, by
    refine ⟨by decide, by decide, by decide, ?_, ?_, fun _ => ⟨rfl, rfl⟩⟩
    · intro m h; simp [served, with0, State.setHome, State.setTree, run, State.reset, State.afterReset] at h
    · intro m h; simp [served, with0, State.setHome, State.setTree, run, State.reset, State.afterReset] at h⟩
theorem test_witness_ShareFiguresKept : served.shareSound := by
  refine ⟨by decide, by decide, ?_, by decide +kernel⟩
  intro i p h
  rw [(by decide +kernel : ∀ i : Station, served.share.peers[i] = none) i] at h
  cases h
theorem test_witness_CountsAndListsKept : served.scoresSound ∧ served.listsSound :=
  ⟨⟨by decide +kernel, fun t => by cases t <;> decide, fun t => by cases t <;> decide⟩,
    ⟨by decide, by decide, by decide, by decide, by decide, by decide, fun t => by cases t <;> decide, by decide⟩⟩
theorem test_witness_PoolsKept : served.poolsSound := fun t => by cases t <;> decide +kernel
theorem test_witness_IdentitiesKept : served.identitiesUnique := by
  intro h k id hh hk _ _
  rw [served_home] at hh hk
  by_cases a : h = 0 <;> by_cases b : k = 0 <;> simp_all [Home.free]
theorem test_witness_TagsKept : served.tagsSound := by
  intro h t tag ht hg
  rw [served_home] at ht hg
  by_cases a : h = 0
  · subst a
    simp only [if_true, homeIn, Option.some.injEq] at ht hg
    subst ht hg
    decide +kernel
  · simp [a, Home.free] at ht

/-- One home in service beside one FORWARD entry. -/
def forwarded : State :=
  { (with0 (homeIn .online)).setHome 5 { Home.free with state := .forward, identity := some 9, forwardTo := some 7, retention := 3 } with forwardList := [5] }

theorem test_witness_ForwardListKept : forwarded.forwardSound := by unfold State.forwardSound; decide +kernel

/-- WAIT_CONFIG with an answer to a request on its way. -/
def waiting : State :=
  { State.reset with link := { State.reset.link with current := some (responseFrame 0 1 17 .notReady [], 1), phase := .gap } }

theorem test_witness_WaitConfigKept : waiting.waitSound ∧ waiting.config = none := by
  refine ⟨fun _ => ⟨by decide +kernel, fun t => by cases t <;> decide +kernel, rfl, rfl, rfl, rfl, rfl, rfl, ?_⟩, rfl⟩
  intro f hf
  simp [waiting, Link.frames, State.reset, State.afterReset] at hf
  subst hf
  exact ⟨_, _, _, _, _, rfl⟩

/-- A map with a zone, a window that starts at its end, the next window, and one that ends where the quiet window begins. -/
def mapped : State :=
  run.setTree .a { treeA with active := ⟨[⟨0, 1, 208, 3⟩, ⟨1, 2, 211, 100⟩, ⟨2, 3, 1989, 3⟩], some ⟨.discover, 208⟩, true⟩ }

theorem test_witness_MapsKept : mapped.mapsSound := by
  constructor
  · intro c hc
    have : c = cfg := by simpa [mapped, State.setTree, run, eq_comm] using hc
    subst this; decide +kernel
  · intro t
    cases t <;> refine ⟨⟨?_, ?_⟩, ⟨?_, ?_⟩⟩ <;> simp [mapped, State.tree, State.setTree, run, State.reset, State.afterReset, Tree.idx, Quad.get, Quad.set, Quad.fill,
      treeA, TreeLine.atReset, GrantMap.empty, GrantMap.limit]

/-- A full queue of records, its numbers running on past 65535. -/
def full48 : State :=
  { run with meter := { run.meter with
      hold := (List.range 48).map fun i => (homeIn .closing).record 0 (BitVec.ofNat 16 (65500 + i)) Bank.cleared none true, nextNumber := 12 } }

theorem test_witness_HoldQueueKept : full48.meter.sound := by
  refine ⟨by decide +kernel, ?_⟩
  intro i r h
  have hi : i < 48 := by
    have := (List.getElem?_eq_some_iff.1 h).1
    simpa [full48] using this
  have hr : r = (homeIn .closing).record 0 (BitVec.ofNat 16 (65500 + i)) Bank.cleared none true := by
    simp [full48, hi] at h; exact h.symm
  subst hr
  have hn : ∀ j : Fin 48, BitVec.ofNat 16 (65500 + j.val) = 12#16 - BitVec.ofNat 16 (48 - j.val) := by decide
  simpa [full48, Home.record] using hn ⟨i, hi⟩

/-- A sender in back-off on attempt 15 with an urgent and a routine frame waiting. -/
def backing : State :=
  { run with link := { run.link with current := some (frame0, 15), phase := .backoff 1024, waiting := [⟨31, .release ident 3 7 3, false⟩, frame0] } }

theorem test_witness_TransmitQueueKept : backing.link.sound := by
  refine ⟨by decide, by decide, by decide, by decide, ?_, ?_, ?_⟩
  · intro h; cases h
  · intro f a h
    simp only [backing, Option.some.injEq, Prod.mk.injEq] at h
    omega
  · intro f a b h hb
    simp only [backing, Option.some.injEq, Prod.mk.injEq] at h
    simp only [backing, SenderPhase.backoff.injEq] at hb
    omega

/-- A day, a day before it, and a period whose end is before its start. -/
theorem test_witness_PeriodDuration :
    let a : Moment := ⟨0, 1, 1, ⟨0, 0, 0⟩⟩
    let b : Moment := ⟨99, 12, 31, ⟨23, 59, 59⟩⟩
    (a.valid = true ∧ b.valid = true ∧ a.number ≤ b.number) ∧ a.number < b.number ∧ ({ Bank.cleared with periodStart := some b } : Bank).periodStart = some b := by
  decide +kernel
theorem test_witness_OneSecondOfTheCalendar :
    (⟨8, 2, 28, ⟨23, 59, 59⟩⟩ : Moment).valid = true ∧ (⟨8, 2, 28, ⟨23, 59, 59⟩⟩ : Moment) ≠ ⟨99, 12, 31, ⟨23, 59, 59⟩⟩ ∧ 6 ≤ 6 := by decide
theorem test_witness_ExcessSharing : (730 = [250, 0, 480, 0, 0].sum ∧ 258 < 730) ∧ 7 = [3, 4].sum ∧ 7 ≤ 7 := by decide
theorem test_witness_ExcessWithinTheAllowance : run.config = some cfg ∧ run.clock.mapPassed = false := ⟨rfl, rfl⟩

/-- Four ONLINE homes on tree A with a guarantee of 600 each, of which three fit. -/
def packed : State :=
  let home (tag : Nat) : Home := { homeIn .online with tag := some tag, report := 8191, g := 600, p := 600 }
  (((with0 (home 1)).setHome 1 (home 2)).setHome 2 (home 3)).setHome 3 (home 4)

/-- The entries that are ONLINE, the one in SAMPLING, and no entry at all. -/
theorem test_witness_MapPointBuilds :
    (packed.config = some cfg ∧ packed.clock.mapPassed = false ∧ (packed.tree .a).running = true ∧ (packed.tree .a).search.running = false ∧
      (packed.tree .a).discovery < cfg.discovery + 4 ∧ (∀ h, ¬ (packed.home h).state = .measuring) ∧
      after (exec .mapPoint packed) (fun s => ((s.tree .a).shadow.windows.map Window.home = [0, 1, 2] ∧ (s.home 3).deferred = true ∧
        ∀ h, (s.home h).tree = some Tree.a → h ≤ 3 ∧ (h = 3 ∨ (s.home h).deferred = false))) = true) ∧
      (inService (packed.home 1).state = true ∧ (packed.home 1).tree = some .a ∧ (packed.home 1).silence = .none ∧ (packed.tree .a).rotation < 1 ∧
        ∀ k, (packed.tree .a).rotation < k → 1 ≤ k) ∧
      (let s := with0 { homeIn .measuring with phase := some .sampling }
       (s.home 0).state = .measuring ∧ (s.home 0).tree = some .a ∧ (s.home 0).phase = some .sampling ∧ (s.home 0).tag = some 1 ∧ (∀ k : HomeIndex, ¬ k < 0) ∧
         ∀ h, ¬ inService (s.home h).state = true) ∧
      (let s := (with0 (homeIn .lost)).onTree .a fun t => { t with rotation := 0, discovery := 504 }
       cfg.discovery + 4 ≤ (s.tree .a).discovery ∧ inService (s.home 0).state = true ∧ ∀ k, inService (s.home k).state = true → k ≤ (s.tree .a).rotation ∧ 0 ≤ k) ∧
      ((searching .settling 0 0).tree .a).search.running = true := by decide +kernel

/-- A CLAIM of entry 3. -/
def claimFrame : Frame := ⟨31, .claim ident .a 3, false⟩

def claimed : State :=
  (sending claimFrame 1 .sending).setHome 3 { homeIn .claiming with tag := none, claim := some ⟨1, 100, 0, 0, false⟩ }

theorem test_witness_SenderPhases :
    (sending frame0 16 .gap).link.current = some (frame0, 16) ∧ (sending frame0 16 .sending).link.phase = .sending ∧
      (claimed.link.phase = .sending ∧ claimed.link.current = some (claimFrame, 1) ∧ (claimed.home 3).state = .claiming ∧
        (claimed.home 3).identity = some ident ∧ (claimed.home 3).claim = some ⟨1, 100, 0, 0, false⟩) ∧
      ((sending frame0 15 .jam).link.phase = .jam ∧ 15 ≤ 15) ∧
      ((sending (responseFrame 0 1 14 .absent []) 16 .jam).link.current = some (responseFrame 0 1 14 .absent [], 16) ∧ 16 ≤ 16 ∧
        (responseFrame 0 1 14 .absent []).content.isEvent = false) ∧
      (let s := sending ⟨31, .event (.holdFull 48 1 48), false⟩ 16 .jam
       s.link.phase = .jam ∧ s.link.current = some (⟨31, .event (.holdFull 48 1 48), false⟩, 16)) ∧
      (let s : State := { claimed with link := (sending claimFrame 16 .jam).link }
       s.link.current = some (claimFrame, 16) ∧ claimFrame.orphan = false ∧ (s.home 3).tree = some .a ∧
         after (exec .jamEnd s) (fun s => s.link.waiting = [] ∧ s.link.current = some (claimFrame, 1) ∧ (s.home 3).claim = some ⟨1, 100, 0, 0, true⟩) = true) ∧
      (let full : State := { claimed with link := { (sending claimFrame 16 .jam).link with waiting := List.replicate 9 (responseFrame 0 2 14 .absent []) } }
       after (exec .jamEnd full) (fun s => s.link.roomFor false = false ∧ (s.home 3).claim = some ⟨1, 100, 0, 1, true⟩) = true) ∧
      (sending frame0 15 (.backoff 64)).link.phase = .backoff 64 := by decide +kernel
theorem test_witness_DiscardedFrames :
    lineFrame [0x7E] = none ∧ (me.src ≠ run.own ∧ me.dest = toStation run.own) ∧ ((8 : Byte) = 0 ∨ 8 ≤ (8 : Byte).toNat) ∧
      (Instr.claim ⟨31, 4⟩ []).lineParts = some (⟨31, 4⟩, 1, []) ∧ (⟨31, 4⟩ : Rx).src = run.own := by decide +kernel
theorem test_witness_NotReadyWhileWaiting :
    (Instr.find me 7 []).wellFormed = true ∧ (Instr.find me 7 []).lineParts = some (me, 6, toBE 2 (7 : BitVec 16).toNat ++ 15 :: []) ∧ State.reset.config = none ∧
      me.src ≠ State.reset.own ∧ me.dest = toStation State.reset.own ∧ State.reset.link.roomFor false = true ∧
      (Instr.unknownRequestKind all [0, 7, 20]).wellFormed = true ∧
      (Instr.unknownRequestKind all [0, 7, 20]).lineParts = some (all, 6, toBE 2 (7 : BitVec 16).toNat ++ 20 :: []) := by decide +kernel
theorem test_witness_RankAndUnreadRequests :
    (Instr.tariff ⟨4, 1⟩ 7 []).lineParts = some (⟨4, 1⟩, 6, toBE 2 (7 : BitVec 16).toNat ++ 3 :: []) ∧ 0 < (cfg.ranks[(1 : Station)]).val ∧
      (Instr.collect ⟨4, 2⟩ 7 []).lineParts = some (⟨4, 2⟩, 6, toBE 2 (7 : BitVec 16).toNat ++ 18 :: []) ∧ 1 < (cfg.ranks[(2 : Station)]).val ∧
      (Instr.queryHome all 7 []).lineParts = some (all, 6, toBE 2 (7 : BitVec 16).toNat ++ 14 :: []) ∧ run.link.roomFor false = true ∧
      (Instr.tariff ⟨4, 1⟩ 7 []).wellFormed = true ∧ (Instr.collect ⟨4, 2⟩ 7 []).wellFormed = true ∧ (Instr.queryHome all 7 []).wellFormed = true ∧
      ((20 : Byte) = 0 ∨ 20 ≤ (20 : Byte).toNat) ∧ run.config = some cfg ∧ me.src ≠ run.own ∧ me.dest = toStation run.own ∧ all.dest = 31 := by
  decide +kernel

/-- Requests from the management station reach a part in RUN. -/
theorem asked_me (s : State) (hc : s.config = some cfg) (ho : s.own = 4) (top : Nat) : s.asked me cfg top :=
  ⟨hc, ⟨by rw [ho]; decide, by rw [ho]; decide⟩, by have : (cfg.ranks[me.src]).val = 0 := by decide +kernel
                                                    omega⟩

theorem test_witness_ConfigureApplied :
    (State.reset.toMe me ∧ State.reset.config = none ∧ State.reset.link.roomFor false = true) ∧
      (me.src = State.reset.mgt ∧ (configArgs (configure 0) State.reset.mgt).isSome = true) ∧ configArgs (configure 12) State.reset.mgt = none ∧
      (⟨4, 3⟩ : Rx).src ≠ State.reset.mgt :=
  ⟨⟨⟨by decide, by decide⟩, rfl, by decide⟩, by decide +kernel, by decide +kernel, by decide⟩

/-- The table of 8.8 as TARIFF carries it. -/
def tariffBytes : List Byte :=
  [1, 22, 0, 0, 5, 59, 59, 0x1F, 2, 1, 0, 0, 0, 23, 59, 59, 0x60, 3, 1, 8, 0, 0, 17, 59, 59, 0x1F, 1, 0, 0, 0, 0, 0, 0, 0, 0, 0]

def admission (n : Nat) : Admission := ⟨BitVec.ofNat 64 n, 7, 60, 300⟩

def listed : State :=
  { run with enrol := { run.enrol with admission := (List.range 31).map admission ++ [⟨ident, 7, 60, 300⟩], barred := [5, ident] } }

theorem test_witness_TariffAndListRequests :
    run.asked me cfg 0 ∧ listed.asked me cfg 0 ∧ run.link.roomFor false = true ∧ tariffArgs tariffBytes = some bands ∧
      (admitArgs (identBytes ++ [0, 0, 0, 7, 0, 60, 1, 44]) = some ⟨ident, 7, 60, 300⟩ ∧ run.enrol.admission.length < 32) ∧
      (⟨ident, 7, 60, 300⟩ : Admission) ∈ listed.enrol.admission ∧
      (admitArgs ([0, 0, 0, 0, 0, 0, 1, 0] ++ [0, 0, 0, 7, 0, 60, 1, 44]) = some (admission 256) ∧ (∀ b ∈ listed.enrol.admission, b.identity ≠ 256) ∧
        32 ≤ listed.enrol.admission.length) ∧
      identityArg identBytes = some ident ∧ ident ∈ listed.enrol.barred ∧ ident ∉ run.enrol.barred :=
  ⟨asked_me run rfl rfl 0, asked_me listed rfl rfl 0, by decide, by decide +kernel, by decide +kernel, by decide +kernel, by decide +kernel, by decide +kernel,
    by decide +kernel, by decide +kernel⟩

/-- The walk at home 0 with some records held. -/
def walking (x : Home) (records passes : Nat) : State :=
  { with0 x with emission := ⟨0, .walking, passes⟩, meter := { run.meter with hold := full48.meter.hold.take records } }

/-- Sixteen FORWARD entries, 5 to 20, and the walk at a CLOSING home with a forward-to. -/
def forwards16 : State :=
  let s := walking { homeIn .closing with tag := none, forwardTo := some 7 } 0 0
  { s with homes := s.homes.mapFinIdx fun i x _ => if 5 ≤ i ∧ i < 21 then { Home.free with state := .forward, identity := some (BitVec.ofNat 64 i), retention := 3 } else x
           forwardList := (List.range 16).map fun i => Fin.ofNat 128 (i + 5) }

/-- A LOST home whose timer has just reached the lost timeout, with a claim check of it at the head of the search queue. -/
def lost : State :=
  { with0 { homeIn .lost with lostTimer := 600 } with walks := [⟨.claim 7 3, ident, 0, 128⟩] }

theorem test_witness_WaysToClosing :
    (lost.config = some cfg ∧ (lost.home 0).tree = some .a ∧ (lost.home 0).tag = some 1 ∧ (lost.tree .a).place 1 = some (.held 0) ∧
      (lost.home 0).state = .lost ∧ cfg.lostTimeout ≤ (lost.home 0).lostTimer) ∧
      (lost.asked me cfg 0 ∧ lost.link.roomFor false = true ∧ homeArg [0] = some 0) ∧
      (lost.walks = ⟨.claim 7 3, ident, 0, 128⟩ :: [] ∧ lost.holder ident = some 0 ∧ lost.link.total < 12) ∧
      (let s := walking { homeIn .closing with tag := none, forwardTo := some 7 } 46 0
       s.emission.state = .walking ∧ s.emission.pointer = 0 ∧ (s.home 0).closedWaiting = false ∧ (s.home 0).state = .closing ∧
         (s.home 0).forwardTo = some 7 ∧ s.meter.hold.length < 47 ∧ s.forwardList.length < 16) ∧
      (let s := forwards16
       s.forwardList.head? = some 5 ∧ 16 ≤ s.forwardList.length ∧ (s.home 5).state = .forward ∧ (s.home 5).tag = none ∧ (s.home 0).state = .closing) ∧
      (let s := walking { homeIn .online with closedWaiting := true } 47 0
       (s.home 0).closedWaiting = true ∧ s.meter.hold.length = 47 ∧ s.meter.heldFull = none ∧ s.link.roomFor false = true) :=
  ⟨by decide +kernel, ⟨asked_me lost rfl rfl 0, by decide +kernel, by decide⟩, by decide +kernel, by decide +kernel, by decide +kernel, by decide +kernel⟩

/-- A FORWARD entry at index 5 whose retention has reached 0, listed. -/
def expiring : State := { run.setHome 5 { Home.free with state := .forward, identity := some 9, forwardTo := some 7 } with forwardList := [5] }

theorem test_witness_EntryAndProbeTimers :
    ((expiring.home 5).state = .forward ∧ (expiring.home 5).tag = none ∧ (expiring.home 5).retention = 0 ∧ homeArg [5] = some 5 ∧
      expiring.link.roomFor false = true) ∧ expiring.asked me cfg 0 ∧
      (((with0 (homeIn .soaking)).home 0).state = .soaking ∧ ((with0 (homeIn .soaking)).home 0).soak = 0) ∧
      (((searching .settling 2 0).tree .a).search.running = true ∧ ((searching .settling 2 0).tree .a).search.phase = .settling ∧
        2 ≤ ((searching .settling 2 0).tree .a).search.settle) :=
  ⟨by decide +kernel, asked_me expiring rfl rfl 0, by decide +kernel, by decide +kernel⟩

/-- An ISOLATED home, and the pool taken from 1200 to 1200 with the home's g written. -/
theorem test_witness_PardonAndSetClass :
    (let s := with0 (homeIn .isolated)
     s.asked me cfg 0 ∧ (s.link.roomFor false = true ∧ homeArg [0] = some 0 ∧ (s.home 0).state = .isolated ∧ (s.home 0).tree = some .a ∧
       (s.home 0).tag = some 1 ∧ (s.tree .a).queue.length < 16)) ∧
      let s := (with0 (homeIn .online)).onTree .a fun t => { t with pool := 1200 }
      s.asked me cfg 0 ∧ (s.link.roomFor false = true ∧ setClassArgs [0, 0, 60, 1, 44] = some (0, 60, 300) ∧ inService (s.home 0).state = true ∧
        (s.home 0).tree = some .a ∧ (s.home 0).g ≤ (s.tree .a).pool ∧ (s.tree .a).pool - (s.home 0).g + 60 ≤ 1200) :=
  ⟨⟨asked_me _ rfl rfl 0, by decide +kernel⟩, asked_me _ rfl rfl 0, by decide +kernel⟩
/-- Arguments that refuse RANGE: too short, or with a field just past its range, and the last ones within it. -/
theorem test_witness_RefusedByStateOrSentToAll_range :
    (run.asked me cfg 0 ∧ run.asked me cfg 1) ∧ run.link.roomFor false = true ∧
      (128 ≤ (byteAt [128] 0).toNat ∧ 4 ≤ (byteAt [4] 0).toNat ∧ ([] : List Byte).length < 1 ∧ (List.replicate 4 (0 : Byte)).length < 5) ∧
      (6 < field [0, 1, 1, 0, 0, 0, 7] 6 1 ∧ (⟨99, 2, 29, ⟨0, 0, 0⟩⟩ : Moment).valid = false ∧ (⟨0, 1, 1, ⟨24, 0, 0⟩⟩ : Moment).valid = false) ∧
      (let bad := tariffBytes.set 35 4
       3 < 4 ∧ 4 ≤ (byteAt bad (9 * 3 + 8)).toNat) ∧ 128 ≤ (byteAt (tariffBytes.set 7 128) (9 * 0 + 7)).toNat ∧ timeValid (timeAt (tariffBytes.set 1 24) (9 * 0 + 1)) = false ∧
      (127 < field (identBytes ++ [128, 1]) 8 1 ∧ field (identBytes ++ [0, 0]) 9 1 = 0 ∧ 128 < field (identBytes ++ [0, 129]) 9 1) ∧
      (2 < field [3, 0] 0 1 ∧ 31 < field [0, 32] 1 1) ∧ (7 < field [8, 0] 0 1 ∧ 15 < field [0, 16] 1 1 ∧ field [1, 4] 0 1 = 1 ∧ 3 < field [1, 4] 1 1) ∧
      (treeArg [3] = some .d ∧ (run.tree .d).search.running = false) :=
  ⟨⟨asked_me _ rfl rfl 0, asked_me _ rfl rfl 1⟩, by decide +kernel⟩
theorem test_witness_RefusedByStateOrSentToAll :
    ((with0 (homeIn .closing)).asked me cfg 0 ∧ forwarded.asked me cfg 0) ∧
      ((with0 (homeIn .closing)).link.roomFor false = true ∧ homeArg [0] = some 0 ∧ ((with0 (homeIn .closing)).home 0).state = .closing ∧
        homeArg [1] = some 1 ∧ ((with0 (homeIn .closing)).home 1).state = .free ∧ ((with0 (homeIn .measuring)).home 0).state = .measuring ∧
        homeArg [5] = some 5 ∧ (forwarded.home 5).state = .forward ∧ inService ((with0 (homeIn .online)).home 0).state = true ∧
        setClassArgs [5, 0, 60, 1, 44] = some (5, 60, 300) ∧ 128 ≤ (byteAt [128] 0).toNat ∧ (configArgs (configure 0) run.mgt).isSome = true ∧
        me.src = run.mgt) ∧
      ((Instr.retire me 7 [0]).wellFormed = true ∧ (Instr.retire all 7 [0]).wellFormed = true ∧
        (Instr.retire me 7 [0]).lineParts = some (⟨toStation run.own, 0⟩, 6, toBE 2 (7 : BitVec 16).toNat ++ 7 :: [0]) ∧
        (Instr.retire all 7 [0]).lineParts = some (⟨31, 0⟩, 6, toBE 2 (7 : BitVec 16).toNat ++ 7 :: [0]) ∧ run.config.isSome = true) ∧
      (admitArgs ([0, 0, 0, 0, 0, 0, 1, 0] ++ [0, 0, 0, 7, 0, 60, 1, 44]) = some (admission 256) ∧ 32 ≤ listed.enrol.admission.length) :=
  ⟨⟨asked_me _ rfl rfl 0, asked_me _ rfl rfl 0⟩, by decide +kernel, by decide +kernel, by decide +kernel⟩

/-- Eight routine frames in the transmit queue. -/
def crowded : State :=
  { with0 (homeIn .closing) with
    link := { run.link with current := some (responseFrame 0 1 14 .absent [], 1), phase := .gap, waiting := List.replicate 7 (responseFrame 0 2 14 .absent []) }
    walks := [⟨.find 14 9, ident, 0, 128⟩] }

theorem test_witness_AnswersWithoutRoom :
    ((Instr.retire me 7 [0]).wellFormed = true ∧ (Instr.retire me 7 [0]).lineParts = some (me, 6, toBE 2 (7 : BitVec 16).toNat ++ 7 :: [0]) ∧ crowded.toMe me) ∧
      crowded.link.sound ∧ (crowded.link.roomFor false = false ∧ (7 : Byte) ≠ 15) ∧ crowded.walks = ⟨.find 14 9, ident, 0, 128⟩ :: [] := by
  refine ⟨⟨by decide, by decide +kernel, by decide, by decide⟩, ⟨by decide, by decide, by decide, by decide, ?_, ?_, ?_⟩, by decide, rfl⟩
  · intro h; cases h
  · intro f a h
    simp only [crowded, Option.some.injEq, Prod.mk.injEq] at h
    omega
  · intro f a b h hb; cases hb
theorem test_witness_SearchStarts :
    let s := with0 (homeIn .online)
    (s.asked me cfg 0 ∧ s.link.roomFor false = true ∧ treeArg [0] = some .a ∧ (s.tree .a).running = true ∧ (s.tree .a).search.running = false ∧
      ∀ h, (s.home h).tree = some .a → (s.home h).silence = .none) ∧
      (treeArg [3] = some .d ∧ (s.tree .d).running = false) ∧
      ((searching .settling 0 0).asked me cfg 0 ∧ ((searching .settling 0 0).tree .a).running = true ∧
        ((searching .settling 0 0).tree .a).search.running = true) :=
  ⟨⟨asked_me _ rfl rfl 0, by decide +kernel, by decide, by decide, by decide, by decide +kernel⟩, by decide +kernel, asked_me _ rfl rfl 0, by decide +kernel, by decide +kernel⟩
theorem test_witness_TimeAbortAndStop :
    (run.asked me cfg 0 ∧ timeArgs [8, 2, 29, 23, 59, 59, 6] = some (⟨8, 2, 29, ⟨23, 59, 59⟩⟩, 6) ∧ run.link.roomFor false = true) ∧
      (with0 (homeIn .measuring)).asked me cfg 0 ∧ (searching .observing 2 1).asked me cfg 0 ∧
      (let s := searching .observing 2 1
       (s.tree .a).running = true ∧ (s.tree .a).search.running = true ∧ s.link.total ≤ 10 ∧ s.link.routine < 8) ∧
      ((with0 (homeIn .measuring)).link.roomFor false = true ∧ ((with0 (homeIn .measuring)).tree .a).running = true ∧
        ((with0 (homeIn .measuring)).tree .a).search.running = false ∧ (run.tree .a).running = false ∧ treeArg [0] = some .a) :=
  ⟨⟨asked_me run rfl rfl 0, by decide +kernel, by decide⟩, asked_me _ rfl rfl 0, asked_me _ rfl rfl 0, by decide +kernel, by decide +kernel⟩

/-- The quiet window reserved on tree A with a dark counter. -/
def quietOn (counter holdOff : Nat) : State :=
  (with0 (homeIn .online)).onTree .a fun t => { t with active := ⟨[], none, true⟩, darkCounter := counter, holdOff := holdOff }

/-- The probe of tree A before its third observation: its step, its number, its trail, what it has seen dark, with home 0 the one candidate. -/
def deciding (x : Home) (step : SearchStep) (probe dark : Nat) (trail : List TrailEntry) : State :=
  (with0 x).onTree .a fun t =>
    { t with active := ⟨[], none, true⟩
             search := { SearchContext.idle none with running := true, candidates := [⟨0, ident⟩], step := step, probe := probe, phase := .observing
                                                      observations := 2, dark := dark, trail := trail, first := 0, count := 1 } }

theorem test_witness_SearchVerdicts :
    (let s := deciding (homeIn .online) .baseline 40 1 []
     s.config = some cfg ∧ (s.tree .a).active.quiet = true ∧ (s.tree .a).quietTaken = false ∧ (s.tree .a).search.running = true ∧
       (s.tree .a).search.phase = .observing ∧ (s.tree .a).search.observations = 2 ∧ s.link.total < 12 ∧ 40 ≤ (s.tree .a).search.probe ∧
       2 ≤ (s.tree .a).search.dark + (if cfg.dark ≤ (40 : Byte).toNat then 1 else 0) ∧ (s.tree .a).search.dark + (if cfg.dark ≤ (39 : Byte).toNat then 1 else 0) < 2) ∧
      (∀ step ∈ [SearchStep.baseline, .descend, .confirm, .recheck, .final], ((deciding (homeIn .online) step 39 2 []).tree .a).search.step = step ∧
        ((deciding (homeIn .online) step 39 2 []).tree .a).search.probe < 40) ∧
      ((deciding (homeIn .online) .confirm 39 2 [⟨0, 1, 7⟩]).tree .a).search.trail = [⟨0, 1, 7⟩] ∧
      (let s := deciding (homeIn .online) .confirm 39 0 []
       (s.tree .a).search.candidates[(s.tree .a).search.first]? = some ⟨0, ident⟩ ∧ s.present .a ⟨0, ident⟩ = true ∧ (s.home 0).tag = some 1 ∧
         (s.tree .a).queue.length < 16 ∧ (s.home 0).silence = .none) ∧
      ((deciding (homeIn .isolated) .confirm 39 0 []).home 0).state = .isolated ∧ (deciding (homeIn .closing) .confirm 39 0 []).present .a ⟨0, ident⟩ = false ∧
      (deciding { homeIn .online with silence := .search } .confirm 39 0 []).present .a ⟨0, ident⟩ = true ∧
      (let s := quietOn 12 0
       (s.tree .a).running = true ∧ (s.tree .a).search.running = false ∧ 12 ≤ (s.tree .a).darkCounter ∧ (s.tree .a).holdOff = 0 ∧
         ∀ h, (s.home h).tree = some .a → (s.home h).silence = .none) := by decide +kernel

/-- A clear CONFIRM as the 40th probe: of a present home, of one isolated meanwhile, of one that has left; and a candidate list that holds its home once. -/
theorem test_witness_SearchVerdicts_limit :
    (let s := deciding (homeIn .online) .confirm 40 0 []
     40 ≤ (s.tree .a).search.probe ∧ (s.tree .a).search.step = .confirm ∧ (s.tree .a).search.candidates[(s.tree .a).search.first]? = some ⟨0, ident⟩ ∧
       s.present .a ⟨0, ident⟩ = true ∧ (s.home 0).tag = some 1 ∧ s.link.total ≤ 10 ∧ (s.tree .a).queue.length < 16 ∧
       ((s.tree .a).search.candidates.map Candidate.home).Nodup) ∧
      (let s := deciding (homeIn .isolated) .confirm 40 0 []
       (s.home 0).state = .isolated ∧ (s.home 0).identity = some ident) ∧
      (let s := deciding (homeIn .closing) .confirm 40 0 []
       s.present .a ⟨0, ident⟩ = false ∧ (s.home 0).state ≠ .isolated) := by decide +kernel

/-- A STOPPED tree A with one home in service. -/
def stopped (x : Home) : State := (with0 x).onTree .a fun t => { t with running := false }

theorem test_witness_TreeStarted :
    (stopped (homeIn .lost)).asked me cfg 0 ∧
      ((stopped (homeIn .lost)).link.roomFor false = true ∧ ((stopped (homeIn .lost)).tree .a).running = false ∧ cfg.enable.get Tree.a.idx = true ∧
        inService ((stopped (homeIn .lost)).home 0).state = true ∧ ((stopped (homeIn .isolated)).home 0).state = .isolated ∧
        ((with0 (homeIn .online)).tree .a).running = true ∧ cfg.enable.get Tree.d.idx = false ∧ treeArg [3] = some .d) :=
  ⟨asked_me _ rfl rfl 0, by decide +kernel⟩
theorem test_witness_QueriesAnswered :
    run.asked me cfg 1 ∧ run.link.roomFor false = true ∧ homeArg [127] = some 127 ∧ readListsArgs [2, 31] = some (2, 31) ∧ queryStationArgs [4, 15] = some (4, 15) :=
  ⟨asked_me _ rfl rfl 1, by decide +kernel, by decide, by decide, by decide⟩

def foundAt0 : FindMatch := ⟨0, .online, some .a, none⟩

theorem test_witness_FindWalksAndAnswers :
    (finding 5).asked me cfg 1 ∧ (finding 6).asked me cfg 1 ∧
      (findArgs (identBytes ++ [127, 128]) = some (ident, 127, 1) ∧ (finding 5).walks.length < 6 ∧ 6 ≤ (finding 6).walks.length ∧
        (finding 6).link.roomFor false = true) ∧
      ((finding 1).findWalk = ⟨0, none⟩ ∧ ((finding 1).home 0).state ≠ .free ∧ ((finding 1).home 0).identity = some ident ∧
        ∀ k : HomeIndex, k < 0 → ((finding 1).home k).identity ≠ some ident) ∧
      (let s : State := { finding 1 with findWalk := ⟨1, none⟩ }
       ∀ k : HomeIndex, 0 + 1 ≤ k.val → k.val < 0 + 128 → (s.home k).state ≠ .free → (s.home k).identity ≠ some ident) ∧
      ({ finding 1 with findWalk := ⟨7, some foundAt0⟩ } : State).findWalk = ⟨7, some foundAt0⟩ :=
  ⟨asked_me _ rfl rfl 1, asked_me _ rfl rfl 1, by decide +kernel, by decide +kernel, by decide +kernel, rfl⟩

/-- One record, number 65535, waits to be collected. -/
def oneRecord : State := { run with meter := { run.meter with hold := [(homeIn .closing).record 0 0xFFFF Bank.cleared none true] } }

theorem test_witness_HoldQueueRequests :
    oneRecord.asked me cfg 1 ∧ run.asked me cfg 1 ∧
      (oneRecord.link.total ≤ 10 ∧ oneRecord.link.routine ≤ 6 ∧ run.meter.hold = [] ∧ recordArg [0, 5] = some 5 ∧ recordArg [255, 255] = some 0xFFFF ∧
        oneRecord.meter.hold.map Record.number = [0xFFFF]) ∧
      (let s : State := { oneRecord with link := { crowded.link with waiting := crowded.link.waiting.tail } }
       s.asked me cfg 1 ∧ (s.link.roomFor false = true ∧ s.meter.hold ≠ [] ∧ 7 ≤ s.link.routine)) :=
  ⟨asked_me _ rfl rfl 1, asked_me _ rfl rfl 1, by decide +kernel, asked_me _ rfl rfl 1, by decide +kernel⟩
/-- A transmit queue of 12 frames, four of them urgent. -/
def full12 : Link :=
  { crowded.link with waiting := List.replicate 4 ⟨31, .release ident 3 7 3, false⟩ ++ crowded.link.waiting }

theorem test_witness_ClaimHeard :
    run.hears ⟨31, 2⟩ = true ∧ claimFields (identBytes ++ [0, 3]) = some (ident, 3) ∧ (cfg.ranks[(2 : Station)]).val ≤ 2 ∧ run.walks.length < 6 ∧
      6 ≤ (finding 6).walks.length ∧ (finding 6).link.total < 12 ∧ (finding 6).hears ⟨31, 2⟩ = true ∧ (cfg.ranks[(3 : Station)]).val = 3 ∧ run.hears ⟨31, 3⟩ = true ∧
      12 ≤ ({ finding 6 with link := full12 } : State).link.total ∧ ({ finding 6 with link := full12 } : State).hears ⟨31, 2⟩ = true := by
  decide +kernel

/-- Entry 3 CLAIMING on tree A, its claim sent and its hold run out. -/
def claiming : State :=
  (with0 (homeIn .online)).setHome 3 { Home.free with state := .claiming, identity := some 9, account := some 8, tree := some .a, g := 10, p := 10, claim := some ⟨0, 0, 3, 0, false⟩ }

def nine : List Byte := [0, 0, 0, 0, 0, 0, 0, 9]

theorem test_witness_ObjectsAtTheClaimant :
    (claiming.hears ⟨4, 1⟩ = true ∧ (cfg.ranks[(1 : Station)]).val ≤ 2 ∧ objectFields (nine ++ [3, 1]) = some (9, 3, 1) ∧ (3 : Byte).toNat = (3 : HomeIndex).val ∧
      objectFields (nine ++ [3, 2]) = some (9, 3, 2) ∧ (claiming.home 3).state = .claiming ∧ (claiming.home 3).identity = some 9 ∧
      (claiming.home 3).tree = some .a ∧ (claiming.home 3).tag = none ∧ (claiming.home 3).claim = some ⟨0, 0, 3, 0, false⟩ ∧ claiming.link.roomFor false = true ∧
      claiming.link.total < 12) ∧
      (({ claiming with link := crowded.link } : State).link.roomFor false = false ∧ ({ claiming with link := crowded.link } : State).hears ⟨4, 1⟩ = true ∧
        ((claiming.onHome 3 fun x => { x with claim := some ⟨1, 100, 1, 0, true⟩ }).home 3).claim = some ⟨1, 100, 1, 0, true⟩ ∧
        ((claiming.onHome 3 fun x => { x with claim := some ⟨0, 50, 4, 0, false⟩ }).home 3).claim = some ⟨0, 50, 4, 0, false⟩) ∧
      (objectFields (nine ++ [128, 1]) = some (9, 128, 1) ∧
        ∀ i : HomeIndex, (128 : Byte).toNat = i.val → (claiming.home i).state = .free ∨ (claiming.home i).identity ≠ some 9) ∧
      (let s := with0 { homeIn .online with score := 63 }
       (0 : Byte).toNat = (0 : HomeIndex).val ∧ inService (s.home 0).state = true ∧ (s.home 0).score < 64 ∧ (s.home 0).identity = some ident ∧
         objectFields (identBytes ++ [0, 1]) = some (ident, 0, 1) ∧ objectFields (identBytes ++ [0, 2]) = some (ident, 0, 2) ∧ s.link.total < 12 ∧
         releaseFields (identBytes ++ [15, 4, 0]) = some (ident, 15, 4, 0) ∧ (15 : Byte).toNat = (15 : Station).val ∧ (4 : Byte).toNat = s.own.val) ∧
      ((with0 (homeIn .measuring)).home 0).state = .measuring ∧ ((with0 (homeIn .forward)).home 0).state = .forward ∧
      (let s : State := { with0 { homeIn .soaking with score := 63 } with walks := [⟨.capture .b, ident, 0, 128⟩] }
       s.holder ident = some 0 ∧ (s.home 0).tree = some .a ∧ Tree.a ≠ .b ∧ s.link.total < 12 ∧ (s.home 0).state = .soaking ∧ (s.home 0).score < 64) :=
  ⟨by decide +kernel, by decide +kernel, by decide +kernel, by decide +kernel, by decide +kernel, by decide +kernel, by decide +kernel⟩
/-- A late OBJECT with 12 frames queued, and captures on tree B of a home of tree A at a score of 64 and of a CLAIMING entry of tree A. -/
theorem test_witness_ObjectsAtTheClaimant_conflicts :
    (let s : State := { with0 (homeIn .closing) with link := full12 }
     s.hears ⟨4, 1⟩ = true ∧ (s.home 0).state = .closing ∧ (s.home 0).identity = some ident ∧ objectFields (identBytes ++ [0, 1]) = some (ident, 0, 1) ∧
       12 ≤ s.link.total) ∧
      (let s : State := { with0 { homeIn .online with score := 64 } with walks := [⟨.capture .b, ident, 0, 128⟩] }
       s.holder ident = some 0 ∧ (s.home 0).state = .online ∧ 64 ≤ (s.home 0).score ∧ (s.home 0).tag = some 1 ∧ (s.tree .a).queue.length < 16 ∧ s.link.total ≤ 10) ∧
      (let s : State := { claiming with walks := [⟨.capture .b, 9, 0, 128⟩] }
       s.holder 9 = some 3 ∧ (s.home 3).state = .claiming ∧ (s.home 3).tree = some .a ∧ (s.home 3).tag = none ∧ s.link.total < 12) := by decide +kernel
/-- R57: a WAIT before the first CLAIM is reported sent queues the CLAIM again; a second WAIT before that one is sent raises the count alone. -/
theorem test_object_wait_before_sent :
    let s := claiming.onHome 3 fun x => { x with claim := some ⟨1, 100, 0, 0, false⟩ }
    after (exec (.object ⟨4, 1⟩ (nine ++ [3, 2])) s) (fun s => s.link.total = 1 ∧ (s.home 3).claim = some ⟨2, 100, 1, 0, true⟩ ∧
      after (exec (.object ⟨4, 1⟩ (nine ++ [3, 2])) s) (fun s => s.link.total = 1 ∧ (s.home 3).claim = some ⟨2, 100, 2, 0, true⟩)) = true := by decide +kernel
theorem test_witness_ClaimSucceeds :
    ((claiming.home 3).state = .claiming ∧ (claiming.home 3).claim = some ⟨0, 0, 3, 0, false⟩ ∧ (claiming.home 3).tree = some .a ∧
      (claiming.home 3).identity = some 9 ∧ (claiming.tree .a).place 2 = some .free ∧ ∀ j < 2, 1 ≤ j → (claiming.tree .a).place j ≠ some .free) ∧
      (releaseFields (nine ++ [15, 4, 3]) = some (9, 15, 4, 3) ∧ claiming.hears ⟨31, 1⟩ = true ∧ (4 : Byte).toNat = claiming.own.val) := by
  decide +kernel
theorem test_witness_ShareRecorded :
    run.hears ⟨31, 2⟩ = true ∧ shareFields [0xFF, 0xFF, 0xFF, 0xFF, 0xFF] = some (65535, 16777215) ∧ (cfg.ranks[(2 : Station)]).val ≤ 2 ∧
      (cfg.ranks[(3 : Station)]).val = 3 ∧ State.reset.hears ⟨31, 3⟩ = true ∧ State.reset.config = none := by decide +kernel

/-- A capture check of an identity at the head of the search queue. -/
def checking (s : State) (id : Identity) : State := { s with walks := [⟨.capture .a, id, 0, 128⟩] }

/-- A capture of an admitted identity that no entry holds. -/
def admitting : State := checking { with0 (homeIn .online) with enrol := { run.enrol with admission := [⟨9, 8, 400, 2000⟩] } } 9

theorem test_witness_CaptureCheckActs :
    ((∀ k, (admitting.home k).state = .free ∨ (admitting.home k).identity ≠ some 9) ∧ 9 ∉ admitting.enrol.barred ∧
      admitting.enrol.admission.find? (fun b => b.identity = 9) = some ⟨9, 8, 400, 2000⟩ ∧ (admitting.home 1).state = .free ∧
      (∀ k, k < 1 → (admitting.home k).state ≠ .free) ∧ admitting.claimingOn .a < (admitting.tree .a).freeTags ∧ (admitting.tree .a).pool + 400 ≤ 1200 ∧
      admitting.link.roomFor false = true ∧ ({ admitting with link := crowded.link } : State).link.roomFor false = false) ∧
      ((∀ k, (run.home k).state = .free ∨ (run.home k).identity ≠ some 9) ∧ 9 ∉ run.enrol.barred ∧ ∀ a ∈ run.enrol.admission, a.identity ≠ 9) ∧
      (let s := checking (with0 (homeIn .online)) ident
       s.holder ident = some 0 ∧ inService (s.home 0).state = true ∧ (s.home 0).tree = some .a ∧ (s.home 0).tag = some 1 ∧ (s.tree .a).queue.length < 16) ∧
      ((checking (with0 (homeIn .isolated)) ident).holder ident = some 0 ∧ ((with0 (homeIn .measuring)).home 0).state = .measuring ∧
        ((with0 (homeIn .measuring)).home 0).tree = some .a) ∧
      ((checking forwarded 9).holder 9 = some 5 ∧ (forwarded.home 5).state = .forward ∧ (forwarded.home 5).tag = none ∧
        ∀ k, k ≠ 5 → (forwarded.home k).state = .free ∨ (forwarded.home k).identity ≠ some 9) := by decide +kernel

/-- The refusals: barred, no free entry, no free tag, no capacity. -/
theorem test_witness_CaptureCheckActs_refused :
    (let s : State := { admitting with homes := admitting.homes.map fun _ => homeIn .closing }
     (∀ k, (s.home k).identity ≠ some 9) ∧ ∀ h, (s.home h).state ≠ .free) ∧
      (let s := admitting.onTree .a fun t => { t with tags := t.tags.map fun _ => .draining }
       (s.tree .a).freeTags ≤ s.claimingOn .a) ∧
      1200 < ((admitting.onTree .a fun t => { t with pool := 801 }).tree .a).pool + 400 ∧
      9 ∈ ({ admitting with enrol := { admitting.enrol with barred := [9] } } : State).enrol.barred := by decide +kernel

/-- A LOST home of tree A captured on tree B, with and without room for its g. -/
theorem test_witness_CaptureCheckActs_moved :
    let s : State := { with0 (homeIn .lost) with walks := [⟨.capture .b, ident, 0, 128⟩] }
    s.holder ident = some 0 ∧ (s.home 0).state = .lost ∧ (s.home 0).tree = some .a ∧ Tree.a ≠ .b ∧ (s.home 0).tag = some 1 ∧
      (s.tree .a).place 1 = some (.held 0) ∧ s.claimingOn .b < (s.tree .b).freeTags ∧ (s.tree .b).pool + (s.home 0).g ≤ 1200 ∧
      (s.tree .b).place 1 = some .free ∧ (s.tree .b).queue.length < 16 ∧
      1200 < ((s.onTree .b fun t => { t with pool := 1200 }).tree .b).pool + (s.home 0).g := by decide +kernel
theorem test_witness_ClaimAndReleaseChecks :
    (run.holder ident = none ∧ (with0 (homeIn .isolated)).holder ident = some 0 ∧ run.link.total < 12) ∧
      ((with0 (homeIn .measuring)).holder ident = some 0 ∧ ((with0 (homeIn .measuring)).home 0).state = .measuring ∧
        ((with0 { homeIn .online with score := 63 }).home 0).score < 64) ∧
      (let s := with0 { homeIn .soaking with score := 64 }
       s.holder ident = some 0 ∧ (s.home 0).state = .soaking ∧ 64 ≤ (s.home 0).score ∧ (s.home 0).tree = some .a ∧ (s.home 0).tag = some 1 ∧
         (s.tree .a).queue.length < 16 ∧ s.link.total ≤ 10) ∧
      ((with0 (homeIn .closing)).holder ident = some 0 ∧ ((with0 (homeIn .closing)).home 0).forwardTo = none ∧
        (with0 { homeIn .forward with forwardTo := some 2 }).holder ident = some 0) ∧
      (claiming.holder 9 = some 3 ∧ (claiming.home 3).state = .claiming ∧ (claiming.home 3).tree = some .a ∧ (claiming.home 3).tag = none ∧ claiming.link.total < 12) ∧
      (run.hears ⟨31, 1⟩ = true ∧ releaseFields (nine ++ [1, 7, 3]) = some (9, 1, 7, 3) ∧ (7 : Station) ≠ run.own ∧ run.walks.length < 6) := by decide +kernel

theorem test_witness_EmissionWalkActs :
    (((walking { homeIn .online with closedWaiting := true } 46 0).home 0).closedWaiting = true ∧
      (walking { homeIn .online with closedWaiting := true } 46 0).meter.hold.length < 47) ∧
      ((let s := walking { homeIn .closing with tag := none } 0 0
        (s.home 0).closedWaiting = false ∧ (s.home 0).state = .closing ∧ (s.home 0).forwardTo = none ∧ (s.home 0).tag = none ∧ s.meter.hold.length < 47)) ∧
      (let s := walking (homeIn .closing) 48 0
       (s.home 0).state = .closing ∧ 48 ≤ s.meter.hold.length) ∧
      (let s := walking (homeIn .online) 48 127
       (s.home 0).closedWaiting = false ∧ (s.home 0).state ≠ .closing ∧ s.emission.passes ≤ 127 ∧ s.emission.state = .walking ∧ s.emission.pointer = 0) := by
  decide +kernel

/-- The last round of an epoch, a share period and a second. -/
def lastRound : State := { with0 { homeIn .soaking with soak := 1 } with clock := { run.clock with round := 49, epochInShare := 9, epochInSecond := 99 } }

theorem test_witness_RoundBoundaryMovesOn :
    (lastRound.clock.round = 49 ∧ lastRound.clock.epochInShare = 9 ∧ lastRound.clock.epochInSecond = 99 ∧ run.clock.round < 49) ∧
      ((lastRound.tree .a).running = true ∧ (lastRound.tree .d).running = false) ∧ ((lastRound.home 0).state = .soaking ∧ (lastRound.home 0).tree = some .a) ∧
      ((claiming.home 3).state = .claiming ∧ (claiming.home 3).claim = some ⟨0, 0, 3, 0, false⟩) ∧
      (let s := (with0 { homeIn .measuring with phase := some .setting }).onTree .a fun t => { t with queue := [⟨.delaySet 1000 .enrollment, 1, 1, false⟩] }
       (⟨.delaySet 1000 .enrollment, 1, 1, false⟩ : CtlMsg) ∈ (s.tree .a).queue ∧ (s.tree .a).place 1 = some (.held 0) ∧ (s.home 0).phase = some .setting ∧
         s.config = some cfg) ∧
      (let s := (with0 { homeIn .measuring with phase := some .announcing }).onTree .a fun t => { t with queue := [⟨.laserOn, 1, 1, false⟩] }
       (⟨.laserOn, 1, 1, false⟩ : CtlMsg) ∈ (s.tree .a).queue ∧ (⟨.laserOn, 1, 1, false⟩ : CtlMsg).announces 1 = true ∧ (s.home 0).phase = some .announcing ∧
         after (exec .roundBoundary s) (fun s => ((s.tree .a).queue ++ (s.tree .a).held).all fun y => !y.announces 1) = true) := by
  decide +kernel

/-- Five messages, one of them sent once. -/
def queued : State :=
  (with0 (homeIn .online)).onTree .a fun t =>
    { t with queue := [⟨.laserOff, 9, 1, false⟩, ⟨.silence true, 1, 0, true⟩, ⟨.laserOn, 3, 0, false⟩, ⟨.drop, 4, 0, false⟩, ⟨.drop, 5, 0, false⟩] }

theorem test_witness_HeadersSent :
    (queued.tree .a).running = true ∧ (queued.tree .a).queue.countP (fun m => m.count = 1) ≤ 4 ∧ ∀ m ∈ (queued.tree .a).queue, m.count ≤ 1 := by decide +kernel
theorem test_witness_EpochEndsAndSecondTicks :
    (let s : State := { with0 { homeIn .online with score := 32, pending := ⟨900, 0, 0, 0⟩ } with clock := { run.clock with epochDue := true } }
     s.clock.epochDue = true ∧ 32 ≤ (s.home 0).score ∧ (s.home 0).score / 2 < 32) ∧
      (let s : State := { stopped (homeIn .lost) with clock := { run.clock with secondDue := true }
                                                      cal := { run.cal with set := true, now := ⟨8, 2, 28, ⟨3, 59, 59⟩⟩, nextClose := some ⟨8, 2, 28, ⟨4, 0, 0⟩⟩ } }
       s.clock.secondDue = true ∧ s.cal.set = true ∧ closeReached s.cal.now.advance ⟨8, 2, 28, ⟨4, 0, 0⟩⟩ = true ∧
         closeReached s.cal.now ⟨8, 2, 28, ⟨4, 0, 0⟩⟩ = false) ∧ run.cal.set = false := by decide +kernel

def refreshing (held : List CtlMsg) : State :=
  (with0 { homeIn .isolated with refresh := some 99, refreshDue := true }).onTree .a fun t => { t with held := held }

theorem test_witness_MessagesOfferedAgain :
    (((refreshing []).home 0).state = .isolated ∧ ((refreshing []).home 0).refreshDue = true ∧ ((refreshing []).home 0).tag = some 1 ∧
      (∃ m ∈ ((refreshing [⟨.laserOff, 1, 0, false⟩]).tree .a).held, m.kind = .laserOff ∧ m.tag = 1) ∧ ((refreshing []).tree .a).queue.length < 16) ∧
      (((refreshing [⟨.drop, 4, 0, false⟩]).tree .a).held[0]? = some ⟨.drop, 4, 0, false⟩ ∧
        (refreshing [⟨.drop, 4, 0, false⟩]).reasonStands .a ⟨.drop, 4, 0, false⟩ = true) ∧
      ((refreshing [⟨.laserOff, 1, 0, false⟩]).reasonStands .a ⟨.laserOff, 1, 0, false⟩ = true ∧
        (refreshing [⟨.silence true, 1, 0, false⟩]).reasonStands .a ⟨.silence true, 1, 0, false⟩ = true ∧
        ∀ y ∈ ((refreshing [⟨.silence true, 1, 0, false⟩]).tree .a).held.take 0, y.tag ≠ 1) ∧
      (let s := (with0 (homeIn .online)).onTree .a fun t => { t with held := [⟨.delaySet 7 .drift, 1, 0, false⟩] }
       s.reasonStands .a ⟨.delaySet 7 .drift, 1, 0, false⟩ = true ∧ (s.tree .a).place 1 = some (.held 0) ∧ (s.home 0).eq = some 1000 ∧
         ∀ y ∈ (s.tree .a).queue, y.delaySetFor 1 = false) ∧
      (((refreshing [⟨.laserOn, 1, 0, false⟩]).tree .a).held[0]? = some ⟨.laserOn, 1, 0, false⟩ ∧
        ∀ h, ((refreshing [⟨.laserOn, 1, 0, false⟩]).tree .a).place 1 = some (.held h) →
          ((refreshing [⟨.laserOn, 1, 0, false⟩]).home h).state ≠ .measuring) := by decide +kernel

/-- A control queue of 15 messages of a kind and a last one. -/
def sixteen (k : CtlKind) (last : CtlMsg) : TreeLine :=
  { treeA with queue := List.replicate 15 ⟨k, 9, 0, false⟩ ++ [last], tags := treeA.tags.set 3 .draining }

/-- Queues of 16 whose newest message is a DROP of a draining tag, a TAG-ASSIGN, and urgent like the rest; and a home due its refresh at such a queue. -/
theorem test_witness_MessagesOfferedAgain_full :
    (∀ last ∈ [(⟨.drop, 4, 0, false⟩ : CtlMsg), ⟨.tagAssign ident, 1, 1, false⟩, ⟨.silence true, 1, 0, true⟩],
      (sixteen .laserOff last).queue = List.replicate 15 ⟨.laserOff, 9, 0, false⟩ ++ [last] ∧ 16 ≤ (sixteen .laserOff last).queue.length) ∧
      (sixteen .laserOff ⟨.drop, 4, 0, false⟩).place 4 = some .draining ∧
      (sixteen .laserOff ⟨.drop, 4, 0, false⟩).queue.Pairwise (fun a b => b.urgent = true → a.urgent = true) ∧
      (∀ y ∈ (sixteen .laserOff ⟨.silence true, 1, 0, true⟩).held, ¬ (y.kind = .laserOff ∧ y.tag = 1)) ∧
      (let s := (refreshing []).onTree .a fun t => { t with queue := (sixteen .laserOff ⟨.drop, 4, 0, false⟩).queue }
       ∀ m ∈ (s.tree .a).queue, ¬ (m.kind = .laserOff ∧ m.tag = 1 ∧ m.count = 0)) := by decide +kernel

/-- R28: a drift DELAY-SET that is displaced leaves the DELAY-SET of an accepted attempt kept for the same tag. -/
theorem test_displaced_delay_keeps_other :
    (({ sixteen .drop ⟨.delaySet 999 .drift, 1, 1, false⟩ with held := [⟨.delaySet 1000 .enrollment, 1, 0, false⟩] } : TreeLine).offer ⟨.laserOff, 9, 0, false⟩).held =
      [⟨.delaySet 1000 .enrollment, 1, 0, false⟩, ⟨.delaySet 999 .drift, 1, 0, false⟩] := by decide +kernel

/-- A part that holds one frame of each kind, with a number of routine frames in its transmit queue. -/
def holding (routine : Nat) : State :=
  { (run.setHome 3 { homeIn .claiming with tag := none, claim := some ⟨1, 100, 0, 1, false⟩ }) with
    share := { run.share with heldNotice := some (900, 600), heldOvercommit := some (2000, 2100, 4) }
    meter := { run.meter with heldFull := some (48, 1, 48) }
    link := { run.link with current := some (responseFrame 0 1 14 .absent [], 1), phase := .gap, waiting := List.replicate (routine - 1) (responseFrame 0 2 14 .absent []) } }

theorem test_witness_HeldFramesOfferedAgain :
    (holding 7).link.roomFor false = true ∧ (holding 8).link.roomFor false = false ∧ ((holding 7).home 3).claim = some ⟨1, 100, 0, 1, false⟩ ∧
      ((holding 7).home 3).identity = some ident ∧ ((holding 7).home 3).tree = some .a ∧ (∀ x ∈ (holding 8).link.frames, x.content.isShare = false) ∧
      (holding 7).share.heldNotice = some (900, 600) ∧ (holding 7).share.heldOvercommit = some (2000, 2100, 4) ∧ (holding 7).meter.heldFull = some (48, 1, 48) := by
  decide +kernel
theorem test_witness_SharePeriodComputes :
    ({ run with clock := { run.clock with shareDue := true } } : State).clock.shareDue = true ∧ run.config = some cfg ∧ State.reset.config = none ∧
      (∀ x ∈ run.link.frames, x.content.isShare = false) ∧ run.share.overCommitted = false ∧ run.share.heldOvercommit = none ∧ run.link.total ≤ 10 ∧
      run.link.routine ≤ 6 ∧ run.link.roomFor false = true ∧ (holding 8).link.roomFor false = false ∧ cfg.capacity ≤ shareP.fSelf + 1100 ∧
      (after (exec .sharePeriodEnd { backing with clock := { run.clock with shareDue := true } }) fun s => s.share.fSelf + 0 < cfg.capacity) = true ∧
      (backing.link.current = some (frame0, 15) ∧ frame0.content.isShare = true ∧ backing.link.onLine = false) ∧
      (let l := { backing.link with phase := .sending }
       l.onLine = true ∧ l.waiting = [⟨31, .release ident 3 7 3, false⟩] ++ frame0 :: [] ∧
         ∀ x ∈ [(⟨31, .release ident 3 7 3, false⟩ : Frame)], x.content.isShare = false) := by decide +kernel
theorem test_witness_PeriodCloses :
    let s : State := { forwarded with cal := { run.cal with set := true, closesFired := [⟨8, 2, 28, ⟨4, 0, 0⟩⟩] } }
    s.cal.closesFired = ⟨8, 2, 28, ⟨4, 0, 0⟩⟩ :: [] ∧ (bankSwaps (s.home 0).state = true ∧ (s.home 0).closedWaiting = false) ∧ (s.home 5).state = .forward ∧
      (s.home 1).state = .free ∧ ((with0 { homeIn .lost with closedWaiting := true }).home 0).closedWaiting = true := by decide +kernel

theorem test_witness_BurstsJudged :
    let s := window0 { homeIn .online with missed := 7, drift := -15 }
    (s.config = some cfg ∧ (s.tree .a).active.windows[(s.tree .a).windowsTaken]? = some ⟨0, 1, 0, 3⟩) ∧
      (((⟨[7, 7, 7], 7, 7, false, none, [], true, true⟩ : BurstRx).levels.getD 0 0).toNat < 8 ∧ inService (s.home 0).state = true ∧ (s.home 0).silence = .none ∧
        (s.home 0).state = .online ∧ 7 ≤ (s.home 0).missed) ∧
      (∃ l ∈ (⟨[0, 8, 0], 8, 0, false, none, [], true, true⟩ : BurstRx).levels, 8 ≤ l.toNat) ∧
      (readHead head1 = some ⟨1, 95, 0⟩ ∧ -16 < (s.home 0).drift ∧ (s.home 0).drift < 16 ∧ burstLevel 112 112 ≤ (s.home 0).level / 16 + cfg.overlap) := by
  decide +kernel

/-- A second window on tree A, directly after that of home 1. -/
def window1 (x y : Home) : State :=
  ((with0 x).setHome 1 y).onTree .a fun t => { t with active := ⟨[⟨1, 2, 0, 3⟩, ⟨0, 1, 3, 3⟩], none, false⟩, windowsTaken := 1, lastBlockLit := true }

theorem test_witness_GoodBurstsAndEvidence :
    (∀ δ : Int, -64 ≤ δ → δ ≤ 63 → ∀ s ∈ [window0 { homeIn .online with drift := -15 }, window0 (homeIn .lost)],
      GoodBurst s cfg .a ⟨[0, 9, 9], 100, 100, false, some (δ, head1), [], true, true⟩ ⟨0, 1, 0, 3⟩ δ ⟨1, 95, 0⟩) ∧
      (2 ≤ cfg.drift ∧ burstLevel 100 100 ≤ 1600 / 16 + cfg.overlap ∧ 1600 / 16 + cfg.overlap < burstLevel 113 113 ∧ ((-15 : Int) + (-1) ≤ -16) ∧
        (15 : Int) + 1 ≥ 16 ∧ (treeA.delayRoom 1 = true) ∧ (-64 : Int).natAbs > cfg.drift ∧ (homeIn .online).score < 184 ∧ treeA.darkCounter < 14) ∧
      (let s := window1 { homeIn .online with score := 176 } { homeIn .soaking with tag := some 2, score := 168 }
       s.config = some cfg ∧ (s.tree .a).active.windows[(s.tree .a).windowsTaken]? = some ⟨0, 1, 3, 3⟩ ∧ 8 ≤ (8 : Byte).toNat ∧ 0 < (s.tree .a).windowsTaken ∧
         (s.tree .a).active.windows[(s.tree .a).windowsTaken - 1]? = some ⟨1, 2, 0, 3⟩ ∧ 0 + 3 = 3 ∧ (s.tree .a).lastBlockLit = true ∧
         192 ≤ (s.home 0).score + 16 ∧ 192 ≤ (s.home 1).score + 24 ∧ (s.home 0).tree = some .a ∧ (s.home 0).tag = some 1 ∧ inService (s.home 1).state = true ∧
         (s.tree .a).queue.length < 16 ∧ s.link.total < 12) ∧
      ((window1 Home.free (homeIn .closing)).home 0).state = .free ∧ ((window1 Home.free (homeIn .closing)).home 1).state = .closing ∧
      (let x := { homeIn .online with score := 32 }
       32 ≤ x.score ∧ x.pending.sum + x.discarded + 65535 ≤ 2 ^ 40 - 1 ∧ (homeIn .online).score < 32) ∧
      (Bank.cleared.up.get 1 + (Bank.cleared.upResidue.get 1 + 65535) / 1000 ≤ 9999999999 ∧
        9999999999 < ({ Bank.cleared with up := ⟨0, 9999999999, 0, 0⟩ } : Bank).up.get 1 + (0 + 1000) / 1000) := by
  refine ⟨?_, by decide +kernel, by decide +kernel, by decide +kernel, by decide +kernel, by decide +kernel, by decide +kernel⟩
  intro δ hl hu s hs
  have hh : readHead head1 = some ⟨1, 95, 0⟩ := by decide +kernel
  simp only [List.mem_cons, List.not_mem_nil, or_false] at hs
  rcases hs with rfl | rfl <;>
    exact ⟨by decide +kernel, by decide +kernel, by simp, ⟨9, by simp, by decide⟩, ⟨_, rfl, hh⟩, ⟨hl, hu⟩, rfl, by decide +kernel⟩

/-- R149, Table 9-1 and 4.2: a meter at its limit saturates, and an overflow count at its limit holds it. -/
theorem test_overflow_holds :
    let k := ({ Bank.cleared with up := ⟨0, 9999999999, 0, 0⟩, overUp := 2 ^ 48 - 2 } : Bank).countUp 1 5000
    k.up.get 1 = 9999999999 ∧ k.overUp = 2 ^ 48 - 1 ∧ k.saturated = true := by decide +kernel

/-- A zone open on tree A for home 0. -/
def zoned (z : Zone) (samples : List Sample) : State :=
  (with0 { homeIn .measuring with phase := some .sampling, samples := samples, attempts := 2 }).onTree .a fun t => { t with active := ⟨[], some z, false⟩ }

theorem test_witness_ZonesReceived :
    (((zoned ⟨.discover, 208⟩ []).tree .a).zoneTaken = false ∧ ((zoned ⟨.discover, 208⟩ []).tree .a).active.zone = some ⟨.discover, 208⟩) ∧
      (let s := zoned ⟨.measure 0 1, 208⟩ [⟨1600, 100⟩, ⟨1598, 101⟩]
       (s.tree .a).active.zone = some ⟨.measure 0 1, 208⟩ ∧ (s.home 0).state = .measuring ∧ (s.home 0).tree = some .a ∧ (s.home 0).phase = some .sampling ∧
         (s.home 0).tag = some 1 ∧ (s.home 0).attempts < 3 ∧ (s.home 0).samples = [⟨1600, 100⟩, ⟨1598, 101⟩] ∧ (s.home 0).eq.isSome = true ∧
         zoneSample [⟨1599, 99, 100, head1⟩] 1 208 = some ⟨1599, 99⟩ ∧ 1599 ≤ (208 - 8) * 8 ∧
         (∀ p ∈ [(⟨1600, 100⟩ : Sample), ⟨1598, 101⟩, ⟨1599, 99⟩], ∀ q ∈ [(⟨1600, 100⟩ : Sample), ⟨1598, 101⟩, ⟨1599, 99⟩], p.offset ≤ q.offset + 2) ∧
         medianSample [⟨1600, 100⟩, ⟨1598, 101⟩, ⟨1599, 99⟩] = some ⟨1599, 99⟩ ∧ (s.tree .a).queue.length < 16 ∧
         ∀ m ∈ (s.tree .a).queue, m.delaySetFor 1 = false) ∧
      (zoneSample [] 1 208 = none ∧ zoneSample [⟨1599, 99, 100, head1⟩] 2 208 = none ∧ zoneSample [⟨1664, 99, 100, head1⟩] 1 208 = none) ∧
      (zoneSample [⟨1601, 99, 100, head1⟩] 1 208 = some ⟨1601, 99⟩ ∧ (208 - 8) * 8 < 1601) ∧
      (∃ p ∈ [(⟨1600, 100⟩ : Sample), ⟨1598, 101⟩, ⟨1601, 99⟩], ∃ q ∈ [(⟨1600, 100⟩ : Sample), ⟨1598, 101⟩, ⟨1601, 99⟩], q.offset + 2 < p.offset) ∧
      ((zoned ⟨.measure 0 1, 208⟩ []).home 0).samples.length < 2 ∧ ((zoned ⟨.measure 5 1, 208⟩ []).home 5).phase ≠ some .sampling ∧
      (({ homeIn .measuring with phase := some .sampling, attempts := 3 } : Home).attempts = 3) ∧
      (let s := (zoned ⟨.measure 0 1, 208⟩ []).onHome 0 fun x => { x with eq := none, attempts := 3 }
       (s.home 0).eq = none ∧ (s.home 0).identity = some ident ∧ (s.tree .a).place 1 = some (.held 0) ∧ (s.home 0).attempts = 3) := by decide +kernel

theorem test_witness_QuietWindowsJudged :
    ((quietOn 11 0).config = some cfg ∧ ((quietOn 11 0).tree .a).active.quiet = true ∧ ((quietOn 11 0).tree .a).quietTaken = false ∧
      ((quietOn 11 0).tree .a).search.running = false ∧ (39 : Byte).toNat < cfg.dark ∧ cfg.dark ≤ (40 : Byte).toNat ∧ ((quietOn 11 0).tree .a).darkCounter < 12 ∧
      0 < ((quietOn 255 1).tree .a).holdOff) ∧
      (((searching .settling 0 0).tree .a).active.quiet = true ∧ ((searching .settling 0 0).tree .a).search.phase = .settling) ∧
      (((searching .observing 2 1).tree .a).search.phase = .observing ∧ ((searching .observing 2 1).tree .a).search.observations < 2) := by decide +kernel
theorem test_witness_DownstreamForwardedOrRefused :
    (let s := with0 (homeIn .lost)
     (s.home 0).tree = some .a ∧ inService (s.home 0).state = true ∧ (s.tree .a).running = true) ∧
      ∀ h : HomeIndex, h.val = 128 → inService ((with0 (homeIn .lost)).home h).state = true → False := by decide +kernel

end Sys2Proof.Tests
end

section
/-! SUPPORT. What an operation leaves of the Home Table: the entries' identities, trees, tags and guarantees, their states up to a change among those
of an enrolled home, the pools, the held tags and the forward list (chapter 1). -/

namespace Sys2Proof.Machine

/-- MEASURING, SOAKING, ONLINE, LOST or ISOLATED: a change among these states leaves the pool, the tag and the forward list alone (Table 1-2). -/
def enrolled : HomeState → Bool
  | .measuring | .soaking | .online | .lost | .isolated => true
  | .free | .claiming | .closing | .forward => false

theorem enrolled_of_inService {st : HomeState} (h : inService st = true) : enrolled st = true := by
  cases st with
  | soaking | online | lost => rfl
  | _ => cases h

theorem inPool_of_enrolled {st : HomeState} (h : enrolled st = true) : inPool st = true := by
  cases st with
  | measuring | soaking | online | lost | isolated => rfl
  | _ => cases h

theorem not_free_of_enrolled {st : HomeState} (h : enrolled st = true) : st ≠ .free := by rintro rfl; cases h

theorem not_forward_of_enrolled {st : HomeState} (h : enrolled st = true) : st ≠ .forward := by rintro rfl; cases h

theorem Home.servedOn_iff (x : Home) (t : Tree) : x.servedOn t = true ↔ inService x.state = true ∧ x.tree = some t := by
  simp [Home.servedOn]

theorem Home.standsOn_iff (x : Home) (st : HomeState) (t : Tree) : x.standsOn st t = true ↔ x.state = st ∧ x.tree = some t := by
  simp [Home.standsOn]

/-- The record keeps what the Home Table's rules count: identity, tree, tag and g, and its state but for a change among the enrolled states. -/
structure Home.Alike (x y : Home) : Prop where
  state : y.state = x.state ∨ (enrolled x.state = true ∧ enrolled y.state = true)
  identity : y.identity = x.identity
  tree : y.tree = x.tree
  tag : y.tag = x.tag
  g : y.g = x.g

/-- The tree keeps its pool and every held tag. -/
structure TreeLine.Alike (x y : TreeLine) : Prop where
  pool : y.pool = x.pool
  held : ∀ k h, x.place k = some (.held h) → y.place k = some (.held h)

/-- The Home Table is kept: every entry and every tree alike, and the forward list the same; and a part in RUN stays in RUN. -/
structure State.Alike (s s' : State) : Prop where
  homes : ∀ h, (s.home h).Alike (s'.home h)
  trees : ∀ t, (s.tree t).Alike (s'.tree t)
  forwardList : s'.forwardList = s.forwardList
  run : s.inRun = true → s'.inRun = true

theorem Home.Alike.refl (x : Home) : x.Alike x := ⟨.inl rfl, rfl, rfl, rfl, rfl⟩

theorem Home.Alike.trans {x y z : Home} (h : x.Alike y) (k : y.Alike z) : x.Alike z where
  state := by
    obtain hs | ⟨hx, hy⟩ := h.state
    · rw [← hs]; exact k.state
    · obtain ks | ⟨-, kz⟩ := k.state
      · exact .inr ⟨hx, ks ▸ hy⟩
      · exact .inr ⟨hx, kz⟩
  identity := k.identity.trans h.identity
  tree := k.tree.trans h.tree
  tag := k.tag.trans h.tag
  g := k.g.trans h.g

theorem Home.Alike.enrolled {x y : Home} (h : x.Alike y) (he : enrolled x.state = true) : enrolled y.state = true := by
  obtain hs | ⟨-, hy⟩ := h.state
  · rwa [hs]
  · exact hy

theorem Home.Alike.free_iff {x y : Home} (h : x.Alike y) : y.state = .free ↔ x.state = .free := by
  obtain hs | ⟨hx, hy⟩ := h.state
  · rw [hs]
  · simp [not_free_of_enrolled hx, not_free_of_enrolled hy]

theorem Home.Alike.forward_iff {x y : Home} (h : x.Alike y) : y.state = .forward ↔ x.state = .forward := by
  obtain hs | ⟨hx, hy⟩ := h.state
  · rw [hs]
  · simp [not_forward_of_enrolled hx, not_forward_of_enrolled hy]

theorem Home.Alike.inPool {x y : Home} (h : x.Alike y) : inPool y.state = inPool x.state := by
  obtain hs | ⟨hx, hy⟩ := h.state
  · rw [hs]
  · rw [inPool_of_enrolled hx, inPool_of_enrolled hy]

theorem TreeLine.Alike.refl (x : TreeLine) : x.Alike x := ⟨rfl, fun _ _ h => h⟩

theorem TreeLine.Alike.trans {x y z : TreeLine} (h : x.Alike y) (k : y.Alike z) : x.Alike z :=
  ⟨k.pool.trans h.pool, fun n i hn => k.held n i (h.held n i hn)⟩

theorem State.Alike.refl (s : State) : s.Alike s := ⟨fun _ => .refl _, fun _ => .refl _, rfl, id⟩

theorem State.Alike.trans {a b c : State} (h : a.Alike b) (k : b.Alike c) : a.Alike c :=
  ⟨fun i => (h.homes i).trans (k.homes i), fun t => (h.trees t).trans (k.trees t), k.forwardList.trans h.forwardList, k.run ∘ h.run⟩

theorem State.Alike.foldl {α : Type} {f : State → α → State} (hf : ∀ (s : State) (a : α), s.Alike (f s a)) (xs : List α) (s : State) :
    s.Alike (xs.foldl f s) := by
  induction xs generalizing s with
  | nil => exact .refl s
  | cons x xs ih => exact (hf s x).trans (ih (f s x))

/-- An operation on the other blocks keeps the Home Table. -/
theorem State.Alike.of_same {s s' : State} (hh : s'.homes = s.homes) (ht : s'.trees = s.trees) (hf : s'.forwardList = s.forwardList)
    (hc : s'.config = s.config) : s.Alike s' where
  homes h := by simp only [State.home, hh]; exact .refl _
  trees t := by simp only [State.tree, ht]; exact .refl _
  forwardList := hf
  run h := by rw [State.inRun, hc]; exact h

/-! ### The plain updates -/

theorem State.setHome_alike {s : State} {h : HomeIndex} {x : Home} (hx : (s.home h).Alike x) : s.Alike (s.setHome h x) where
  homes i := by
    rw [State.setHome_home]
    split
    · rename_i e; rw [e]; exact hx
    · exact .refl _
  trees _ := .refl _
  forwardList := rfl
  run := id

theorem State.onHome_alike {s : State} {h : HomeIndex} {f : Home → Home} (hf : (s.home h).Alike (f (s.home h))) : s.Alike (s.onHome h f) :=
  State.setHome_alike hf

theorem State.mapHomes_alike {s : State} {f : HomeIndex → Home → Home} (hf : ∀ h, (s.home h).Alike (f h (s.home h))) :
    s.Alike (s.mapHomes f) where
  homes i := by rw [State.mapHomes_home]; exact hf i
  trees _ := .refl _
  forwardList := rfl
  run := id

theorem State.setTree_alike {s : State} {t : Tree} {x : TreeLine} (hx : (s.tree t).Alike x) : s.Alike (s.setTree t x) where
  homes _ := .refl _
  trees i := by
    rw [State.setTree_tree]
    split
    · rename_i e; rw [e]; exact hx
    · exact .refl _
  forwardList := rfl
  run := id

theorem State.onTree_alike {s : State} {t : Tree} {f : TreeLine → TreeLine} (hf : (s.tree t).Alike (f (s.tree t))) : s.Alike (s.onTree t f) :=
  State.setTree_alike hf

theorem State.onSearch_alike (s : State) (t : Tree) (f : SearchContext → SearchContext) : s.Alike (s.onSearch t f) :=
  State.onTree_alike ⟨rfl, fun _ _ h => h⟩

theorem State.onLink_alike (s : State) (f : Link → Link) : s.Alike (s.onLink f) := .of_same rfl rfl rfl rfl
theorem State.onEnrol_alike (s : State) (f : Enrollment → Enrollment) : s.Alike (s.onEnrol f) := .of_same rfl rfl rfl rfl
theorem State.onShare_alike (s : State) (f : ShareState → ShareState) : s.Alike (s.onShare f) := .of_same rfl rfl rfl rfl
theorem State.onMeter_alike (s : State) (f : Metering → Metering) : s.Alike (s.onMeter f) := .of_same rfl rfl rfl rfl
theorem State.onCal_alike (s : State) (f : Calendar → Calendar) : s.Alike (s.onCal f) := .of_same rfl rfl rfl rfl
theorem State.onClock_alike (s : State) (f : RoundClock → RoundClock) : s.Alike (s.onClock f) := .of_same rfl rfl rfl rfl
theorem State.emit_alike (s : State) (o : Output) : s.Alike (s.emit o) := .of_same rfl rfl rfl rfl
theorem State.begin_alike (s : State) : s.Alike s.begin := .of_same rfl rfl rfl rfl
theorem State.endWalk_alike (s : State) : s.Alike s.endWalk := .of_same rfl rfl rfl rfl

/-! ### Home records: what an operation on one record leaves -/

theorem Home.onOpen_alike (x : Home) (f : Bank → Bank) : x.Alike (x.onOpen f) := by
  rw [x.onOpen_frame f]; exact ⟨.inl rfl, rfl, rfl, rfl, rfl⟩

theorem Home.deliver_alike (x : Home) (b : Band) (n : Nat) : x.Alike (x.deliver b n) := by
  rw [x.deliver_frame b n]; exact ⟨.inl rfl, rfl, rfl, rfl, rfl⟩

theorem Home.pendingToMeters_alike (x : Home) : x.Alike x.pendingToMeters := by
  rw [x.pendingToMeters_frame]; exact ⟨.inl rfl, rfl, rfl, rfl, rfl⟩

theorem Home.boundaryTick_alike (x : Home) (r : Bool) : x.Alike (x.boundaryTick r) := by
  rw [x.boundaryTick_frame r]; exact ⟨.inl rfl, rfl, rfl, rfl, rfl⟩

theorem Home.refreshTick_alike (x : Home) (r : Bool) : x.Alike (x.refreshTick r) := by
  rw [x.refreshTick_frame r]; exact ⟨.inl rfl, rfl, rfl, rfl, rfl⟩

theorem Home.afterBuild_alike (x : Home) (t : Tree) (d : Bool) : x.Alike (x.afterBuild t d) := by
  rw [x.afterBuild_frame t d]; exact ⟨.inl rfl, rfl, rfl, rfl, rfl⟩

theorem Home.halve_alike (x : Home) : x.Alike x.halve := by
  unfold Home.halve
  dsimp only
  split
  · exact Home.Alike.trans (y := { x with score := x.score / 2 }) ⟨.inl rfl, rfl, rfl, rfl, rfl⟩ (Home.pendingToMeters_alike _)
  · exact ⟨.inl rfl, rfl, rfl, rfl, rfl⟩

theorem Home.secondTick_alike (x : Home) (r : Bool) : x.Alike (x.secondTick r) := by
  have hw : x.Alike (if inService x.state && (decide (x.silence = .search) || !r) then x.onOpen Bank.withhold else x) := by
    split
    · exact x.onOpen_alike _
    · exact .refl x
  refine hw.trans ?_
  unfold Home.secondTick
  dsimp only
  generalize (if inService x.state && (decide (x.silence = .search) || !r) then x.onOpen Bank.withhold else x) = y
  split
  · exact ⟨.inl rfl, rfl, rfl, rfl, rfl⟩
  · exact .refl y

theorem Home.markStep_alike (x : Home) : x.Alike x.markStep := by
  unfold Home.markStep
  split
  · exact x.onOpen_alike _
  · exact .refl x

theorem Home.atClose_alike (x : Home) (m : Moment) : x.Alike (x.atClose m) := by
  have hsw : x.Alike (if x.closedWaiting then x.raiseSpans else x.swapBanks m) := by
    split
    · exact x.onOpen_alike _
    · rw [x.swapBanks_frame m]; exact ⟨.inl rfl, rfl, rfl, rfl, rfl⟩
  have hsp : x.Alike x.raiseSpans := x.onOpen_alike _
  unfold Home.atClose
  split
  case h_1 | h_2 | h_3 | h_4 => exact hsw
  case h_5 | h_6 => exact hsp
  case h_7 => exact ⟨.inl rfl, rfl, rfl, rfl, rfl⟩
  case h_8 | h_9 => exact .refl x

theorem Home.toMeasuring_alike {x : Home} (phase : MeasurePhase) (he : enrolled x.state = true) : x.Alike (x.toMeasuring phase) :=
  ⟨.inr ⟨he, rfl⟩, rfl, rfl, rfl, rfl⟩

theorem Home.toIsolated_alike {x : Home} (he : enrolled x.state = true) : x.Alike x.toIsolated := by
  unfold Home.toIsolated
  rw [x.pendingToDiscarded_frame]
  exact ⟨.inr ⟨he, rfl⟩, rfl, rfl, rfl, rfl⟩

theorem Home.stopMeasuring_alike (x : Home) (t : Tree) : x.Alike (x.stopMeasuring t) := by
  unfold Home.stopMeasuring
  split
  · exact ⟨.inl rfl, rfl, rfl, rfl, rfl⟩
  · exact .refl x

/-! ### Trees: what an operation on one tree leaves -/

theorem TreeLine.freeTag_alike (x : TreeLine) (tag : Nat) : x.Alike (x.freeTag tag) :=
  ⟨by rw [x.freeTag_frame tag], fun _ _ h => x.freeTag_held tag _ _ h⟩

theorem TreeLine.keep_alike (x : TreeLine) (m : CtlMsg) : x.Alike (x.keep m) := by
  rw [x.keep_frame m]; exact ⟨rfl, fun _ _ h => h⟩

theorem TreeLine.lose_alike (x : TreeLine) (m : CtlMsg) : x.Alike (x.lose m) := by
  have hl : x.Alike { x with lostMessages := bump x.lostMessages } := ⟨rfl, fun _ _ h => h⟩
  unfold TreeLine.lose
  dsimp only
  split
  · exact hl.trans (TreeLine.freeTag_alike _ _)
  · exact hl.trans (TreeLine.keep_alike _ _)

theorem TreeLine.place16_alike (x : TreeLine) (m : CtlMsg) : x.Alike (x.place16 m) := by
  have hq : ∀ q, x.Alike { x with queue := q } := fun q => ⟨rfl, fun _ _ h => h⟩
  unfold TreeLine.place16
  split
  · exact hq _
  · split
    · split
      · split
        · exact x.keep_alike m
        · exact (hq _).trans (TreeLine.lose_alike _ _)
      · exact x.keep_alike m
    · exact x.keep_alike m

/-- R28: an offered message moves no held tag: a displaced DROP frees a draining tag alone. -/
theorem TreeLine.offer_alike (x : TreeLine) (m : CtlMsg) : x.Alike (x.offer m) := by
  unfold TreeLine.offer
  split
  · split
    · exact ⟨rfl, fun _ _ h => h⟩
    · exact x.place16_alike m
  all_goals exact x.place16_alike m

/-- R6: a drained tag leaves the others held. -/
theorem TreeLine.drain_held (x : TreeLine) {tag k : Nat} {h : HomeIndex} (hk : k ≠ tag) (hp : x.place k = some (.held h)) :
    (x.drain tag).place k = some (.held h) := by
  refine (TreeLine.offer_alike _ _).held k h ?_
  change (x.setPlace tag .draining).place k = _
  rw [TreeLine.setPlace_place, if_neg hk]
  exact hp

theorem TreeLine.drain_pool (x : TreeLine) (tag : Nat) : (x.drain tag).pool = x.pool := by rw [x.drain_frame tag]

theorem TreeLine.countEvidence_alike (x : TreeLine) (k : Evidence) : x.Alike (x.countEvidence k) := by
  cases k <;> exact ⟨rfl, fun _ _ h => h⟩

theorem TreeLine.settleBoundary_alike (x : TreeLine) : x.Alike x.settleBoundary := by
  unfold TreeLine.settleBoundary
  split
  · exact ⟨rfl, fun _ _ h => h⟩
  · exact .refl x

/-! ### The link controller -/

theorem State.countReceived_alike (s : State) : s.Alike s.countReceived := .of_same rfl rfl rfl rfl
theorem State.event_alike (s : State) (e : EventKind) : s.Alike (s.event e) := .of_same rfl rfl rfl rfl
theorem State.respondTwo_alike (s : State) (st : Station) (n : BitVec 16) (k : Byte) (p q : List Byte) : s.Alike (s.respondTwo st n k p q) :=
  .of_same rfl rfl rfl rfl

theorem State.conclude_alike (s : State) (rx : Rx) (n : BitVec 16) (k : Byte) (a : Answer) : a.state.Alike (s.conclude rx n k a) := by
  unfold State.conclude
  dsimp only
  split <;> split <;> exact .of_same rfl rfl rfl rfl

theorem State.offerClaim_alike (s : State) (h : HomeIndex) : s.Alike (s.offerClaim h) := by
  unfold State.offerClaim
  dsimp only
  split
  · split
    · exact s.onLink_alike _
    · exact State.onHome_alike ⟨.inl rfl, rfl, rfl, rfl, rfl⟩
  · exact .refl s

theorem State.reofferClaim_alike (s : State) (h : HomeIndex) : s.Alike (s.reofferClaim h) := by
  unfold State.reofferClaim
  dsimp only
  split
  · split
    · exact (s.onLink_alike _).trans (State.onHome_alike ⟨.inl rfl, rfl, rfl, rfl, rfl⟩)
    · exact .refl s
  · exact .refl s

theorem State.offerShare_alike (s : State) (f d : Nat) : s.Alike (s.offerShare f d) := .of_same rfl rfl rfl rfl

theorem State.offerOvercommit_alike (s : State) (c f n : Nat) : s.Alike (s.offerOvercommit c f n) := by
  unfold State.offerOvercommit
  dsimp only
  split <;> split <;> exact .of_same rfl rfl rfl rfl

theorem State.offerHoldFull_alike (s : State) (d : Nat) (a b : BitVec 16) : s.Alike (s.offerHoldFull d a b) := by
  unfold State.offerHoldFull
  dsimp only
  split <;> split <;> exact .of_same rfl rfl rfl rfl

/-! ### Control messages and entries -/

theorem State.offerCtl_alike (s : State) (t : Tree) (m : CtlMsg) : s.Alike (s.offerCtl t m) := State.onTree_alike (TreeLine.offer_alike _ _)

theorem State.reoffer_alike (s : State) (t : Tree) (i : Nat) : s.Alike (s.reoffer t i) := by
  have he : (s.tree t).Alike { s.tree t with held := (s.tree t).held.eraseIdx i } := ⟨rfl, fun _ _ h => h⟩
  unfold State.reoffer
  dsimp only
  split
  · exact .refl s
  · split
    · exact .refl s
    · split
      · exact State.setTree_alike he
      · split
        · exact State.setTree_alike (he.trans (TreeLine.offer_alike _ _))
        · exact .refl s

theorem State.wakeWalk_alike (s : State) : s.Alike s.wakeWalk := by
  unfold State.wakeWalk
  split
  · exact .of_same rfl rfl rfl rfl
  · exact .of_same rfl rfl rfl rfl
  · exact .refl s

theorem State.leaveIsolated_alike (s : State) (x : Home) : s.Alike (s.leaveIsolated x) := by
  unfold State.leaveIsolated
  split
  · split
    · exact State.onTree_alike ⟨rfl, fun _ _ h => h⟩
    · exact .refl s
  · exact .refl s

theorem State.isolate_alike {s : State} {h : HomeIndex} (cause : IsolateCause) (e : Option Evidence) (he : enrolled (s.home h).state = true) :
    s.Alike (s.isolate h cause e) := by
  have hi : s.Alike (s.setHome h (s.home h).toIsolated) := State.setHome_alike (Home.toIsolated_alike he)
  unfold State.isolate
  dsimp only
  refine State.Alike.trans ?_ (State.event_alike _ _)
  refine hi.trans ?_
  split
  · rename_i t _
    have hc : ∀ s : State, s.Alike (s.onTree t fun y => { y with isolations := bump y.isolations }) := fun _ =>
      State.onTree_alike ⟨rfl, fun _ _ h => h⟩
    split
    · exact (hc _).trans (State.offerCtl_alike _ _ _)
    · exact hc _
  · exact .refl _

theorem State.queueWalk_alike (s : State) (r : WalkRequest) : s.Alike (s.queueWalk r).1 := by
  unfold State.queueWalk
  split
  · exact .of_same rfl rfl rfl rfl
  · exact .refl s

/-! ### Searches and evidence -/

theorem State.commandCandidate_alike (s : State) (t : Tree) (target : List Nat) (p : Candidate × Nat) :
    s.Alike (s.commandCandidate t target p) := by
  unfold State.commandCandidate
  dsimp only
  split
  · split
    · exact .refl s
    · split
      · exact (State.onHome_alike ⟨.inl rfl, rfl, rfl, rfl, rfl⟩).trans (State.offerCtl_alike _ _ _)
      · split
        · exact (State.onHome_alike ⟨.inl rfl, rfl, rfl, rfl, rfl⟩).trans (State.offerCtl_alike _ _ _)
        · exact .refl s
  · exact .refl s

theorem State.setupProbe_alike (s : State) (t : Tree) (step : SearchStep) (a b : Nat) : s.Alike (s.setupProbe t step a b) :=
  (s.onSearch_alike t _).trans (.foldl (fun s p => s.commandCandidate_alike t _ p) _ _)

theorem State.startSearch_alike (s : State) (t : Tree) (c : SearchCause) : s.Alike (s.startSearch t c) :=
  (State.onTree_alike ⟨rfl, fun _ _ h => h⟩).trans (State.setupProbe_alike _ _ _ _ _)

theorem State.endSilence_alike (t : Tree) (s : State) (h : HomeIndex) : s.Alike (State.endSilence t s h) := by
  have hs : s.Alike (s.onHome h fun y => { y with silence := .none }) := State.onHome_alike ⟨.inl rfl, rfl, rfl, rfl, rfl⟩
  unfold State.endSilence
  dsimp only
  split
  · split
    · exact hs.trans (State.offerCtl_alike _ _ _)
    · exact hs
  · exact .refl s

theorem State.endSearch_alike (s : State) (t : Tree) (o : SearchOutcome) (r : SearchReason) : s.Alike (s.endSearch t o r) := by
  refine State.Alike.trans (b := s.onTree t TreeLine.forgetAwaited) (State.onTree_alike ⟨rfl, fun _ _ h => h⟩) ?_
  refine State.Alike.trans (.foldl (fun s h => State.endSilence_alike t s h) homeIndexes _) ?_
  exact State.Alike.trans (State.onTree_alike ⟨rfl, fun _ _ h => h⟩) (State.event_alike _ _)

theorem State.nextProbe_alike (s : State) (t : Tree) (step : SearchStep) (a b : Nat) : s.Alike (s.nextProbe t step a b) := by
  unfold State.nextProbe
  split
  · exact s.endSearch_alike t _ _
  · exact s.setupProbe_alike t _ _ _

theorem State.examine_alike (s : State) (t : Tree) (a b : Nat) : s.Alike (s.examine t a b) := by
  unfold State.examine
  split <;> exact s.nextProbe_alike t _ _ _

theorem State.popTrail_alike (s : State) (t : Tree) : s.Alike (s.popTrail t) := by
  unfold State.popTrail
  dsimp only
  split
  · exact s.nextProbe_alike t _ _ _
  · exact (s.onSearch_alike t _).trans (State.examine_alike _ _ _ _)

theorem State.confirmClear_alike (s : State) (t : Tree) (p : Nat) : s.Alike (s.confirmClear t p) := by
  unfold State.confirmClear
  split
  · exact .refl s
  · rename_i c _
    split
    · rename_i hp
      have hs : inService (s.home c.home).state = true := by
        simp only [State.present, Bool.and_eq_true, Home.servedOn_iff] at hp
        exact hp.1.1
      exact (State.isolate_alike _ _ (enrolled_of_inService hs)).trans (State.onSearch_alike _ _ _)
    · split
      · exact s.onSearch_alike t _
      · exact .refl s

theorem State.verdict_alike (s : State) (t : Tree) (lit : Bool) : s.Alike (s.verdict t lit) := by
  unfold State.verdict
  dsimp only
  split
  · exact s.endSearch_alike t _ _
  · split
    · exact s.nextProbe_alike t _ _ _
    · exact s.examine_alike t _ _
  · exact s.examine_alike t _ _
  · exact (s.onSearch_alike t _).trans (State.examine_alike _ _ _ _)
  · exact (s.confirmClear_alike t _).trans (State.nextProbe_alike _ _ _ _ _)
  · exact s.popTrail_alike t
  · exact s.endSearch_alike t _ _
  · exact s.popTrail_alike t
  · exact s.endSearch_alike t _ _
  · exact s.endSearch_alike t _ _

theorem State.observe_alike (s : State) (t : Tree) (dark : Bool) : s.Alike (s.observe t dark) := by
  unfold State.observe
  dsimp only
  split
  · exact .refl s
  · split
    · exact (s.onSearch_alike t _).trans (State.verdict_alike _ _ _)
    · exact s.onSearch_alike t _

theorem Home.raiseScore_alike (x : Home) (w : Nat) : x.Alike (x.raiseScore w) := ⟨.inl rfl, rfl, rfl, rfl, rfl⟩

theorem State.charge_alike (s : State) (h : HomeIndex) (k : Evidence) : s.Alike (s.charge h k) := by
  have hr : s.Alike (s.onHome h fun x => x.raiseScore k.weight) := State.onHome_alike (Home.raiseScore_alike _ _)
  have hi : enrolled (s.home h).state = true → s.Alike (if 192 ≤ ((s.onHome h fun x => x.raiseScore k.weight).home h).score then
      (s.onHome h fun x => x.raiseScore k.weight).isolate h .score (some k) else s.onHome h fun x => x.raiseScore k.weight) := fun he => by
    split
    · exact hr.trans (State.isolate_alike _ _ ((hr.homes h).enrolled he))
    · exact hr
  unfold State.charge
  split
  case h_1 e | h_2 e | h_3 e => exact hi (by rw [e]; rfl)
  case h_4 | h_5 => exact hr
  all_goals exact .of_same rfl rfl rfl rfl

theorem State.evidence_alike (s : State) (t : Tree) (h : HomeIndex) (k : Evidence) : s.Alike (s.evidence t h k) :=
  (State.onTree_alike (TreeLine.countEvidence_alike _ _)).trans (State.charge_alike _ _ _)

theorem State.chargeIdentity_alike (s : State) (h : HomeIndex) : s.Alike (s.chargeIdentity h) :=
  State.Alike.trans (b := { s with identities := bump s.identities }) (.of_same rfl rfl rfl rfl) (State.charge_alike _ _ _)

theorem State.addDark_alike (s : State) (t : Tree) (w : Nat) : s.Alike (s.addDark t w) := by
  have hd : s.Alike (s.onTree t fun y => { y with darkCounter := satAdd 255 (s.tree t).darkCounter w }) :=
    State.onTree_alike ⟨rfl, fun _ _ h => h⟩
  unfold State.addDark
  dsimp only
  split
  · exact .refl s
  · split
    · exact hd.trans ((State.onTree_alike ⟨rfl, fun _ _ h => h⟩).trans (State.startSearch_alike _ _ _))
    · exact hd

theorem State.overlap_alike (s : State) (t : Tree) : s.Alike (s.overlap t) :=
  (State.onTree_alike ⟨rfl, fun _ _ h => h⟩).trans (State.addDark_alike _ _ _)

theorem State.dark_alike (s : State) (t : Tree) : s.Alike (s.dark t) :=
  (State.onTree_alike ⟨rfl, fun _ _ h => h⟩).trans (State.addDark_alike _ _ _)

/-! ### Enrolment -/

theorem State.noteUnknown_alike (s : State) (id : Identity) (t : Tree) (r : UnknownReason) : s.Alike (s.noteUnknown id t r) := .of_same rfl rfl rfl rfl
theorem State.ignoreCapture_alike (s : State) : s.Alike s.ignoreCapture := .of_same rfl rfl rfl rfl
theorem State.unmatched_alike (s : State) : s.Alike s.unmatched := .of_same rfl rfl rfl rfl
theorem State.sendObject_alike (s : State) (c : Station) (id : Identity) (i : Byte) (k : ObjectKind) : s.Alike (s.sendObject c id i k) :=
  .of_same rfl rfl rfl rfl
theorem State.sendRelease_alike (s : State) (c : Station) (id : Identity) (i : Byte) : s.Alike (s.sendRelease c id i) := .of_same rfl rfl rfl rfl

theorem State.dealCapture_alike (t : Tree) (s : State) (id : Identity) : s.Alike (State.dealCapture t s id) := by
  have h := s.queueWalk_alike (wholeWalk (.capture t) id)
  unfold State.dealCapture
  split
  · exact s.onEnrol_alike _
  · split
    · rename_i s' e
      rw [e] at h; exact h
    · rename_i s' e
      rw [e] at h; exact h.trans (.of_same rfl rfl rfl rfl)

theorem State.capture_alike (s : State) (t : Tree) (bs : List (List Byte)) : s.Alike (s.capture t bs) :=
  ((State.onTree_alike ⟨rfl, fun _ _ h => h⟩).trans (State.onEnrol_alike _ _)).trans (.foldl (fun s id => State.dealCapture_alike t s id) _ _)

theorem State.rejoin_alike {s : State} {h : HomeIndex} (t : Tree) (id : Identity) (he : enrolled (s.home h).state = true) :
    s.Alike (s.rejoin h t id) := by
  have hm : s.Alike (s.setHome h ((s.home h).toMeasuring .announcing)) := State.setHome_alike (Home.toMeasuring_alike _ he)
  unfold State.rejoin
  dsimp only
  split
  · exact hm.trans (State.offerCtl_alike _ _ _)
  · exact hm

theorem State.hearClaim_alike (s : State) (c : Station) (id : Identity) (i : Byte) : s.Alike (s.hearClaim c id i) := by
  have h := (s.onEnrol_alike fun e => e.forget id).trans (State.queueWalk_alike _ (wholeWalk (.claim c i) id))
  unfold State.hearClaim
  dsimp only
  split
  · rename_i s' e
    rw [e] at h; exact h
  · rename_i s' e
    rw [e] at h; exact h.trans (State.sendObject_alike _ _ _ _ _)

theorem State.actRelease_alike (s : State) (c : Station) (id : Identity) : s.Alike (s.actRelease c id) := by
  unfold State.actRelease
  split
  · exact .refl s
  · split
    case h_1 | h_2 => exact State.onHome_alike ⟨.inl rfl, rfl, rfl, rfl, rfl⟩
    all_goals exact .refl s

theorem State.lateObject_alike (s : State) (h : HomeIndex) (st : Station) (id : Identity) (k : ObjectKind) : s.Alike (s.lateObject h st id k) := by
  cases k with
  | wait => exact .refl s
  | held =>
    dsimp only [State.lateObject]
    split
    · exact (s.event_alike _).trans (State.chargeIdentity_alike _ _)
    · exact s.event_alike _

theorem State.acceptAttempt_alike (s : State) (h : HomeIndex) (t : Tree) (r : Nat) (m : Sample) : s.Alike (s.acceptAttempt h t r m) := by
  have hs : ∀ e l : Nat, s.Alike (s.setHome h { s.home h with eq := some e, level := l, drift := 0, attempts := 0, samples := [],
                                                              phase := some .setting }) := fun _ _ =>
    State.setHome_alike ⟨.inl rfl, rfl, rfl, rfl, rfl⟩
  unfold State.acceptAttempt
  dsimp only
  split
  · exact (hs _ _).trans (State.offerCtl_alike _ _ _)
  · exact hs _ _

/-! ### The round -/

theorem State.addSince_alike (s : State) (w : Window) : s.Alike (s.addSince w) := State.onHome_alike ⟨.inl rfl, rfl, rfl, rfl, rfl⟩

theorem State.swapTree_alike (s : State) (t : Tree) : s.Alike (s.swapTree t) := by
  unfold State.swapTree
  dsimp only
  split
  · refine State.Alike.trans (State.setTree_alike ?_) (.foldl (fun s w => s.addSince_alike w) _ _)
    exact ⟨rfl, fun _ _ h => h⟩
  · exact .refl s

theorem State.announced_alike (s : State) (t : Tree) (tag : Nat) : s.Alike (s.announced t tag) := by
  unfold State.announced
  dsimp only
  split
  · exact .refl s
  · split
    · exact State.onHome_alike ⟨.inl rfl, rfl, rfl, rfl, rfl⟩
    · exact .refl s

theorem State.delaySent_alike (s : State) (t : Tree) (tag : Nat) : s.Alike (s.delaySent t tag) := by
  unfold State.delaySent
  split
  · exact .refl s
  · split
    · rename_i hs
      exact State.onHome_alike ⟨.inr ⟨by rw [hs.1]; rfl, rfl⟩, rfl, rfl, rfl, rfl⟩
    · exact .refl s

theorem State.reportSent_alike (t : Tree) (s : State) (m : CtlMsg) : s.Alike (State.reportSent t s m) := by
  unfold State.reportSent
  split
  · exact State.onTree_alike (TreeLine.freeTag_alike _ _)
  · exact s.announced_alike _ _
  · exact s.announced_alike _ _
  · exact s.delaySent_alike _ _
  all_goals exact .refl s

theorem State.sendHeader_alike (s : State) (t : Tree) : s.Alike (s.sendHeader t) := by
  have hh : ∀ s : State, s.Alike (s.onTree t fun y => y.sendHeader.settleBoundary) := fun s =>
    State.onTree_alike (TreeLine.Alike.trans (y := (s.tree t).sendHeader) ⟨rfl, fun _ _ h => h⟩ (TreeLine.settleBoundary_alike _))
  unfold State.sendHeader
  dsimp only
  split
  · exact ((s.emit_alike _).trans (hh _)).trans (.foldl (fun s m => State.reportSent_alike t s m) _ _)
  · exact .refl s

theorem State.roundBoundary_alike (s : State) : s.Alike s.roundBoundary :=
  (s.onClock_alike _).trans ((State.mapHomes_alike fun _ => Home.boundaryTick_alike _ _).trans
    ((State.Alike.foldl State.swapTree_alike _ _).trans (.foldl State.sendHeader_alike _ _)))

theorem State.finishBuild_alike (s : State) (t : Tree) (st : Stage1) (e x : Nat) : s.Alike (s.finishBuild t st e x) :=
  State.Alike.trans (State.onTree_alike ⟨rfl, fun _ _ h => h⟩) (State.mapHomes_alike fun _ => Home.afterBuild_alike _ _ _)

theorem State.mapPoint_alike (s : State) : s.Alike s.mapPoint := by
  unfold State.mapPoint
  dsimp only
  split
  · exact .of_same rfl rfl rfl rfl
  · refine State.Alike.trans (b := { s with eUsed := s.share.e, clock := { s.clock with mapPassed := true } }) (.of_same rfl rfl rfl rfl) ?_
    refine State.Alike.trans (.foldl ?_ _ _) (.of_same rfl rfl rfl rfl)
    exact fun s b => s.finishBuild_alike _ _ _ _

theorem State.epochTrees_alike (s : State) : s.Alike { s with trees := s.trees.map TreeLine.epochEnd } where
  homes _ := .refl _
  trees t := by simp only [State.tree, Quad_get_map]; exact ⟨rfl, fun _ _ h => h⟩
  forwardList := rfl
  run := id

theorem State.shareEnd_alike (s : State) : s.Alike s.shareEnd := by
  have hc : ∀ (s : State) (c : Nat), s.Alike (s.computeShare c) := fun s c => by
    unfold State.computeShare
    dsimp only
    split
    · exact (s.onShare_alike _).trans (State.offerOvercommit_alike _ _ _ _)
    · exact s.onShare_alike _
  unfold State.shareEnd
  dsimp only
  refine State.Alike.trans (b := { s with share := { s.share with fSelf := s.ownFloor, dSelf := s.demandSum / 500 }, demandSum := 0 })
    (.of_same rfl rfl rfl rfl) ?_
  split
  · exact ((State.offerShare_alike _ _ _).trans (hc _ _)).trans (State.onShare_alike _ _)
  · exact State.onShare_alike _ _

theorem State.periodClose_alike (s : State) (m : Moment) : s.Alike (s.periodClose m) := by
  unfold State.periodClose
  dsimp only
  refine State.Alike.trans (State.mapHomes_alike (f := fun _ x => x.atClose m) fun _ => Home.atClose_alike _ m) ?_
  exact (State.onMeter_alike _ _).trans ((State.wakeWalk_alike _).trans (State.onCal_alike _ _))

/-! ### Bursts and packets -/

theorem State.deliverPayload_alike (s : State) (t : Tree) (h : HomeIndex) (ps : Option (List (List Byte))) :
    s.Alike (s.deliverPayload t h ps) := by
  unfold State.deliverPayload
  split
  · exact State.onTree_alike ⟨rfl, fun _ _ h => h⟩
  · exact (State.Alike.foldl (fun s p => s.emit_alike _) _ s).trans (State.onHome_alike (Home.deliver_alike _ _ _))

theorem State.accumulateDrift_alike (s : State) (t : Tree) (h : HomeIndex) (δ : Int) : s.Alike (s.accumulateDrift t h δ) := by
  have hd : ∀ d : Int, s.Alike (s.setHome h { s.home h with drift := d }) := fun _ => State.setHome_alike ⟨.inl rfl, rfl, rfl, rfl, rfl⟩
  unfold State.accumulateDrift
  dsimp only
  split
  · exact .refl s
  · split
    · exact hd _
    · split
      · split
        · exact .refl s
        · split
          · refine State.Alike.trans (State.setHome_alike ?_) (State.offerCtl_alike _ _ _)
            exact ⟨.inl rfl, rfl, rfl, rfl, rfl⟩
          · exact hd _
      · exact .refl s

theorem State.judgeBurst_alike (s : State) (c : Config) (t : Tree) (h : HomeIndex) (δ : Int) (m l : Nat) : s.Alike (s.judgeBurst c t h δ m l) := by
  unfold State.judgeBurst
  dsimp only
  split
  · split
    · exact (s.evidence_alike _ _ _).trans (State.overlap_alike _ _)
    · exact s.overlap_alike _
  · split
    · exact s.evidence_alike _ _ _
    · exact .refl s

theorem State.recordReport_alike (s : State) (h : HomeIndex) (r : Nat) : s.Alike (s.recordReport h r) :=
  State.onHome_alike ⟨.inl rfl, rfl, rfl, rfl, rfl⟩

theorem State.lostReturn_alike (s : State) (c : Config) (h : HomeIndex) (δ : Int) : s.Alike (s.lostReturn c h δ) := by
  unfold State.lostReturn
  split
  · rename_i hl
    have he : enrolled (s.home h).state = true := by rw [hl]; rfl
    split
    · exact State.onHome_alike (Home.toMeasuring_alike _ he)
    · exact State.onHome_alike ⟨.inr ⟨he, rfl⟩, rfl, rfl, rfl, rfl⟩
  · exact .refl s

theorem State.clearMissed_alike (s : State) (h : HomeIndex) : s.Alike (s.onHome h fun y => { y with missed := 0 }) :=
  State.onHome_alike ⟨.inl rfl, rfl, rfl, rfl, rfl⟩

theorem State.setLevel_alike (s : State) (h : HomeIndex) (m k : Nat) : s.Alike (s.onHome h fun y => { y with level := moveLevel y.level m k }) :=
  State.onHome_alike ⟨.inl rfl, rfl, rfl, rfl, rfl⟩

theorem State.goodServed_alike (s : State) (c : Config) (t : Tree) (h : HomeIndex) (b : BurstRx) (w : Window) (δ : Int) (d : Head) (m : Nat) :
    s.Alike (s.goodServed c t h b w δ d m) :=
  ((s.clearMissed_alike h).trans (State.recordReport_alike _ _ _)).trans ((State.deliverPayload_alike _ _ _ _).trans
    ((State.setLevel_alike _ _ _ _).trans ((State.accumulateDrift_alike _ _ _ _).trans (State.judgeBurst_alike _ _ _ _ _ _ _))))

theorem State.goodLost_alike (s : State) (c : Config) (t : Tree) (h : HomeIndex) (b : BurstRx) (w : Window) (δ : Int) (d : Head) (m : Nat) :
    s.Alike (s.goodLost c t h b w δ d m) := by
  unfold State.goodLost
  dsimp only
  split
  · split
    · exact (s.clearMissed_alike h).trans ((State.deliverPayload_alike _ _ _ _).trans ((State.judgeBurst_alike _ _ _ _ _ _ _).trans
        (State.lostReturn_alike _ _ _ _)))
    · exact (s.clearMissed_alike h).trans ((State.deliverPayload_alike _ _ _ _).trans ((State.lostReturn_alike _ _ _ _).trans
        (State.judgeBurst_alike _ _ _ _ _ _ _)))
  · exact (s.clearMissed_alike h).trans ((State.recordReport_alike _ _ _).trans ((State.deliverPayload_alike _ _ _ _).trans
      ((State.setLevel_alike _ _ _ _).trans ((State.lostReturn_alike _ _ _ _).trans (State.judgeBurst_alike _ _ _ _ _ _ _)))))

theorem State.missWindow_alike (s : State) (h : HomeIndex) : s.Alike (s.missWindow h) := by
  refine State.onHome_alike ?_
  dsimp only
  split
  · rename_i hs
    exact ⟨.inr ⟨by rw [hs.1]; rfl, rfl⟩, rfl, rfl, rfl, rfl⟩
  · exact ⟨.inl rfl, rfl, rfl, rfl, rfl⟩

theorem State.takeBurst_alike (s : State) (c : Config) (t : Tree) (w : Window) (b : BurstRx) : s.Alike (s.takeBurst c t w b) := by
  unfold State.takeBurst
  dsimp only
  split
  · split
    · exact s.missWindow_alike _
    · exact .refl s
  · exact State.onTree_alike ⟨rfl, fun _ _ h => h⟩
  · split
    · split
      · exact s.goodLost_alike _ _ _ _ _ _ _ _
      · exact s.goodServed_alike _ _ _ _ _ _ _ _
    · exact .refl s

theorem State.takeGuard_alike (s : State) (t : Tree) (v : Option Window) (l : Bool) (w : Window) (b : BurstRx) : s.Alike (s.takeGuard t v l w b) := by
  unfold State.takeGuard
  dsimp only
  split
  · exact s.evidence_alike _ _ _
  · exact .refl s

theorem State.burst_alike (s : State) (c : Config) (t : Tree) (b : BurstRx) : s.Alike (s.burst c t b) := by
  unfold State.burst
  dsimp only
  split
  · exact .refl s
  · split
    · exact (State.onTree_alike ⟨rfl, fun _ _ h => h⟩).trans ((State.takeGuard_alike _ _ _ _ _ _).trans (State.takeBurst_alike _ _ _ _ _))
    · exact (State.onTree_alike ⟨rfl, fun _ _ h => h⟩).trans ((State.takeBurst_alike _ _ _ _ _).trans (State.takeGuard_alike _ _ _ _ _ _))

theorem State.handQuiet_alike (s : State) (t : Tree) (o d : Bool) : s.Alike (s.handQuiet t o d) := by
  unfold State.handQuiet
  split
  · split
    · exact s.observe_alike _ _
    · exact .refl s
  · split
    · exact s.dark_alike _
    · exact .refl s

theorem State.quietWindow_alike (s : State) (c : Config) (t : Tree) (l : Byte) : s.Alike (s.quietWindow c t l) := by
  unfold State.quietWindow
  dsimp only
  split
  · exact (State.onTree_alike ⟨rfl, fun _ _ h => h⟩).trans (State.handQuiet_alike _ _ _ _)
  · split
    · exact (State.onTree_alike ⟨rfl, fun _ _ h => h⟩).trans (State.handQuiet_alike _ _ _ _)
    · exact .refl s

theorem State.downstream_alike (s : State) (n : Nat) (p : List Byte) : s.Alike (s.downstream n p) := by
  have hr : s.Alike s.refuseDownstream := .of_same rfl rfl rfl rfl
  unfold State.downstream
  dsimp only
  split
  · split
    · split
      · exact (State.onHome_alike (Home.onOpen_alike _ _)).trans (State.emit_alike _ _)
      · exact hr
    · exact hr
  · exact hr

/-! ### Records, frames sent and requests -/

theorem State.offerHoldFull_homes (s : State) (d : Nat) (a b : BitVec 16) : (s.offerHoldFull d a b).homes = s.homes := by
  unfold State.offerHoldFull
  dsimp only
  split <;> split <;> rfl

theorem State.enqueue_homes (s : State) (r : Record) : (s.enqueue r).homes = s.homes := by
  simp only [State.enqueue, apply_ite State.homes, State.offerHoldFull_homes, State.onMeter_homes, ite_self]

theorem State.enqueue_alike (s : State) (r : Record) : s.Alike (s.enqueue r) := by
  refine (s.onMeter_alike fun m => { m with hold := m.hold ++ [r], nextNumber := m.nextNumber + 1, enqueued := bump m.enqueued
                                            finals := if r.final then bump m.finals else m.finals }).trans ?_
  unfold State.enqueue
  generalize s.onMeter _ = s₁
  dsimp only
  split
  · exact (s₁.onMeter_alike _).trans (State.offerHoldFull_alike _ _ _ _)
  · exact .refl s₁

theorem State.emitOrdinary_alike (s : State) (h : HomeIndex) : s.Alike (s.emitOrdinary h) := by
  refine (s.enqueue_alike _).trans (State.setHome_alike ?_)
  rw [State.home, State.enqueue_homes]
  exact ⟨.inl rfl, rfl, rfl, rfl, rfl⟩

theorem State.claimSent_alike (s : State) (f : Frame) : s.Alike (s.claimSent f) := by
  unfold State.claimSent
  split
  · split
    · exact State.onHome_alike ⟨.inl rfl, rfl, rfl, rfl, rfl⟩
    · exact .refl s
  all_goals exact .refl s

theorem State.dropped_alike (s : State) (f : Frame) : s.Alike (s.dropped f) := by
  unfold State.dropped
  split
  · split
    · exact (State.onHome_alike ⟨.inl rfl, rfl, rfl, rfl, rfl⟩).trans (State.offerClaim_alike _ _)
    · exact .refl s
  · exact s.onLink_alike _
  all_goals exact .refl s

theorem State.applyConfig_alike (s : State) (c : Config) : s.Alike (s.applyConfig c) := by
  refine State.Alike.trans (b := { s with config := some c, share := s.share.purge c.ranks, cal := { s.cal with closeTime := c.close } })
    ⟨fun _ => .refl _, fun _ => .refl _, rfl, fun _ => rfl⟩ ?_
  exact .foldl (fun _ _ => State.onTree_alike ⟨rfl, fun _ _ h => h⟩) _ _

theorem State.applyTime_alike (s : State) (m : Moment) (w : Nat) : s.Alike (s.applyTime m w) := by
  unfold State.applyTime
  dsimp only
  split
  · exact (State.mapHomes_alike fun _ => Home.markStep_alike _).trans ((State.onClock_alike _ _).trans (State.onCal_alike _ _))
  · exact (s.onClock_alike _).trans (State.onCal_alike _ _)

theorem State.takeAdmission_alike (s : State) (rx : Rx) (a : Admission) : s.Alike (s.takeAdmission rx a).state := by
  unfold State.takeAdmission
  split
  · exact .of_same rfl rfl rfl rfl
  · split
    · exact .refl s
    · exact .of_same rfl rfl rfl rfl

theorem State.pardonHome_alike {s : State} {h : HomeIndex} (he : enrolled (s.home h).state = true) : s.Alike (s.pardonHome h) := by
  have hp : s.Alike ((s.leaveIsolated (s.home h)).setHome h (({ s.home h with score := 0 } : Home).toMeasuring .announcing)) := by
    refine (s.leaveIsolated_alike _).trans (State.setHome_alike ?_)
    have hi : (s.leaveIsolated (s.home h)).home h = s.home h := by
      unfold State.leaveIsolated
      split
      · split <;> rfl
      · rfl
    rw [hi]
    exact ⟨.inr ⟨he, rfl⟩, rfl, rfl, rfl, rfl⟩
  unfold State.pardonHome
  dsimp only
  split
  · exact hp.trans ((State.onTree_alike ⟨rfl, fun _ _ h => h⟩).trans (State.offerCtl_alike _ _ _))
  · exact hp

theorem State.stopTree_alike (s : State) (t : Tree) : s.Alike (s.stopTree t) := by
  have hm : ∀ s : State, s.Alike ((s.onTree t TreeLine.stop).mapHomes fun _ x => x.stopMeasuring t) := fun s =>
    (State.onTree_alike ⟨rfl, fun _ _ h => h⟩).trans (State.mapHomes_alike fun _ => Home.stopMeasuring_alike _ _)
  unfold State.stopTree
  dsimp only
  split
  · exact (s.endSearch_alike _ _ _).trans (hm _)
  · exact hm s

theorem State.assignAgain_alike (t : Tree) (s : State) (h : HomeIndex) : s.Alike (State.assignAgain t s h) := by
  unfold State.assignAgain
  dsimp only
  split
  · split
    · split
      · exact .refl s
      · exact s.offerCtl_alike _ _
    · exact .refl s
  · exact .refl s

theorem State.refreshed_alike (s : State) (h : HomeIndex) :
    s.Alike (s.setHome h { s.home h with refresh := some 0, refreshDue := false }) := State.setHome_alike ⟨.inl rfl, rfl, rfl, rfl, rfl⟩

theorem State.laserOffAgain_alike (t : Tree) (s : State) (h : HomeIndex) : s.Alike (State.laserOffAgain t s h) := by
  unfold State.laserOffAgain
  dsimp only
  split
  · split
    · exact (s.refreshed_alike h).trans (State.offerCtl_alike _ _ _)
    · exact s.refreshed_alike h
  · exact .refl s

theorem State.startTree_alike (s : State) (c : Config) (t : Tree) : s.Alike (s.startTree c t) := by
  refine State.Alike.trans (b := s.onTree t fun x => x.start c) (State.onTree_alike ⟨rfl, fun _ _ h => h⟩) ?_
  refine State.Alike.trans (State.mapHomes_alike (f := fun _ x => if x.servedOn t then x.toMeasuring .announcing else x) fun h => ?_) ?_
  · split
    · rename_i hs
      exact Home.toMeasuring_alike _ (enrolled_of_inService ((Home.servedOn_iff _ _).1 hs).1)
    · exact .refl _
  · exact (State.Alike.foldl (fun s h => State.assignAgain_alike t s h) _ _).trans (.foldl (fun s h => State.laserOffAgain_alike t s h) _ _)

theorem State.dropHead_alike (s : State) : s.Alike s.dropHead := by
  unfold State.dropHead
  dsimp only
  split <;> exact .of_same rfl rfl rfl rfl

end Sys2Proof.Machine
end

section
/-! SUPPORT. The ways an entry joins, leaves or is rewritten in the Home Table, and that nothing else a command does touches what the table's rules count:
an invariant kept by these few operations is kept by every step. -/

namespace Sys2Proof.Machine

/-- No entry but a FREE one holds the identity. -/
def State.unheld (s : State) (id : Identity) : Prop := ∀ k, (s.home k).state ≠ .free → (s.home k).identity ≠ some id

theorem State.unheld_iff (s : State) (id : Identity) : s.unheld id ↔ s.holder id = none := by
  simp only [State.unheld, State.holder, List.find?_eq_none, homeIndexes, List.mem_finRange, true_implies, Bool.and_eq_true,
    decide_eq_true_eq, not_and]

/-- The entry a walk over the whole table finds holds the identity and is not FREE (R21). -/
theorem State.holder_some {s : State} {id : Identity} {h : HomeIndex} (hh : s.holder id = some h) :
    (s.home h).state ≠ .free ∧ (s.home h).identity = some id := by
  simpa using List.find?_some hh

/-- An invariant that an operation leaving the Home Table alike keeps, and that is kept by each of the operations by which an entry is
freed (R1), closed (R5), made FORWARD (R15), claimed (R51), moved to another tree (R49), given its tag (R56) or given another class (R13). In `claimed`, `s₀` is the
state in which the capture found no other holder of the identity. -/
structure KeptByTable (inv : State → Prop) : Prop where
  alike : ∀ {s s' : State}, s.Alike s' → inv s → inv s'
  freed : ∀ {s : State} (h : HomeIndex), inv s → inv (s.freeEntry h)
  closed : ∀ {s : State} {h : HomeIndex} (r : LeaveReason) (f : Option Station), enrolled (s.home h).state = true → inv s → inv (s.closeEntry h r f)
  forwarded : ∀ {s : State} {h : HomeIndex} (st : Station), (s.home h).state = .closing → inv s → inv s.makeForwardRoom →
    inv ({ s.makeForwardRoom with forwardList := s.makeForwardRoom.forwardList ++ [h] }.setHome h ((s.home h).toForward st))
  claimed : ∀ {s₀ s : State} {h : HomeIndex} (t : Tree) (a : Admission), (s₀.identitiesUnique → s.unheld a.identity) →
    (s.home h).state = .free → s.poolTest t a.g = true → inv s₀ → inv s → inv ((s.setHome h (Home.claiming a t)).poolAdd t a.g)
  moved : ∀ {s : State} {h : HomeIndex} {t : Tree} (id : Identity), (s.home h).state = .lost → (s.home h).tree ≠ some t → inv s →
    inv (s.rejoinMoved h t id)
  succeeded : ∀ {s : State} {h : HomeIndex} (m : Option Station), (s.home h).state = .claiming → inv s → inv (s.succeedClaim h m)
  classed : ∀ {s : State} {h : HomeIndex} (g p : Nat), enrolled (s.home h).state = true → s.poolWith (s.home h) g ≤ 1200 → inv s →
    inv (s.writeClass h g p)

@[simp] theorem State.accept_state (s : State) : s.accept.state = s := rfl

namespace KeptByTable

variable {inv : State → Prop}

/-- An operation on the other blocks keeps what the table's operations keep. -/
theorem same (K : KeptByTable inv) {s s' : State} (hi : inv s) (hh : s'.homes = s.homes) (ht : s'.trees = s.trees)
    (hf : s'.forwardList = s.forwardList) (hc : s'.config = s.config) : inv s' := K.alike (.of_same hh ht hf hc) hi

/-! ### Entries -/

theorem abandonClaim (K : KeptByTable inv) {s : State} (h : HomeIndex) (hi : inv s) : inv (s.abandonClaim h) :=
  K.freed h (K.alike (s.onLink_alike _) hi)

theorem makeForwardRoom (K : KeptByTable inv) {s : State} (hi : inv s) : inv s.makeForwardRoom := by
  unfold State.makeForwardRoom
  split
  · split
    · exact K.freed _ hi
    · exact hi
  · exact hi

theorem endClosing (K : KeptByTable inv) {s : State} {h : HomeIndex} (hc : (s.home h).state = .closing) (hi : inv s) :
    inv (s.endClosing h) := by
  unfold State.endClosing
  dsimp only
  split
  · exact K.freed h hi
  · exact K.forwarded _ hc hi (K.makeForwardRoom hi)

theorem emitFinal (K : KeptByTable inv) {s : State} {h : HomeIndex} (hc : (s.home h).state = .closing) (hi : inv s) : inv (s.emitFinal h) :=
  K.endClosing (by rwa [State.home, State.enqueue_homes]) (K.alike (s.enqueue_alike _) hi)

theorem walkStep (K : KeptByTable inv) {s : State} (hi : inv s) : inv s.walkStep := by
  have he : ∀ e : EmissionWalk, inv { s with emission := e } := fun e => K.same hi rfl rfl rfl rfl
  unfold State.walkStep
  dsimp only
  split
  · rename_i hw
    split
    · split
      · exact K.alike (State.emitOrdinary_alike _ _) (he _)
      · rename_i hb
        have hc : (s.home s.emission.pointer).state = .closing := by simpa [hb] using hw
        exact K.emitFinal hc (he _)
    · exact he _
  · exact he _

/-! ### Captures -/

theorem admitCapture (K : KeptByTable inv) {s₀ s : State} (t : Tree) {id : Identity} (hu : s₀.identitiesUnique → s.unheld id) (h₀ : inv s₀)
    (hi : inv s) : inv (s.admitCapture t id) := by
  unfold State.admitCapture
  split
  · exact K.alike (s.onEnrol_alike _) hi
  · split
    · exact K.alike (s.noteUnknown_alike _ _ _) hi
    · rename_i a ha
      have hid : a.identity = id := by simpa using List.find?_some ha
      split
      · exact K.alike (s.noteUnknown_alike _ _ _) hi
      · rename_i h hf
        have hfree : (s.home h).state = .free := by simpa using List.find?_some hf
        split
        · exact K.alike (s.noteUnknown_alike _ _ _) hi
        · split
          · exact K.alike (s.noteUnknown_alike _ _ _) hi
          · rename_i hp
            exact K.alike (State.offerClaim_alike _ _) (K.claimed t a (hid ▸ hu) hfree (by simpa using hp) h₀ hi)

theorem localConflict (K : KeptByTable inv) {s : State} (h : HomeIndex) (t : Tree) (id : Identity) (hi : inv s) : inv (s.localConflict h t id) := by
  have he : inv ((s.onEnrol fun e => e.bar id).event (.identityConflict id h (s.home h).tree (.localTree t))) :=
    K.alike ((s.onEnrol_alike _).trans (State.event_alike _ _)) hi
  unfold State.localConflict
  dsimp only
  split
  · exact K.abandonClaim h he
  · exact K.alike (State.chargeIdentity_alike _ _) he

end KeptByTable

theorem State.freeEntry_home (s : State) (h k : HomeIndex) : (s.freeEntry h).home k = if k = h then Home.free else s.home k := by
  have hp : ∀ x : Home, (s.leavePool x).homes = s.homes := fun x => by
    unfold State.leavePool
    split
    · split <;> rfl
    · rfl
  have hd : ∀ (s : State) (x : Home), (s.drainTag x).homes = s.homes := fun s x => by
    unfold State.drainTag
    split <;> rfl
  unfold State.freeEntry
  dsimp only
  rw [State.setHome_home]
  split
  · rfl
  · simp only [State.home, State.leaveForwardList, hd, hp]

/-- R9, R16: where identities are unique, freeing the holder of an identity leaves no holder. -/
theorem State.identitiesUnique.unheld_freeEntry {s : State} (hu : s.identitiesUnique) {h : HomeIndex} {id : Identity}
    (hh : s.holder id = some h) : (s.freeEntry h).unheld id := by
  intro k
  rw [State.freeEntry_home]
  split
  · intro hk; exact absurd rfl hk
  · rename_i hne
    exact fun hk hid => hne (hu k h id hk (State.holder_some hh).1 hid (State.holder_some hh).2)

namespace KeptByTable

variable {inv : State → Prop}

theorem actCapture (K : KeptByTable inv) {s : State} (t : Tree) (id : Identity) (hi : inv s) : inv (s.actCapture t id) := by
  unfold State.actCapture
  dsimp only
  split
  · rename_i hn
    exact K.admitCapture t (fun _ => (s.unheld_iff id).2 hn) hi hi
  · rename_i h hh
    split
    case h_1 hs => exact absurd hs (State.holder_some hh).1
    case h_2 => exact K.admitCapture t (fun hu => hu.unheld_freeEntry hh) hi (K.freed h hi)
    case h_3 hs =>
      split
      · exact K.alike (State.rejoin_alike t id (by rw [hs]; rfl)) hi
      · rename_i ht
        exact K.moved id hs (by simpa using ht) hi
    case h_4 hs | h_5 hs =>
      split
      · exact K.alike (State.rejoin_alike t id (by rw [hs]; rfl)) hi
      · exact K.localConflict _ _ _ hi
    case h_6 | h_7 =>
      split
      · exact K.alike s.ignoreCapture_alike hi
      · exact K.localConflict _ _ _ hi
    case h_8 | h_9 => exact K.alike s.ignoreCapture_alike hi

/-! ### The claim protocol -/

theorem actClaim (K : KeptByTable inv) {s : State} (c : Station) (i : Byte) (id : Identity) (hi : inv s) : inv (s.actClaim c i id) := by
  have ho : ∀ (h : HomeIndex) (f : Option Station), s.Alike (s.onHome h fun y => { y with forwardTo := f }) := fun _ _ =>
    State.onHome_alike ⟨.inl rfl, rfl, rfl, rfl, rfl⟩
  unfold State.actClaim
  dsimp only
  split
  · exact hi
  · rename_i h _
    split
    case h_1 => exact hi
    case h_2 hs => exact K.alike (State.sendRelease_alike _ _ _ _) (K.closed .moved (some c) (by rw [hs]; rfl) hi)
    case h_3 => exact K.alike ((ho h _).trans (State.sendRelease_alike _ _ _ _)) hi
    case h_4 => exact K.alike (ho h _) hi
    case h_5 | h_6 | h_7 => exact K.alike ((s.sendObject_alike _ _ _ _).trans (State.chargeIdentity_alike _ _)) hi
    case h_8 => exact K.alike (s.sendObject_alike _ _ _ _) hi
    case h_9 => exact K.alike ((State.onEnrol_alike _ _).trans (State.event_alike _ _)) (K.abandonClaim h hi)

theorem objectWait (K : KeptByTable inv) {s : State} (h : HomeIndex) (hi : inv s) : inv (s.objectWait h) := by
  have hc : ∀ c : ClaimContext, s.Alike (s.onHome h fun x => { x with claim := some c }) := fun _ =>
    State.onHome_alike ⟨.inl rfl, rfl, rfl, rfl, rfl⟩
  unfold State.objectWait
  split
  · exact hi
  · split
    · exact K.abandonClaim h hi
    · dsimp only
      split
      · exact K.alike (hc _) hi
      · exact K.alike ((hc _).trans (State.offerClaim_alike _ _)) hi

theorem takeObject (K : KeptByTable inv) {s : State} (st : Station) (id : Identity) (i : Byte) (k : ObjectKind) (hi : inv s) :
    inv (s.takeObject st id i k) := by
  unfold State.takeObject
  split
  · exact K.alike s.unmatched_alike hi
  · rename_i h _
    split
    · cases k with
      | held => exact K.alike ((State.onEnrol_alike _ _).trans (State.event_alike _ _)) (K.abandonClaim h hi)
      | wait => exact K.objectWait h hi
    · exact K.alike (s.lateObject_alike _ _ _ _) hi

theorem takeRelease (K : KeptByTable inv) {s : State} (r : Station) (id : Identity) (i : Byte) (hi : inv s) : inv (s.takeRelease r id i) := by
  unfold State.takeRelease
  split
  · exact K.alike s.unmatched_alike hi
  · dsimp only
    split
    · rename_i hc; exact K.succeeded _ hc hi
    · split
      · exact K.alike (State.onHome_alike ⟨.inl rfl, rfl, rfl, rfl, rfl⟩) hi
      · exact hi

theorem hearRelease (K : KeptByTable inv) {s : State} (src : Station) (id : Identity) (r c i : Byte) (hi : inv s) :
    inv (s.hearRelease src id r c i) := by
  unfold State.hearRelease
  split
  · exact hi
  · split
    · exact K.takeRelease _ _ _ hi
    · exact K.alike (s.queueWalk_alike _) hi

/-! ### Reach measurement -/

theorem failMeasurement (K : KeptByTable inv) {s : State} {h : HomeIndex} (r : UnknownReason) (hm : (s.home h).state = .measuring) (hi : inv s) :
    inv (s.failMeasurement h r) := by
  unfold State.failMeasurement
  dsimp only
  split
  · exact K.alike (State.setHome_alike ⟨.inr ⟨by rw [hm]; rfl, rfl⟩, rfl, rfl, rfl, rfl⟩) hi
  · split
    · exact K.alike ((State.noteUnknown_alike _ _ _ _).trans (State.onEnrol_alike _ _)) (K.freed h hi)
    · exact K.freed h hi

theorem failAttempt (K : KeptByTable inv) {s : State} {h : HomeIndex} (hm : (s.home h).state = .measuring) (hi : inv s) : inv (s.failAttempt h) := by
  have hf : inv (s.onHome h fun x => { x with samples := [], attempts := x.attempts + 1 }) :=
    K.alike (State.onHome_alike ⟨.inl rfl, rfl, rfl, rfl, rfl⟩) hi
  unfold State.failAttempt
  dsimp only
  split
  · exact K.failMeasurement _ (by simpa using hm) hf
  · exact hf

theorem takeSample (K : KeptByTable inv) {s : State} {h : HomeIndex} (t : Tree) (n : Nat) (x : Option Sample) (hm : (s.home h).state = .measuring)
    (hi : inv s) : inv (s.takeSample h t n x) := by
  have ho : ∀ xs : List Sample, inv (s.onHome h fun y => { y with samples := xs }) := fun _ =>
    K.alike (State.onHome_alike ⟨.inl rfl, rfl, rfl, rfl, rfl⟩) hi
  unfold State.takeSample
  dsimp only
  split
  · exact K.failAttempt hm hi
  · split
    · exact K.failMeasurement _ hm hi
    · split
      · exact ho _
      · split
        · split
          · exact K.alike (State.acceptAttempt_alike _ _ _ _ _) (ho _)
          · exact ho _
        · exact K.failAttempt (by simpa using hm) (ho _)

theorem zone (K : KeptByTable inv) {s : State} (t : Tree) (z : ZoneRx) (hi : inv s) : inv (s.zone t z) := by
  have ht : inv (s.onTree t fun y => { y with zoneTaken := true }) := K.alike (State.onTree_alike ⟨rfl, fun _ _ h => h⟩) hi
  unfold State.zone
  dsimp only
  split
  · exact hi
  · split
    · exact hi
    · split
      · exact K.alike (State.capture_alike _ _ _) ht
      · unfold State.measureZone
        dsimp only
        split
        · rename_i hx
          exact K.takeSample _ _ _ ((Home.standsOn_iff _ _ _).1 hx.1).1 ht
        · exact ht

/-! ### Requests -/

theorem receive (K : KeptByTable inv) {s : State} {rx : Rx} {f : State → State} (hf : ∀ s, inv s → inv (f s)) (hi : inv s) :
    inv (s.receive rx f) := by
  unfold State.receive
  split
  · exact hf _ (K.alike s.countReceived_alike hi)
  · exact hi

theorem receivePeer (K : KeptByTable inv) {s : State} {rx : Rx} {f : State → State} (hf : ∀ s, inv s → inv (f s)) (hi : inv s) :
    inv (s.receivePeer rx f) := by
  refine K.receive (fun s hi => ?_) hi
  split
  · exact hi
  · split
    · exact hf s hi
    · exact K.alike (s.onLink_alike _) hi

theorem request (K : KeptByTable inv) {s : State} {rx : Rx} {num : BitVec 16} {kind : Byte} {top : Nat} {b : Bool} {act : State → State}
    (ha : ∀ s, inv s → inv (act s)) (hi : inv s) : inv (s.request rx num kind top b act) := by
  refine K.receive (fun s hi => ?_) hi
  have hc : ∀ st : Status, inv (s.conclude rx num kind (s.refuse st)) := fun st => K.alike (s.conclude_alike rx num kind (s.refuse st)) hi
  split
  · split
    · exact hc _
    · exact hi
  · split
    · exact hi
    · split
      · exact hc _
      · exact ha s hi

/-- A request answered by its owning block keeps what the block's effect on its arguments keeps. -/
theorem ranged (K : KeptByTable inv) {α : Type} {s : State} {rx : Rx} {num : BitVec 16} {kind : Byte} {top : Nat} {b : Bool} {read : Option α}
    {f : State → α → Answer} (hf : ∀ s a, inv s → inv (f s a).state) (hi : inv s) :
    inv (s.request rx num kind top b (State.answer rx num kind fun s => s.ranged read (f s))) := by
  refine K.request (fun s hi => K.alike (s.conclude_alike rx num kind _) ?_) hi
  cases read with
  | none => exact hi
  | some a => exact hf s a hi

theorem retire (K : KeptByTable inv) {s : State} (h : HomeIndex) (hi : inv s) : inv (s.retire h).state := by
  unfold State.retire
  split
  case h_2 => exact K.freed h hi
  case h_6 hs | h_7 hs | h_8 hs | h_9 hs => exact K.closed .management none (by rw [hs]; rfl) hi
  all_goals exact hi

theorem pardon (K : KeptByTable inv) {s : State} (h : HomeIndex) (hi : inv s) : inv (s.pardon h).state := by
  unfold State.pardon
  split
  case h_9 hs => exact K.alike (State.pardonHome_alike (by rw [hs]; rfl)) hi
  all_goals exact hi

theorem setClass (K : KeptByTable inv) {s : State} (h : HomeIndex) (g p : Nat) (hi : inv s) : inv (s.setClass h g p).state := by
  have hw : enrolled (s.home h).state = true →
      inv (if 1200 < s.poolWith (s.home h) g then s.refuse .capacity else ⟨s.writeClass h g p, .ok, toBE 2 g ++ toBE 2 p⟩).state := fun he => by
    split
    · exact hi
    · rename_i hp; exact K.classed g p he (Nat.not_lt.1 hp) hi
  unfold State.setClass
  split
  case h_6 hs | h_7 hs | h_8 hs | h_9 hs => exact hw (by rw [hs]; rfl)
  all_goals exact hi

theorem configure (K : KeptByTable inv) {s : State} (rx : Rx) (args : List Byte) (hi : inv s) : inv (s.configure rx args).state := by
  unfold State.configure State.ranged
  split
  · exact hi
  · split
    · exact hi
    · split
      · exact hi
      · exact K.alike (s.applyConfig_alike _) hi

/-! ### Every command -/

theorem exec (K : KeptByTable inv) {c : Instr} {s s' : State} (hc : ∀ stn mgt, c ≠ .pinReset stn mgt) (hi : inv s)
    (hx : exec c s = .next s') : inv s' := by
  have does : ∀ {f : State → State}, s.does f = .next s' → (∀ s, inv s → inv (f s)) → inv s' := fun hd hf => by
    rw [State.does_next] at hd
    exact hd ▸ hf _ (K.alike s.begin_alike hi)
  cases c
  case pinReset stn mgt => exact absurd rfl (hc stn mgt)
  all_goals dsimp only [Machine.exec, execRoundBoundary, execControlMessageReoffer, execHeldFrameReoffer, execSoakEnd, execClaimHoldExpiry, execProbeSettled, execEpochEnd,
    execLaserOffRefresh, execSharePeriodEnd, execSecondTick, execLostTimeout, execPeriodClose, execForwardRetentionExpiry, execMapPoint,
    execBurstReceived, execZoneReceived, execQuietWindowMeasured, execDownstreamPacket, execCaptureCheckComplete, execClaimCheckComplete,
    execReleaseCheckComplete, execFindWalkComplete, execEmissionWalk, execIdleGapElapsed, execFrameSent, execLinkCollision, execJamEnd,
    execBackoffEnd, execBadFrame, execClaim, execObject, execRelease, execShare, execEvent, execResponse, execConfigure, execTime,
    execTariff, execAdmit, execWithdraw, execUnbar, execRetire, execPardon, execSetClass, execSearch, execAbortSearch, execStopTree,
    execStartTree, execQueryHome, execFind, execReadLists, execQueryStation, execCollect, execReleaseRecord, execUnknownClass,
    execUnknownRequestKind] at hx
  case roundBoundary => exact does hx fun s => K.alike s.roundBoundary_alike
  case controlMessageReoffer t place => exact does hx fun s => K.alike (s.reoffer_alike _ _)
  case heldFrameReoffer f =>
    refine does hx fun s hi => ?_
    cases f with
    | claim h => exact K.alike (s.reofferClaim_alike h) hi
    | share =>
      dsimp only [State.reofferFrame]
      split
      · exact K.alike (s.offerShare_alike _ _) hi
      · exact hi
    | overcommit =>
      dsimp only [State.reofferFrame]
      split
      · exact K.alike ((s.onShare_alike _).trans (State.offerOvercommit_alike _ _ _ _)) hi
      · exact hi
    | holdFull =>
      dsimp only [State.reofferFrame]
      split
      · exact K.alike ((s.onMeter_alike _).trans (State.offerHoldFull_alike _ _ _ _)) hi
      · exact hi
  case soakEnd h =>
    refine does hx fun s hi => ?_
    split
    · rename_i hs
      exact K.alike (State.onHome_alike ⟨.inr ⟨by rw [hs.1]; rfl, rfl⟩, rfl, rfl, rfl, rfl⟩) hi
    · exact hi
  case claimHoldExpiry h =>
    refine does hx fun s hi => ?_
    split
    · rename_i hs _
      split
      · exact K.succeeded _ hs hi
      · exact hi
    · exact hi
  case probeSettled t =>
    refine does hx fun s hi => ?_
    split
    · exact K.alike (s.onSearch_alike _ _) hi
    · exact hi
  case epochEnd =>
    refine does hx fun s hi => ?_
    split
    · refine K.alike (State.epochTrees_alike _) (K.alike (State.mapHomes_alike fun _ => ?_) (K.alike (s.onClock_alike _) hi))
      exact (Home.halve_alike _).trans (Home.refreshTick_alike _ _)
    · exact hi
  case laserOffRefresh h =>
    refine does hx fun s hi => ?_
    split
    · have hr := K.alike (s.refreshed_alike h) hi
      split
      · split
        · exact hr
        · exact K.alike (State.offerCtl_alike _ _ _) hr
      · exact hr
    · exact hi
  case sharePeriodEnd =>
    refine does hx fun s hi => ?_
    split
    · exact K.alike (State.shareEnd_alike _) (K.alike (s.onClock_alike _) hi)
    · exact hi
  case secondTick =>
    refine does hx fun s hi => ?_
    split
    · refine K.alike ((State.onEnrol_alike _ _).trans (State.onCal_alike _ _)) (K.alike (State.mapHomes_alike fun _ => ?_) (K.alike (s.onClock_alike _) hi))
      exact Home.secondTick_alike _ _
    · exact hi
  case lostTimeout h =>
    refine does hx fun s hi => ?_
    split
    · split
      · rename_i hs; exact K.closed _ _ (by rw [hs.1]; rfl) hi
      · exact hi
    · exact hi
  case periodClose =>
    refine does hx fun s hi => ?_
    split
    · exact K.alike (s.periodClose_alike _) hi
    · exact hi
  case forwardRetentionExpiry h =>
    refine does hx fun s hi => ?_
    split
    · exact K.freed h hi
    · exact hi
  case mapPoint =>
    refine does hx fun s hi => ?_
    split
    · exact hi
    · exact K.alike s.mapPoint_alike hi
  case burstReceived t b =>
    refine does hx fun s hi => ?_
    split
    · exact K.alike (s.burst_alike _ _ _) hi
    · exact hi
  case zoneReceived t z => exact does hx fun s => K.zone t z
  case quietWindowMeasured t level =>
    refine does hx fun s hi => ?_
    split
    · exact K.alike (s.quietWindow_alike _ _ _) hi
    · exact hi
  case downstreamPacket home packet => exact does hx fun s => K.alike (s.downstream_alike _ _)
  case captureCheckComplete =>
    refine does hx fun s hi => ?_
    split
    · exact K.actCapture _ _ (K.alike s.endWalk_alike hi)
    · exact hi
  case claimCheckComplete =>
    refine does hx fun s hi => ?_
    split
    · exact K.actClaim _ _ _ (K.alike s.endWalk_alike hi)
    · exact hi
  case releaseCheckComplete =>
    refine does hx fun s hi => ?_
    split
    · exact K.alike (s.endWalk_alike.trans (State.actRelease_alike _ _ _)) hi
    · exact hi
  case findWalkComplete r =>
    refine does hx fun s hi => ?_
    split
    · split
      · exact K.same hi rfl rfl rfl rfl
      · exact K.same hi rfl rfl rfl rfl
    · exact hi
  case emissionWalk =>
    refine does hx fun s hi => ?_
    split
    · exact K.walkStep hi
    · exact hi
  case idleGapElapsed =>
    refine does hx fun s hi => ?_
    split
    · exact K.same hi rfl rfl rfl rfl
    all_goals exact hi
  case frameSent =>
    refine does hx fun s hi => ?_
    split
    · exact K.alike (((s.onLink_alike _).trans (State.emit_alike _ _)).trans (State.claimSent_alike _ _)) hi
    · exact hi
  case linkCollision =>
    refine does hx fun s hi => ?_
    split
    · exact K.same hi rfl rfl rfl rfl
    all_goals exact hi
  case jamEnd =>
    refine does hx fun s hi => ?_
    split
    · split
      · exact K.alike (((s.onLink_alike _).trans (State.onLink_alike _ _)).trans (State.dropped_alike _ _)) hi
      · exact K.alike ((s.onLink_alike _).trans (State.onLink_alike _ _)) hi
    · exact hi
  case backoffEnd =>
    refine does hx fun s hi => ?_
    split
    · exact K.alike (s.onLink_alike _) hi
    · exact hi
  case badFrame bytes =>
    refine does hx fun s hi => ?_
    split
    · exact K.alike (s.onLink_alike _) hi
    · exact hi
  case claim rx payload =>
    refine does hx fun s => K.receivePeer fun s hi => ?_
    split
    · exact K.alike (s.hearClaim_alike _ _ _) hi
    · exact hi
  case object rx payload =>
    refine does hx fun s => K.receivePeer fun s hi => ?_
    split
    · split
      · exact K.takeObject _ _ _ _ hi
      · exact K.alike s.unmatched_alike hi
    · exact hi
  case release rx payload =>
    refine does hx fun s => K.receivePeer fun s hi => ?_
    split
    · exact K.hearRelease _ _ _ _ _ hi
    · exact hi
  case share rx payload =>
    refine does hx fun s => K.receive fun s hi => ?_
    split
    · unfold State.takeShare
      split
      · exact K.alike (s.onShare_alike _) hi
      · split <;> exact K.alike (s.onShare_alike _) hi
    · exact hi
  case event rx payload | response rx payload => exact does hx fun s => K.receive fun s hi => hi
  case configure rx num args =>
    exact does hx fun s => K.receive fun s hi => K.alike (s.conclude_alike _ _ _ _) (K.configure rx args hi)
  case time rx num args => exact does hx fun s => K.ranged fun s a hi => K.alike (s.applyTime_alike _ _) hi
  case tariff rx num args => exact does hx fun s => K.ranged fun s a hi => K.same hi rfl rfl rfl rfl
  case admitHome rx num args => exact does hx fun s => K.ranged fun s a hi => K.alike (s.takeAdmission_alike rx a) hi
  case withdraw rx num args | unbar rx num args =>
    refine does hx fun s => K.ranged fun s a hi => ?_
    split
    · exact K.same hi rfl rfl rfl rfl
    · exact hi
  case retire rx num args => exact does hx fun s => K.ranged fun s h => K.retire h
  case pardon rx num args => exact does hx fun s => K.ranged fun s h => K.pardon h
  case setClass rx num args => exact does hx fun s => K.ranged fun s a => K.setClass a.1 a.2.1 a.2.2
  case search rx num args =>
    refine does hx fun s => K.ranged fun s t hi => ?_
    unfold State.searchRequest
    split
    · exact hi
    · split
      · exact hi
      · exact K.alike (s.startSearch_alike _ _) hi
  case abortSearch rx num args =>
    refine does hx fun s => K.ranged fun s t hi => ?_
    unfold State.abortRequest
    dsimp only
    split
    · exact hi
    · exact K.alike (s.endSearch_alike _ _ _) hi
  case stopTree rx num args =>
    refine does hx fun s => K.ranged fun s t hi => ?_
    unfold State.stopRequest
    split
    · exact K.alike (s.stopTree_alike t) hi
    · exact hi
  case startTree rx num args =>
    refine does hx fun s => K.ranged fun s t hi => ?_
    unfold State.startRequest
    split
    · exact hi
    · split
      · exact hi
      · rw [State.accept_state]
        exact K.alike (s.startTree_alike _ _) hi
  case queryHome rx num args =>
    refine does hx fun s => K.ranged fun s h hi => ?_
    unfold State.queryHome
    split <;> exact hi
  case find rx num args =>
    refine does hx fun s => K.request fun s hi => ?_
    unfold State.find
    split
    · exact K.alike (s.conclude_alike _ _ _ _) hi
    · rename_i id start count _
      have hq := K.alike (s.queueWalk_alike ⟨.find rx.src num, id, start, count⟩) hi
      split
      · rename_i s' e
        rw [e] at hq; exact hq
      · rename_i s' e
        rw [e] at hq; exact K.alike (State.conclude_alike _ _ _ _ _) hq
  case readLists rx num args => exact does hx fun s => K.ranged fun s a hi => hi
  case queryStation rx num args =>
    refine does hx fun s => K.ranged fun s a hi => ?_
    split <;> exact hi
  case collect rx num args =>
    refine does hx fun s => K.request fun s hi => ?_
    unfold State.collect
    split
    · exact K.alike (s.conclude_alike _ _ _ _) hi
    · exact K.alike (s.respondTwo_alike _ _ _ _ _) hi
  case releaseRecord rx num args =>
    refine does hx fun s => K.ranged fun s a hi => ?_
    unfold State.releaseRecord
    split
    · exact hi
    · split
      · exact K.alike s.dropHead_alike hi
      · exact hi
  case unknownClass rx cls payload =>
    refine does hx fun s hi => ?_
    split
    · exact K.alike (s.onLink_alike _) hi
    · exact hi
  case unknownRequestKind rx payload =>
    refine does hx fun s hi => ?_
    split
    · refine K.receive (fun s hi => ?_) hi
      unfold State.unknownKind
      split
      · exact K.alike (s.conclude_alike _ _ _ _) hi
      · split
        · exact K.alike (s.conclude_alike _ _ _ _) hi
        · exact hi
    · exact hi

/-- What holds after a reset and the operations of the Home Table keep every step keeps. -/
theorem keptByEveryStep (K : KeptByTable inv) (hr : ∀ (stn mgt : Station) (q : List Instr), inv { State.afterReset stn mgt with pending := q }) :
    KeptByEveryStep inv := by
  refine KeptByEveryStep.of_exec (fun _ _ hi => K.same hi rfl rfl rfl rfl) fun c s s' hi hx => ?_
  by_cases hc : ∃ stn mgt, c = .pinReset stn mgt
  · obtain ⟨stn, mgt, rfl⟩ := hc
    simp only [Machine.exec, execPinReset, Host.Outcome.next.injEq] at hx
    exact hx ▸ hr stn mgt _
  · exact K.exec (fun stn mgt e => hc ⟨stn, mgt, e⟩) hi hx

end KeptByTable

/-- A part in RUN stays in RUN under every command but PIN_RESET (R176). -/
theorem inRun_keptByTable : KeptByTable fun s => s.inRun = true where
  alike ha := ha.run
  freed h hi := by rw [State.inRun, (State.freeEntry_fixed _ h).config]; exact hi
  closed r f _ hi := by rw [State.inRun, (State.closeEntry_fixed _ _ r f).config]; exact hi
  forwarded _ _ _ hi := hi
  claimed _ _ _ _ _ _ hi := hi
  moved id _ _ hi := by rw [State.inRun, (State.rejoinMoved_fixed _ _ _ id).config]; exact hi
  succeeded m _ hi := by rw [State.inRun, (State.succeedClaim_fixed _ _ m).config]; exact hi
  classed g p _ _ hi := by rw [State.inRun, (State.writeClass_fixed _ _ g p).config]; exact hi

end Sys2Proof.Machine
end

section
/-! SUPPORT. What freeing, closing, moving and tagging an entry does to the homes, the pools, the tags and the forward list (R1, R5, R6, R8, R15, R16, R49, R56). -/

namespace Sys2Proof.Machine

/-- The g an entry has in the pool of a tree (R8). -/
def Home.pooledOn (x : Home) (t : Tree) : Nat := if x.tree = some t ∧ inPool x.state = true then x.g else 0

theorem Home.pooledOn_eq_zero {x : Home} (t : Tree) (h : inPool x.state = false) : x.pooledOn t = 0 := by simp [Home.pooledOn, h]

theorem Home.Alike.pooledOn {x y : Home} (h : x.Alike y) (t : Tree) : y.pooledOn t = x.pooledOn t := by
  simp only [Home.pooledOn, h.tree, h.inPool, h.g]

theorem State.pooled_eq_sum (s : State) (t : Tree) : s.pooled t = ∑ h, (s.home h).pooledOn t := by
  rw [Fin.sum_univ_def]; rfl

/-- R8: the sum of g over a tree moves with one entry's part of it. -/
theorem State.pooled_add_of_eq_off {s s' : State} {h : HomeIndex} (t : Tree) (ho : ∀ i, i ≠ h → s'.home i = s.home i) :
    s'.pooled t + (s.home h).pooledOn t = s.pooled t + (s'.home h).pooledOn t := by
  have hr : ∑ i ∈ Finset.univ.erase h, (s'.home i).pooledOn t = ∑ i ∈ Finset.univ.erase h, (s.home i).pooledOn t :=
    Finset.sum_congr rfl fun i hi => by rw [ho i (Finset.ne_of_mem_erase hi)]
  rw [State.pooled_eq_sum, State.pooled_eq_sum, ← Finset.sum_erase_add _ _ (Finset.mem_univ h), ← Finset.sum_erase_add _ _ (Finset.mem_univ h), hr]
  omega

/-! ### An entry leaving its pool and its tag -/

theorem State.leavePool_tree (s : State) (x : Home) (t : Tree) :
    (s.leavePool x).tree t = { s.tree t with pool := (s.tree t).pool - x.pooledOn t } := by
  unfold State.leavePool Home.pooledOn
  split
  · rename_i u hu
    split
    · rename_i hp
      by_cases ht : t = u
      · simp [State.poolSub, hu, hp, ht]
      · simp [State.poolSub, hu, ht, Ne.symm ht]
    · rename_i hp; simp [hp]
  · rename_i hn; simp [hn]

theorem State.leavePool_homes (s : State) (x : Home) : (s.leavePool x).homes = s.homes := by
  unfold State.leavePool
  split
  · split <;> rfl
  · rfl

theorem State.leavePool_forwardList (s : State) (x : Home) : (s.leavePool x).forwardList = s.forwardList := by
  unfold State.leavePool
  split
  · split <;> rfl
  · rfl

theorem State.drainTag_homes (s : State) (x : Home) : (s.drainTag x).homes = s.homes := by
  unfold State.drainTag
  split <;> rfl

theorem State.drainTag_forwardList (s : State) (x : Home) : (s.drainTag x).forwardList = s.forwardList := by
  unfold State.drainTag
  split <;> rfl

theorem State.drainTag_pool (s : State) (x : Home) (t : Tree) : ((s.drainTag x).tree t).pool = (s.tree t).pool := by
  unfold State.drainTag
  split
  · rw [State.onTree_tree]
    split
    · rename_i e; rw [TreeLine.drain_pool, e]
    · rfl
  · rfl

theorem State.drainTag_tree_off (s : State) {x : Home} {t : Tree} (ht : x.tree ≠ some t) : (s.drainTag x).tree t = s.tree t := by
  unfold State.drainTag
  split
  · rename_i u tag hu _
    rw [State.onTree_tree, if_neg]
    rintro rfl
    exact ht hu
  · rfl

/-- R6: every held tag but the entry's own stays held. -/
theorem State.drainTag_held (s : State) {x : Home} {t : Tree} {k : Nat} {i : HomeIndex} (hk : ¬ (x.tree = some t ∧ x.tag = some k))
    (hp : (s.tree t).place k = some (.held i)) : ((s.drainTag x).tree t).place k = some (.held i) := by
  unfold State.drainTag
  split
  · rename_i u tag hu htag
    rw [State.onTree_tree]
    split
    · rename_i e
      subst e
      exact TreeLine.drain_held _ (fun ek => hk ⟨hu, ek ▸ htag⟩) hp
    · exact hp
  · exact hp

/-- The entry's g leaves its pool and its tag drains: the first part of freeing, closing and moving an entry (R1, R5, R49). -/
def State.leave (s : State) (x : Home) : State := (s.leavePool x).drainTag x

theorem State.leave_home (s : State) (x : Home) (i : HomeIndex) : (s.leave x).home i = s.home i := by
  rw [State.home, State.leave, State.drainTag_homes, State.leavePool_homes, State.home]

theorem State.leave_forwardList (s : State) (x : Home) : (s.leave x).forwardList = s.forwardList := by
  rw [State.leave, State.drainTag_forwardList, State.leavePool_forwardList]

theorem State.leave_pool (s : State) (x : Home) (t : Tree) : ((s.leave x).tree t).pool = (s.tree t).pool - x.pooledOn t := by
  rw [State.leave, State.drainTag_pool, State.leavePool_tree]

theorem State.leave_tree_off (s : State) {x : Home} {t : Tree} (ht : x.tree ≠ some t) : (s.leave x).tree t = s.tree t := by
  rw [State.leave, State.drainTag_tree_off _ ht, State.leavePool_tree, Home.pooledOn, if_neg (fun h => ht h.1)]
  rfl

theorem State.leave_held (s : State) {x : Home} {t : Tree} {k : Nat} {i : HomeIndex} (hk : ¬ (x.tree = some t ∧ x.tag = some k))
    (hp : (s.tree t).place k = some (.held i)) : ((s.leave x).tree t).place k = some (.held i) :=
  State.drainTag_held _ hk (by rw [State.leavePool_tree]; exact hp)

/-! ### Freeing and closing an entry -/

theorem State.freeEntry_tree (s : State) (h : HomeIndex) (t : Tree) : (s.freeEntry h).tree t = (s.leave (s.home h)).tree t := rfl

theorem State.freeEntry_forwardList (s : State) (h : HomeIndex) : (s.freeEntry h).forwardList = s.forwardList.filter fun i => !decide (i = h) := by
  change (s.leave (s.home h)).forwardList.filter _ = _
  rw [State.leave_forwardList]

theorem State.leaveIsolated_homes (s : State) (x : Home) : (s.leaveIsolated x).homes = s.homes := by
  unfold State.leaveIsolated
  split
  · split <;> rfl
  · rfl

theorem State.wakeWalk_homes (s : State) : s.wakeWalk.homes = s.homes := by
  unfold State.wakeWalk
  split <;> rfl

theorem State.wakeWalk_trees (s : State) : s.wakeWalk.trees = s.trees := by
  unfold State.wakeWalk
  split <;> rfl

/-- Closing an entry: its part in pool and tag ends, and its record becomes a CLOSING one; the rest of the table is as it was (R5). -/
theorem State.closeEntry_eq (s : State) (h : HomeIndex) (r : LeaveReason) (f : Option Station) :
    s.closeEntry h r f = (((s.leaveIsolated (s.home h)).leave (s.home h)).setHome h ((s.home h).toClosing r f)).wakeWalk := rfl

theorem State.closeEntry_home (s : State) (h k : HomeIndex) (r : LeaveReason) (f : Option Station) :
    (s.closeEntry h r f).home k = if k = h then (s.home h).toClosing r f else s.home k := by
  have hw : ∀ s : State, s.wakeWalk.home k = s.home k := fun s => by rw [State.home, State.wakeWalk_homes, State.home]
  have hl : (s.leaveIsolated (s.home h)).home k = s.home k := by rw [State.home, State.leaveIsolated_homes, State.home]
  rw [State.closeEntry_eq, hw, State.setHome_home, State.leave_home, hl]

theorem State.closeEntry_tree (s : State) (h : HomeIndex) (r : LeaveReason) (f : Option Station) (t : Tree) :
    (s.closeEntry h r f).tree t = ((s.leaveIsolated (s.home h)).leave (s.home h)).tree t := by
  rw [State.closeEntry_eq, State.tree, State.wakeWalk_trees]; rfl

theorem State.closeEntry_forwardList (s : State) (h : HomeIndex) (r : LeaveReason) (f : Option Station) :
    (s.closeEntry h r f).forwardList = s.forwardList := by
  rw [State.closeEntry_eq, (State.wakeWalk_alike _).forwardList]
  exact (State.leave_forwardList _ _).trans (s.leaveIsolated_alike _).forwardList

/-- R6: a tag given out of the free ones leaves every held tag held. -/
theorem State.giveTag_alike (s : State) {t : Tree} {tag : Nat} (h : HomeIndex) (hf : (s.tree t).place tag = some .free) : s.Alike (s.giveTag t tag h) := by
  refine State.onTree_alike ⟨by rw [TreeLine.setPlace_frame], fun k i hk => ?_⟩
  rw [TreeLine.setPlace_place]
  split
  · rename_i e; rw [e, hf] at hk; simp at hk
  · exact hk

theorem State.giveTag_place (s : State) {t : Tree} {tag : Nat} (h : HomeIndex) (hf : (s.tree t).place tag = some .free) :
    ((s.giveTag t tag h).tree t).place tag = some (.held h) := by
  simp [State.giveTag, TreeLine.setPlace_place, hf]

/-- R6: the lowest free tag is a free tag of the table. -/
theorem TreeLine.lowestFree_place {x : TreeLine} {tag : Nat} (h : x.lowestFree = some tag) : x.place tag = some .free := by
  unfold TreeLine.lowestFree at h
  obtain ⟨n, hn, rfl⟩ := Option.map_eq_some_iff.1 h
  obtain ⟨hlt, hp, -⟩ := List.findIdx?_eq_some_iff_getElem.1 hn
  have hlt' : n < 62 := by simpa using hlt
  have hi : tagIndex (n + 1) = some ⟨n, hlt'⟩ := by simp [tagIndex, hlt']
  simpa [TreeLine.place, hi] using hp

/-! ### Moving an entry and giving a claim its tag -/

/-- R49: a rejoin on another tree leaves the table alike, or takes the entry out of its pool and tag, puts its g in the new tree's pool and gives it the
lowest free tag there. -/
theorem State.rejoinMoved_cases (s : State) (h : HomeIndex) (t : Tree) (id : Identity) :
    s.Alike (s.rejoinMoved h t id) ∨
      ∃ tag, s.poolTest t (s.home h).g = true ∧ (s.tree t).lowestFree = some tag ∧
        s.rejoinMoved h t id =
          (((((s.leave (s.home h)).poolAdd t (s.home h).g).setHome h
            (({ s.home h with tree := some t, tag := some tag, silence := .none } : Home).toMeasuring .announcing)).giveTag t tag h).offerCtl t
              (.new (.tagAssign id) tag)) := by
  unfold State.rejoinMoved
  dsimp only
  split
  · rename_i hp
    split
    · exact .inl (s.noteUnknown_alike _ _ _)
    · rename_i tag htag
      simp only [Bool.and_eq_true] at hp
      exact .inr ⟨tag, hp.1, htag, rfl⟩
  · exact .inl (s.noteUnknown_alike _ _ _)

/-- The record of a CLAIMING entry whose claim has succeeded with a tag (R4, R56). -/
def Home.tagged (x : Home) (tag : Nat) (m : Option Station) (start : Option Moment) : Home :=
  (({ x with tag := some tag, movedFrom := m } : Home).toMeasuring .announcing).onOpen fun b => { b with periodStart := start }

theorem Home.tagged_frame (x : Home) (tag : Nat) (m : Option Station) (start : Option Moment) :
    (x.tagged tag m start).state = .measuring ∧ (x.tagged tag m start).identity = x.identity ∧ (x.tagged tag m start).tree = x.tree ∧
      (x.tagged tag m start).tag = some tag ∧ (x.tagged tag m start).g = x.g := by
  rw [Home.tagged, Home.onOpen_frame]
  exact ⟨rfl, rfl, rfl, rfl, rfl⟩

/-- R56: a claim that succeeds changes nothing, or gives its entry the lowest free tag of its tree. -/
theorem State.succeedClaim_cases (s : State) (h : HomeIndex) (m : Option Station) :
    s.succeedClaim h m = s ∨
      ∃ t id tag, (s.home h).tree = some t ∧ (s.tree t).lowestFree = some tag ∧
        s.succeedClaim h m =
          (((((s.onLink fun l => l.withdrawClaim h).onEnrol fun e => e.forget id).setHome h
            ((s.home h).tagged tag m s.cal.reading)).giveTag t tag h).offerCtl t (.new (.tagAssign id) tag)) := by
  unfold State.succeedClaim
  dsimp only
  split
  · rename_i t id ht hid
    split
    · exact .inl rfl
    · rename_i tag htag
      exact .inr ⟨t, id, tag, ht, htag, rfl⟩
  · exact .inl rfl

/-- R13: a written class changes its entry's g and p and its tree's pool. -/
theorem State.writeClass_home (s : State) (h k : HomeIndex) (g p : Nat) :
    (s.writeClass h g p).home k = if k = h then { s.home h with g := g, p := p } else s.home k := by
  unfold State.writeClass
  dsimp only
  split <;> simp

theorem State.writeClass_tree (s : State) (h : HomeIndex) (g p : Nat) (t : Tree) :
    (s.writeClass h g p).tree t = if (s.home h).tree = some t then { s.tree t with pool := s.poolWith (s.home h) g } else s.tree t := by
  unfold State.writeClass
  dsimp only
  split
  · rename_i u hu
    simp only [State.onTree_tree, State.setHome_tree, hu, Option.some.injEq, eq_comm (a := t)]
    split
    · rename_i e; rw [e]
    · rfl
  · rename_i hn; simp [hn]

theorem State.writeClass_forwardList (s : State) (h : HomeIndex) (g p : Nat) : (s.writeClass h g p).forwardList = s.forwardList := by
  unfold State.writeClass
  dsimp only
  split <;> rfl

/-- R16: room made in the forward list leaves every entry as it was or FREE. -/
theorem State.makeForwardRoom_home (s : State) (k : HomeIndex) : s.makeForwardRoom.home k = s.home k ∨ s.makeForwardRoom.home k = Home.free := by
  unfold State.makeForwardRoom
  split
  · split
    · rw [State.freeEntry_home]
      split
      · exact .inr rfl
      · exact .inl rfl
    · exact .inl rfl
  · exact .inl rfl

end Sys2Proof.Machine
end

section
/-! SUPPORT. The four invariants of the Home Table: pools (R8), identities (R9), tags (R6) and the forward list (R16), each kept by the operations by which an entry joins,
leaves or is rewritten. -/

namespace Sys2Proof.Machine

/-! ### Pools (R8) -/

/-- Where an operation rewrites one entry and moves each pool by that entry's part, the pools stay the sums of g. -/
theorem State.poolsSound.rewritten {s s' : State} {h : HomeIndex} (hs : s.poolsSound) (ho : ∀ i, i ≠ h → s'.home i = s.home i)
    (hp : ∀ t, (s'.tree t).pool + (s.home h).pooledOn t = (s.tree t).pool + (s'.home h).pooledOn t)
    (hb : ∀ t, (s'.tree t).pool ≤ 1200) : s'.poolsSound := by
  intro t
  have hsum := State.pooled_add_of_eq_off t ho
  have hpool := hp t
  have hold := (hs t).1
  exact ⟨by omega, hb t⟩

theorem State.poolsSound.pooledOn_le {s : State} (hs : s.poolsSound) (h : HomeIndex) (t : Tree) : (s.home h).pooledOn t ≤ (s.tree t).pool := by
  rw [(hs t).1, State.pooled_eq_sum]
  exact Finset.single_le_sum (f := fun i => (s.home i).pooledOn t) (fun _ _ => Nat.zero_le _) (Finset.mem_univ h)

/-- An entry that leaves its pool and takes a record that has no part in one keeps the pools. -/
theorem State.poolsSound.left {s s' : State} {h : HomeIndex} (hs : s.poolsSound) (ho : ∀ i, i ≠ h → s'.home i = s.home i)
    (hn : inPool (s'.home h).state = false) (hp : ∀ t, (s'.tree t).pool = (s.tree t).pool - (s.home h).pooledOn t) : s'.poolsSound := by
  refine hs.rewritten ho (fun t => ?_) fun t => ?_
  · have hle := hs.pooledOn_le h t
    rw [hp t, Home.pooledOn_eq_zero t hn]
    omega
  · rw [hp t]
    exact (Nat.sub_le _ _).trans (hs t).2

theorem State.poolsSound.alike {s s' : State} (ha : s.Alike s') (hs : s.poolsSound) : s'.poolsSound := by
  intro t
  rw [(ha.trees t).pool, State.pooled_eq_sum]
  simp only [(ha.homes _).pooledOn, ← State.pooled_eq_sum]
  exact hs t

theorem State.poolsSound.claimed {s : State} {h : HomeIndex} (t : Tree) (a : Admission) (hf : (s.home h).state = .free)
    (hp : s.poolTest t a.g = true) (hs : s.poolsSound) : ((s.setHome h (Home.claiming a t)).poolAdd t a.g).poolsSound := by
  have hc : ∀ u, (Home.claiming a t).pooledOn u = if u = t then a.g else 0 := fun u => by
    simp [Home.pooledOn, Home.claiming, inPool, eq_comm]
  have hz : ∀ u, (s.home h).pooledOn u = 0 := fun u => Home.pooledOn_eq_zero u (by rw [hf]; rfl)
  have hpool : ∀ u, (((s.setHome h (Home.claiming a t)).poolAdd t a.g).tree u).pool = (s.tree u).pool + if u = t then a.g else 0 := fun u => by
    simp only [State.poolAdd, State.onTree_tree, State.setHome_tree]
    split
    · rename_i e; rw [e]
    · rfl
  refine hs.rewritten (h := h) (fun i hi => by simp [State.poolAdd, hi]) (fun u => ?_) fun u => ?_
  · have hh : ((s.setHome h (Home.claiming a t)).poolAdd t a.g).home h = Home.claiming a t := by simp [State.poolAdd]
    rw [hpool, hh, hc, hz]; rfl
  · rw [hpool]
    split
    · rename_i e; rw [e]; exact of_decide_eq_true hp
    · exact (hs u).2

theorem State.poolsSound.moved {s : State} {h : HomeIndex} {t : Tree} (id : Identity)
    (ht : (s.home h).tree ≠ some t) (hs : s.poolsSound) : (s.rejoinMoved h t id).poolsSound := by
  obtain ha | ⟨tag, hp, htag, e⟩ := s.rejoinMoved_cases h t id
  · exact hs.alike ha
  · rw [e]
    have hleft := s.leave_tree_off ht
    have hpool : ∀ u, (((s.leave (s.home h)).poolAdd t (s.home h).g).tree u).pool =
        (s.tree u).pool - (s.home h).pooledOn u + if u = t then (s.home h).g else 0 := fun u => by
      simp only [State.poolAdd, State.onTree_tree, ← State.leave_pool]
      split
      · rename_i e; rw [e]
      · rfl
    have hz : (s.home h).pooledOn t = 0 := if_neg fun k => ht k.1
    refine State.poolsSound.alike (State.offerCtl_alike _ _ _) (State.poolsSound.alike (State.giveTag_alike _ h ?_) ?_)
    · simp only [State.poolAdd, State.setHome_tree, State.onTree_tree, if_true, hleft]
      exact TreeLine.lowestFree_place htag
    · refine hs.rewritten (h := h) (fun i hi => by simp [State.poolAdd, hi, State.leave_home]) (fun u => ?_) fun u => ?_
      · have hle := hs.pooledOn_le h u
        have hnew : (((s.leave (s.home h)).poolAdd t (s.home h).g).setHome h
            (({ s.home h with tree := some t, tag := some tag, silence := .none } : Home).toMeasuring .announcing)).home h =
              ({ s.home h with tree := some t, tag := some tag, silence := .none } : Home).toMeasuring .announcing := by simp
        have hq : (({ s.home h with tree := some t, tag := some tag, silence := .none } : Home).toMeasuring .announcing).pooledOn u =
            if u = t then (s.home h).g else 0 := by simp [Home.pooledOn, Home.toMeasuring, inPool, eq_comm]
        rw [hnew, hq, State.setHome_tree, hpool]
        omega
      · rw [State.setHome_tree, hpool]
        split
        · rename_i e; rw [e, hz]; exact of_decide_eq_true hp
        · exact (Nat.sub_le _ _).trans (hs u).2

theorem State.poolsSound.succeeded {s : State} {h : HomeIndex} (m : Option Station) (hc : (s.home h).state = .claiming) (hs : s.poolsSound) :
    (s.succeedClaim h m).poolsSound := by
  obtain e | ⟨t, id, tag, -, htag, e⟩ := s.succeedClaim_cases h m
  · rwa [e]
  · rw [e]
    refine State.poolsSound.alike (State.offerCtl_alike _ _ _) (State.poolsSound.alike (State.giveTag_alike _ h (TreeLine.lowestFree_place htag)) ?_)
    refine hs.rewritten (h := h) (fun i hi => by simp [hi]) (fun u => ?_) fun u => (hs u).2
    obtain ⟨hst, -, htr, -, hg⟩ := (s.home h).tagged_frame tag m s.cal.reading
    simp only [State.setHome_home, if_true, State.setHome_tree, State.onEnrol_tree, State.onLink_tree, Home.pooledOn, hst, htr, hg, hc]
    rfl

theorem State.poolsSound.classed {s : State} {h : HomeIndex} (g p : Nat) (he : enrolled (s.home h).state = true)
    (hb : s.poolWith (s.home h) g ≤ 1200) (hs : s.poolsSound) : (s.writeClass h g p).poolsSound := by
  refine hs.rewritten (h := h) (fun i hi => by simp [State.writeClass_home, hi]) (fun u => ?_) fun u => ?_
  · have hle := hs.pooledOn_le h u
    simp only [State.writeClass_home, State.writeClass_tree, if_true, Home.pooledOn, inPool_of_enrolled he, and_true] at hle ⊢
    by_cases hu : (s.home h).tree = some u
    · simp only [hu, if_true, State.poolWith] at hle ⊢; omega
    · simp [hu]
  · rw [State.writeClass_tree]
    split
    · exact hb
    · exact (hs u).2

theorem poolsSound_keptByTable : KeptByTable State.poolsSound where
  alike := State.poolsSound.alike
  freed h hs := hs.left (h := h) (fun i hi => by rw [State.freeEntry_home, if_neg hi]) (by rw [State.freeEntry_home, if_pos rfl]; rfl)
    fun t => by rw [State.freeEntry_tree, State.leave_pool]
  closed {s h} r f _ hs := hs.left (h := h) (fun i hi => by rw [State.closeEntry_home, if_neg hi])
    (by rw [State.closeEntry_home, if_pos rfl]; rfl)
    fun t => by rw [State.closeEntry_tree, State.leave_pool, ((s.leaveIsolated_alike _).trees t).pool]
  forwarded {s h} st hc _ hs := by
    have hn : inPool (s.makeForwardRoom.home h).state = false := by
      obtain e | e := s.makeForwardRoom_home h
      · rw [e, hc]; rfl
      · rw [e]; rfl
    refine hs.left (h := h) (fun i hi => by rw [State.setHome_home, if_neg hi]; rfl) (by rw [State.setHome_home, if_pos rfl]; rfl) fun t => ?_
    rw [Home.pooledOn_eq_zero t hn]
    rfl
  claimed t a _ hf hp _ hs := hs.claimed t a hf hp
  moved id _ ht hs := hs.moved id ht
  succeeded m hc hs := hs.succeeded m hc
  classed g p he hb hs := hs.classed g p he hb

/-! ### Identities (R9) -/

/-- Where every entry that is not FREE was not FREE before and held its identity, identities stay unique. -/
theorem State.identitiesUnique.of_held {s s' : State} (hs : s.identitiesUnique)
    (hk : ∀ i, (s'.home i).state ≠ .free → (s.home i).state ≠ .free ∧ (s'.home i).identity = (s.home i).identity) : s'.identitiesUnique := by
  intro h k id hh hk' hid hid'
  obtain ⟨h1, e1⟩ := hk h hh
  obtain ⟨h2, e2⟩ := hk k hk'
  exact hs h k id h1 h2 (e1 ▸ hid) (e2 ▸ hid')

theorem State.identitiesUnique.alike {s s' : State} (ha : s.Alike s') (hs : s.identitiesUnique) : s'.identitiesUnique :=
  hs.of_held fun i hi => ⟨fun e => hi ((ha.homes i).free_iff.2 e), (ha.homes i).identity⟩

/-- One entry, not FREE, takes a record with its own identity. -/
theorem State.identitiesUnique.rewritten {s s' : State} {h : HomeIndex} (hs : s.identitiesUnique) (ho : ∀ i, i ≠ h → s'.home i = s.home i)
    (hh : (s'.home h).state ≠ .free → (s.home h).state ≠ .free ∧ (s'.home h).identity = (s.home h).identity) : s'.identitiesUnique := by
  refine hs.of_held fun i hi => ?_
  by_cases e : i = h
  · subst e; exact hh hi
  · rw [ho i e] at hi ⊢; exact ⟨hi, rfl⟩

theorem State.identitiesUnique.claimed {s : State} {h : HomeIndex} (t : Tree) (a : Admission) (hu : s.unheld a.identity) (hs : s.identitiesUnique) :
    ((s.setHome h (Home.claiming a t)).poolAdd t a.g).identitiesUnique := by
  have hnew : ∀ i, ((s.setHome h (Home.claiming a t)).poolAdd t a.g).home i = if i = h then Home.claiming a t else s.home i := fun i => by
    simp [State.poolAdd]
  intro i k id hi hk hid hid'
  rw [hnew] at hi hk hid hid'
  split at hid <;> split at hid'
  case isTrue.isTrue e1 e2 => rw [e1, e2]
  case isTrue.isFalse e1 e2 =>
    simp only [e2, if_false] at hk
    exact absurd (hid'.trans hid.symm) (hu k hk)
  case isFalse.isTrue e1 e2 =>
    simp only [e1, if_false] at hi
    exact absurd (hid.trans hid'.symm) (hu i hi)
  case isFalse.isFalse e1 e2 =>
    simp only [e1, e2, if_false] at hi hk
    exact hs i k id hi hk hid hid'

theorem identitiesUnique_keptByTable : KeptByTable State.identitiesUnique where
  alike := State.identitiesUnique.alike
  freed h hs := hs.rewritten (h := h) (fun i hi => by rw [State.freeEntry_home, if_neg hi])
    fun hn => absurd (by rw [State.freeEntry_home, if_pos rfl]; rfl) hn
  closed {s h} r f he hs := hs.rewritten (h := h) (fun i hi => by rw [State.closeEntry_home, if_neg hi]) fun _ => by
    refine ⟨not_free_of_enrolled he, ?_⟩
    rw [State.closeEntry_home, if_pos rfl, Home.toClosing, Home.pendingToMeters_frame]
  forwarded {s h} st hc hs _ := by
    refine hs.of_held fun i => ?_
    rw [State.setHome_home]
    split
    · rename_i e
      exact fun _ => ⟨by rw [e, hc]; simp, by rw [e]; rfl⟩
    · intro hi
      change (s.makeForwardRoom.home i).state ≠ _ at hi
      change _ ∧ (s.makeForwardRoom.home i).identity = _
      obtain e | e := s.makeForwardRoom_home i
      · rw [e] at hi ⊢; exact ⟨hi, rfl⟩
      · rw [e] at hi; exact absurd rfl hi
  claimed t a hu _ _ h₀ hs := hs.claimed t a (hu h₀)
  moved {s h t} id hl ht hs := by
    obtain ha | ⟨tag, -, htag, e⟩ := s.rejoinMoved_cases h t id
    · exact hs.alike ha
    · rw [e]
      refine hs.rewritten (h := h) (fun i hi => by simp [State.offerCtl, State.giveTag, State.poolAdd, hi, State.leave_home]) fun _ => ?_
      exact ⟨by rw [hl]; simp, by simp [State.offerCtl, State.giveTag, Home.toMeasuring]⟩
  succeeded {s h} m hc hs := by
    obtain e | ⟨t, id, tag, -, -, e⟩ := s.succeedClaim_cases h m
    · rwa [e]
    · rw [e]
      obtain ⟨-, hid, -⟩ := (s.home h).tagged_frame tag m s.cal.reading
      refine hs.rewritten (h := h) (fun i hi => by simp [State.offerCtl, State.giveTag, hi]) fun _ => ?_
      exact ⟨by rw [hc]; simp, by simp [State.offerCtl, State.giveTag, hid]⟩
  classed {s h} g p he _ hs := hs.rewritten (h := h) (fun i hi => by simp [State.writeClass_home, hi])
    fun _ => ⟨not_free_of_enrolled he, by simp [State.writeClass_home]⟩

/-! ### Tags (R6) -/

/-- Where an operation rewrites one entry, leaves the other entries' tags held and marks the entry's own, tags stay marked. -/
theorem State.tagsSound.rewritten {s s' : State} {h : HomeIndex} (hs : s.tagsSound) (ho : ∀ i, i ≠ h → s'.home i = s.home i)
    (hp : ∀ t k i, i ≠ h → (s.tree t).place k = some (.held i) → (s'.tree t).place k = some (.held i))
    (hh : ∀ t tag, (s'.home h).tree = some t → (s'.home h).tag = some tag → (s'.tree t).place tag = some (.held h)) : s'.tagsSound := by
  intro i t tag ht htag
  by_cases e : i = h
  · subst e; exact hh t tag ht htag
  · rw [ho i e] at ht htag
    exact hp t tag i e (hs i t tag ht htag)

theorem State.tagsSound.alike {s s' : State} (ha : s.Alike s') (hs : s.tagsSound) : s'.tagsSound := fun h t tag ht htag =>
  (ha.trees t).held tag h (hs h t tag ((ha.homes h).tree ▸ ht) ((ha.homes h).tag ▸ htag))

/-- R6: an entry's draining tag is no other entry's. -/
theorem State.tagsSound.leave_held {s : State} (hs : s.tagsSound) {h i : HomeIndex} (hi : i ≠ h) {t : Tree} {k : Nat}
    (hp : (s.tree t).place k = some (.held i)) : ((s.leave (s.home h)).tree t).place k = some (.held i) := by
  refine State.leave_held s (fun hk => hi ?_) hp
  have hme := hs h t k hk.1 hk.2
  rw [hp] at hme
  simpa using hme

theorem State.tagsSound.moved {s : State} {h : HomeIndex} {t : Tree} (id : Identity) (ht : (s.home h).tree ≠ some t) (hs : s.tagsSound) :
    (s.rejoinMoved h t id).tagsSound := by
  obtain ha | ⟨tag, -, htag, e⟩ := s.rejoinMoved_cases h t id
  · exact hs.alike ha
  · rw [e]
    refine State.tagsSound.alike (State.offerCtl_alike _ _ _) ?_
    generalize hs₁ : ((s.leave (s.home h)).poolAdd t (s.home h).g).setHome h
      (({ s.home h with tree := some t, tag := some tag, silence := .none } : Home).toMeasuring .announcing) = s₁
    have hplace : ∀ u k, (s₁.tree u).place k = ((s.leave (s.home h)).tree u).place k := fun u k => by
      rw [← hs₁, State.setHome_tree, State.poolAdd, State.onTree_tree]
      split
      · rename_i e; rw [e]; rfl
      · rfl
    have hfree : (s₁.tree t).place tag = some .free := by rw [hplace, s.leave_tree_off ht]; exact TreeLine.lowestFree_place htag
    refine hs.rewritten (h := h) (fun i hi => by rw [← hs₁]; simp [State.giveTag, State.poolAdd, hi, State.leave_home])
      (fun u k i hi hk => ((State.giveTag_alike s₁ h hfree).trees u).held k i ?_) fun u k hu hk => ?_
    · rw [hplace]; exact hs.leave_held hi hk
    · have hm : (s₁.giveTag t tag h).home h = ({ s.home h with tree := some t, tag := some tag, silence := .none } : Home).toMeasuring .announcing := by
        rw [← hs₁]; simp [State.giveTag]
      rw [hm] at hu hk
      cases hu; cases hk
      exact State.giveTag_place s₁ h hfree

theorem State.tagsSound.succeeded {s : State} {h : HomeIndex} (m : Option Station) (hs : s.tagsSound) : (s.succeedClaim h m).tagsSound := by
  obtain e | ⟨t, id, tag, ht, htag, e⟩ := s.succeedClaim_cases h m
  · rwa [e]
  · rw [e]
    refine State.tagsSound.alike (State.offerCtl_alike _ _ _) ?_
    have hfree := TreeLine.lowestFree_place htag
    obtain ⟨-, -, htr, htg, -⟩ := (s.home h).tagged_frame tag m s.cal.reading
    generalize hs₁ : ((s.onLink fun l => l.withdrawClaim h).onEnrol fun e => e.forget id).setHome h ((s.home h).tagged tag m s.cal.reading) = s₁
    have htree : ∀ u, s₁.tree u = s.tree u := fun u => by rw [← hs₁]; rfl
    refine hs.rewritten (h := h) (fun i hi => by rw [← hs₁]; simp [State.giveTag, hi])
      (fun u k i _ hk => ((State.giveTag_alike s₁ h (by rw [htree]; exact hfree)).trees u).held k i (by rw [htree]; exact hk)) fun u k hu hk => ?_
    have hm : (s₁.giveTag t tag h).home h = (s.home h).tagged tag m s.cal.reading := by rw [← hs₁]; simp [State.giveTag]
    rw [hm, htr, ht] at hu
    rw [hm, htg] at hk
    cases hu; cases hk
    exact State.giveTag_place s₁ h (by rw [htree]; exact hfree)

theorem tagsSound_keptByTable : KeptByTable State.tagsSound where
  alike := State.tagsSound.alike
  freed h hs := hs.rewritten (h := h) (fun i hi => by rw [State.freeEntry_home, if_neg hi])
    (fun t k i hi hk => by rw [State.freeEntry_tree]; exact hs.leave_held hi hk)
    fun t tag ht _ => by rw [State.freeEntry_home, if_pos rfl] at ht; cases ht
  closed {s h} r f _ hs := by
    have hi' : (s.leaveIsolated (s.home h)).home h = s.home h := by rw [State.home, State.leaveIsolated_homes, State.home]
    refine hs.rewritten (h := h) (fun i hi => by rw [State.closeEntry_home, if_neg hi]) (fun t k i hi hk => ?_) fun t tag _ htag => ?_
    · have hk' := State.tagsSound.leave_held (hs.alike (s.leaveIsolated_alike (s.home h))) hi (((s.leaveIsolated_alike _).trees t).held k i hk)
      rwa [hi', ← State.closeEntry_tree s h r f] at hk'
    · rw [State.closeEntry_home, if_pos rfl] at htag; cases htag
  forwarded st _ _ hs := hs.rewritten (fun i hi => by rw [State.setHome_home, if_neg hi]; rfl) (fun _ _ _ _ hk => hk)
    fun t tag _ htag => by rw [State.setHome_home, if_pos rfl] at htag; cases htag
  claimed {_ s h} t a _ _ _ _ hs := by
    refine hs.rewritten (h := h) (fun i hi => by simp [State.poolAdd, hi]) (fun u k i _ hk => ?_) fun u tag _ htag => ?_
    · rw [State.poolAdd, State.onTree_tree]
      split
      · rename_i e; subst e; exact hk
      · exact hk
    · simp [State.poolAdd, Home.claiming, Home.free] at htag
  moved id _ ht hs := hs.moved id ht
  succeeded m _ hs := hs.succeeded m
  classed {s h} g p _ _ hs := by
    have hp : ∀ t k, ((s.writeClass h g p).tree t).place k = (s.tree t).place k := fun t k => by
      rw [State.writeClass_tree]; split <;> rfl
    refine hs.rewritten (h := h) (fun i hi => by rw [State.writeClass_home, if_neg hi]) (fun t k i _ hk => (hp t k).trans hk) fun t tag ht htag => ?_
    rw [State.writeClass_home, if_pos rfl] at ht htag
    exact (hp t tag).trans (hs h t tag ht htag)

/-! ### The forward list (R16) -/

/-- Where the forward list stands and no entry becomes or stops being FORWARD, it stays sound. -/
theorem State.forwardSound.of_same {s s' : State} (hs : s.forwardSound) (hl : s'.forwardList = s.forwardList)
    (hi : ∀ i, (s'.home i).state = .forward ↔ (s.home i).state = .forward) : s'.forwardSound := by
  obtain ⟨hd, hn, hm⟩ := hs
  exact ⟨hl ▸ hd, hl ▸ hn, fun h => by rw [hl, hm, hi]⟩

/-- One entry that is not FORWARD takes a record that is not FORWARD. -/
theorem State.forwardSound.rewritten {s s' : State} {h : HomeIndex} (hs : s.forwardSound) (hl : s'.forwardList = s.forwardList)
    (ho : ∀ i, i ≠ h → s'.home i = s.home i) (hn : (s.home h).state ≠ .forward) (hn' : (s'.home h).state ≠ .forward) : s'.forwardSound := by
  refine hs.of_same hl fun i => ?_
  by_cases e : i = h
  · subst e; simp [hn, hn']
  · rw [ho i e]

theorem State.forwardSound.freed {s : State} (h : HomeIndex) (hs : s.forwardSound) : (s.freeEntry h).forwardSound := by
  obtain ⟨hd, hn, hm⟩ := hs
  refine ⟨?_, ?_, fun i => ?_⟩
  · rw [State.freeEntry_forwardList]; exact hd.filter _
  · rw [State.freeEntry_forwardList]; exact (List.length_filter_le _ _).trans hn
  · rw [State.freeEntry_forwardList, State.freeEntry_home, List.mem_filter, hm]
    split
    · rename_i e; simp [e, Home.free]
    · rename_i e; simp [e]

/-- R16: after room has been made the forward list holds fewer than 16. -/
theorem State.forwardSound.room {s : State} (hs : s.forwardSound) : s.makeForwardRoom.forwardList.length < 16 := by
  obtain ⟨-, hn, -⟩ := hs
  unfold State.makeForwardRoom
  split
  · rename_i h rest hl
    split
    · rw [State.freeEntry_forwardList, hl]
      rw [hl] at hn
      have := List.length_filter_le (fun i => !decide (i = h)) rest
      simp only [List.length_cons] at hn
      simp only [decide_true, Bool.not_true, List.filter_cons, Bool.false_eq_true, if_false]
      omega
    · rename_i hlt; exact Nat.not_le.1 hlt
  · rename_i hl; rw [hl]; simp

theorem State.forwardSound.forwarded {s : State} {h : HomeIndex} (st : Station) (hc : (s.home h).state = .closing) (hs : s.forwardSound)
    (hs' : s.makeForwardRoom.forwardSound) :
    ({ s.makeForwardRoom with forwardList := s.makeForwardRoom.forwardList ++ [h] }.setHome h ((s.home h).toForward st)).forwardSound := by
  obtain ⟨hd, -, hm⟩ := hs'
  have hnot : (s.makeForwardRoom.home h).state ≠ .forward := by
    obtain e | e := s.makeForwardRoom_home h
    · rw [e, hc]; simp
    · rw [e]; simp [Home.free]
  have hnew : h ∉ s.makeForwardRoom.forwardList := fun k => hnot ((hm h).1 k)
  refine ⟨?_, ?_, fun i => ?_⟩
  · simp only [State.setHome_forwardList]
    exact List.nodup_append.2 ⟨hd, List.nodup_singleton h, fun a ha b hb => by
      rw [List.mem_singleton] at hb; rintro rfl; exact hnew (hb ▸ ha)⟩
  · simp only [State.setHome_forwardList, List.length_append, List.length_singleton]
    exact hs.room
  · rw [State.setHome_home, State.setHome_forwardList, List.mem_append, List.mem_singleton, hm]
    split
    · rename_i e; simp [e, Home.toForward]
    · rename_i e; simp only [e, or_false]; rfl

theorem forwardSound_keptByTable : KeptByTable State.forwardSound where
  alike ha hs := hs.of_same ha.forwardList fun i => (ha.homes i).forward_iff
  freed h hs := hs.freed h
  closed {s h} r f he hs := hs.rewritten (h := h) (State.closeEntry_forwardList _ _ _ _) (fun i hi => by rw [State.closeEntry_home, if_neg hi])
    (not_forward_of_enrolled he) (by rw [State.closeEntry_home, if_pos rfl]; simp [Home.toClosing])
  forwarded st hc hs hs' := hs.forwarded st hc hs'
  claimed {_ s h} t a _ hf _ _ hs := hs.rewritten (h := h) rfl (fun i hi => by simp [State.poolAdd, hi]) (by rw [hf]; simp)
    (by simp [State.poolAdd, Home.claiming])
  moved {s h t} id hl _ hs := by
    obtain ha | ⟨tag, -, -, e⟩ := s.rejoinMoved_cases h t id
    · exact hs.of_same ha.forwardList fun i => (ha.homes i).forward_iff
    · rw [e]
      exact hs.rewritten (h := h) (s.leave_forwardList _)
        (fun i hi => by simp [State.offerCtl, State.giveTag, State.poolAdd, hi, State.leave_home]) (by rw [hl]; simp)
        (by simp [State.offerCtl, State.giveTag, Home.toMeasuring])
  succeeded {s h} m hc hs := by
    obtain e | ⟨t, id, tag, -, -, e⟩ := s.succeedClaim_cases h m
    · rwa [e]
    · rw [e]
      obtain ⟨hst, -⟩ := (s.home h).tagged_frame tag m s.cal.reading
      exact hs.rewritten (h := h) rfl (fun i hi => by simp [State.offerCtl, State.giveTag, hi]) (by rw [hc]; simp)
        (by simp [State.offerCtl, State.giveTag, hst])
  classed {s h} g p he _ hs := hs.rewritten (h := h) (State.writeClass_forwardList _ _ _ _) (fun i hi => by simp [State.writeClass_home, hi])
    (not_forward_of_enrolled he) (by simpa [State.writeClass_home] using not_forward_of_enrolled he)

/-! ### After a reset (R2) -/

@[simp] theorem State.afterReset_home (stn mgt : Station) (h : HomeIndex) : (State.afterReset stn mgt).home h = Home.free := by
  simp [State.home, State.afterReset]

@[simp] theorem State.afterReset_tree (stn mgt : Station) (t : Tree) : (State.afterReset stn mgt).tree t = TreeLine.atReset := by
  cases t <;> rfl

theorem poolsSound_afterReset (stn mgt : Station) : (State.afterReset stn mgt).poolsSound := fun t => by
  rw [State.pooled_eq_sum]
  simp [Home.pooledOn, Home.free, TreeLine.atReset]

theorem identitiesUnique_afterReset (stn mgt : Station) : (State.afterReset stn mgt).identitiesUnique := fun h _ _ hh =>
  absurd (by rw [State.afterReset_home]; rfl) hh

theorem tagsSound_afterReset (stn mgt : Station) : (State.afterReset stn mgt).tagsSound := fun h t _ ht => by
  rw [State.afterReset_home] at ht; cases ht

theorem forwardSound_afterReset (stn mgt : Station) : (State.afterReset stn mgt).forwardSound :=
  ⟨List.nodup_nil, Nat.zero_le _, fun h => by rw [State.afterReset_home]; simp [State.afterReset, Home.free]⟩

/-! ### The statements -/

/-- Settles O11: each pool moves by the g of the entry that joins, leaves or is rewritten, within the 1200 its test allows. -/
theorem poolsKept : Obligations.PoolsKept :=
  poolsSound_keptByTable.keptByEveryStep fun stn mgt _ => poolsSound_afterReset stn mgt

/-- Settles O12: an identity enters the table only by a capture whose walk found no holder, or whose only holder was a FORWARD entry just freed. -/
theorem identitiesKept : Obligations.IdentitiesKept :=
  identitiesUnique_keptByTable.keptByEveryStep fun stn mgt _ => identitiesUnique_afterReset stn mgt

/-- Settles O13: a tag is given from the free ones, and a tag drained from one entry is no other's. -/
theorem tagsKept : Obligations.TagsKept :=
  tagsSound_keptByTable.keptByEveryStep fun stn mgt _ => tagsSound_afterReset stn mgt

/-- Settles O14: an entry becomes FORWARD only at the end of CLOSING, after room was made, and stops being FORWARD only by being freed. -/
theorem forwardListKept : Obligations.ForwardListKept :=
  forwardSound_keptByTable.keptByEveryStep fun stn mgt _ => forwardSound_afterReset stn mgt

end Sys2Proof.Machine
end

section
/-! SUPPORT. The part while it waits for CONFIGURE: what it holds, and that a command leaves it so (R2, R164, R171, R176). -/

namespace Sys2Proof.Machine

/-- The content is a RESPONSE. -/
def Content.isResponse (c : Content) : Prop := ∃ num kind status part body, c = .response num kind status part body

/-- What the part holds in WAIT_CONFIG (R2, R24, R164, R176). -/
structure State.Waiting (s : State) : Prop where
  config : s.config = none
  homes : ∀ h, s.home h = Home.free
  trees : ∀ t, (s.tree t).running = false ∧ (s.tree t).active = GrantMap.empty ∧ (s.tree t).shadow = GrantMap.empty ∧
    (s.tree t).search.running = false
  walks : s.walks = []
  forwardList : s.forwardList = []
  heldNotice : s.share.heldNotice = none
  heldOvercommit : s.share.heldOvercommit = none
  hold : s.meter.hold = []
  heldFull : s.meter.heldFull = none
  frames : ∀ f ∈ s.link.frames, f.content.isResponse

theorem State.waitSound_iff (s : State) : s.waitSound ↔ (s.config = none → s.Waiting) := by
  constructor
  · intro h hc
    obtain ⟨hh, ht, hw, hf, hn, ho, hm, hl, hr⟩ := h hc
    exact ⟨hc, hh, ht, hw, hf, hn, ho, hm, hl, hr⟩
  · intro h hc
    obtain ⟨-, hh, ht, hw, hf, hn, ho, hm, hl, hr⟩ := h hc
    exact ⟨hh, ht, hw, hf, hn, ho, hm, hl, hr⟩

theorem State.waitSound_of_inRun {s : State} (h : s.inRun = true) : s.waitSound := by
  intro hc
  simp [State.inRun, hc] at h

/-- The trees agree on whether they run, on their maps and on whether they are searched. -/
structure TreeLine.Idles (x y : TreeLine) : Prop where
  running : y.running = x.running
  active : y.active = x.active
  shadow : y.shadow = x.shadow
  searched : y.search.running = x.search.running

/-- Nothing a waiting part must not do has begun: entries, walks, lists and what is held stand, and only RESPONSE frames joined the transmit queue. -/
structure State.Idles (s s' : State) : Prop where
  config : s'.config = s.config
  homes : s'.homes = s.homes
  trees : ∀ t, (s.tree t).Idles (s'.tree t)
  walks : s'.walks = s.walks
  forwardList : s'.forwardList = s.forwardList
  heldNotice : s'.share.heldNotice = s.share.heldNotice
  heldOvercommit : s'.share.heldOvercommit = s.share.heldOvercommit
  hold : s'.meter.hold = s.meter.hold
  heldFull : s'.meter.heldFull = s.meter.heldFull
  frames : ∀ f ∈ s'.link.frames, f ∈ s.link.frames ∨ f.content.isResponse

theorem TreeLine.Idles.refl (x : TreeLine) : x.Idles x := ⟨rfl, rfl, rfl, rfl⟩

theorem State.Idles.refl (s : State) : s.Idles s := ⟨rfl, rfl, fun _ => .refl _, rfl, rfl, rfl, rfl, rfl, rfl, fun _ => .inl⟩

theorem State.Idles.trans {a b c : State} (h : a.Idles b) (k : b.Idles c) : a.Idles c where
  config := k.config.trans h.config
  homes := k.homes.trans h.homes
  trees t := ⟨(k.trees t).running.trans (h.trees t).running, (k.trees t).active.trans (h.trees t).active,
    (k.trees t).shadow.trans (h.trees t).shadow, (k.trees t).searched.trans (h.trees t).searched⟩
  walks := k.walks.trans h.walks
  forwardList := k.forwardList.trans h.forwardList
  heldNotice := k.heldNotice.trans h.heldNotice
  heldOvercommit := k.heldOvercommit.trans h.heldOvercommit
  hold := k.hold.trans h.hold
  heldFull := k.heldFull.trans h.heldFull
  frames f hf := (k.frames f hf).elim (h.frames f) .inr

theorem State.Waiting.idles {s s' : State} (w : s.Waiting) (h : s.Idles s') : s'.Waiting where
  config := h.config.trans w.config
  homes i := by rw [State.home, h.homes]; exact w.homes i
  trees t := by
    rw [(h.trees t).running, (h.trees t).active, (h.trees t).shadow, (h.trees t).searched]
    exact w.trees t
  walks := h.walks.trans w.walks
  forwardList := h.forwardList.trans w.forwardList
  heldNotice := h.heldNotice.trans w.heldNotice
  heldOvercommit := h.heldOvercommit.trans w.heldOvercommit
  hold := h.hold.trans w.hold
  heldFull := h.heldFull.trans w.heldFull
  frames f hf := (h.frames f hf).elim (w.frames f) id

theorem State.Waiting.sound {s s' : State} (w : s.Waiting) (h : s.Idles s') : s'.waitSound := (s'.waitSound_iff).2 fun _ => w.idles h

/-! ### The plain updates -/

/-- An operation on the blocks that a waiting part may move. -/
theorem State.Idles.of_same {s s' : State} (hc : s'.config = s.config) (hh : s'.homes = s.homes) (ht : s'.trees = s.trees)
    (hw : s'.walks = s.walks) (hf : s'.forwardList = s.forwardList) (hs : s'.share = s.share) (hm : s'.meter.hold = s.meter.hold)
    (hn : s'.meter.heldFull = s.meter.heldFull) (hl : s'.link = s.link) : s.Idles s' where
  config := hc
  homes := hh
  trees t := by simp only [State.tree, ht]; exact .refl _
  walks := hw
  forwardList := hf
  heldNotice := by rw [hs]
  heldOvercommit := by rw [hs]
  hold := hm
  heldFull := hn
  frames f hf := by rw [hl] at hf; exact .inl hf

theorem State.onTree_idles {s : State} {t : Tree} {f : TreeLine → TreeLine} (hf : (s.tree t).Idles (f (s.tree t))) : s.Idles (s.onTree t f) where
  config := rfl
  homes := rfl
  trees u := by
    rw [State.onTree_tree]
    split
    · rename_i e; rw [e]; exact hf
    · exact .refl _
  walks := rfl
  forwardList := rfl
  heldNotice := rfl
  heldOvercommit := rfl
  hold := rfl
  heldFull := rfl
  frames _ := .inl

theorem State.onLink_idles {s : State} {f : Link → Link} (hf : ∀ g ∈ (f s.link).frames, g ∈ s.link.frames ∨ g.content.isResponse) :
    s.Idles (s.onLink f) :=
  ⟨rfl, rfl, fun _ => .refl _, rfl, rfl, rfl, rfl, rfl, rfl, hf⟩

/-- A counter of the link controller or the sender's phase moved. -/
theorem State.onLink_idles_of_frames {s : State} {f : Link → Link} (hf : (f s.link).frames = s.link.frames) : s.Idles (s.onLink f) :=
  State.onLink_idles fun _ hg => .inl (hf ▸ hg)

/-- Every record changed at once to itself is no change. -/
theorem State.mapHomes_eq_self {s : State} {f : HomeIndex → Home → Home} (hf : ∀ h, f h (s.home h) = s.home h) : s.mapHomes f = s := by
  have hh : (s.mapHomes f).homes = s.homes := homes_ext fun i => by
    have e := State.mapHomes_home s f i
    rw [hf i] at e
    exact e
  exact congrArg (fun v => { s with homes := v }) hh

theorem State.Waiting.mapHomes {s : State} (w : s.Waiting) {f : HomeIndex → Home → Home} (hf : ∀ h, f h Home.free = Home.free) : s.mapHomes f = s :=
  State.mapHomes_eq_self fun h => by rw [w.homes h, hf h]

/-! ### The transmit queue -/

theorem Link.choose_frames_subset (l : Link) : ∀ f ∈ l.choose.frames, f ∈ l.frames := by
  intro f hf
  unfold Link.choose at hf
  split at hf
  · rename_i g rest _ hw
    simp only [Link.frames, hw, List.mem_append] at hf ⊢
    exact .inr (by simpa using hf)
  · exact hf

theorem Link.take_frames_subset (l : Link) (g : Frame) : ∀ f ∈ (l.take g).frames, f = g ∨ f ∈ l.frames := by
  intro f hf
  have h := Link.choose_frames_subset _ f hf
  simp only [Link.frames, List.mem_append, insertFrame_mem] at h ⊢
  tauto

theorem Link.finish_frames_subset (l : Link) : ∀ f ∈ l.finish.frames, f ∈ l.frames := by
  intro f hf
  have h := Link.choose_frames_subset _ f hf
  simp only [Link.frames, List.mem_append] at h ⊢
  exact .inr (by simpa using h)

theorem State.countReceived_idles (s : State) : s.Idles s.countReceived := State.onLink_idles_of_frames rfl

theorem State.respond_idles (s : State) (st : Station) (n : BitVec 16) (k : Byte) (status : Status) (b : List Byte) :
    s.Idles (s.respond st n k status b) := by
  refine State.onLink_idles fun g hg => ?_
  split at hg
  · exact (Link.take_frames_subset _ _ g hg).symm.imp id fun e => ⟨n, k, status, 0, b, by rw [e]⟩
  · exact .inl hg

theorem State.conclude_idles (s : State) (rx : Rx) (n : BitVec 16) (k : Byte) (a : Answer) : a.state.Idles (s.conclude rx n k a) := by
  have hc : a.state.Idles (if refuses k a.status then a.state.onLink fun l => { l with requestsRefused := bump l.requestsRefused } else a.state) := by
    split
    · exact State.onLink_idles_of_frames rfl
    · exact .refl _
  unfold State.conclude
  dsimp only
  split
  · exact hc.trans (State.respond_idles _ _ _ _ _ _)
  · exact hc

theorem State.refusal_idles (s : State) (rx : Rx) (n : BitVec 16) (k : Byte) (st : Status) : s.Idles (s.conclude rx n k (s.refuse st)) :=
  s.conclude_idles rx n k (s.refuse st)

theorem State.emit_idles (s : State) (o : Output) : s.Idles (s.emit o) := .of_same rfl rfl rfl rfl rfl rfl rfl rfl rfl

/-! ### Operations that find nothing to do while the part waits -/

theorem TreeLine.offer_idles (x : TreeLine) (m : CtlMsg) : x.Idles (x.offer m) := by
  rw [x.offer_frame m]; exact ⟨rfl, rfl, rfl, rfl⟩

theorem State.reoffer_idles (s : State) (t : Tree) (i : Nat) : s.Idles (s.reoffer t i) := by
  have hs : ∀ x : TreeLine, (s.tree t).Idles x → s.Idles (s.setTree t x) := fun x hx => State.onTree_idles (f := fun _ => x) hx
  have he : (s.tree t).Idles { s.tree t with held := (s.tree t).held.eraseIdx i } := ⟨rfl, rfl, rfl, rfl⟩
  unfold State.reoffer
  dsimp only
  split
  · exact .refl s
  · split
    · exact .refl s
    · split
      · exact hs _ he
      · split
        · have ho := TreeLine.offer_idles { s.tree t with held := (s.tree t).held.eraseIdx i }
          exact hs _ ⟨(ho _).running, (ho _).active, (ho _).shadow, (ho _).searched⟩
        · exact .refl s

theorem State.wakeWalk_idles (s : State) : s.Idles s.wakeWalk := by
  unfold State.wakeWalk
  split
  · exact .of_same rfl rfl rfl rfl rfl rfl rfl rfl rfl
  · exact .of_same rfl rfl rfl rfl rfl rfl rfl rfl rfl
  · exact .refl s

theorem State.Waiting.roundBoundary_idles {s : State} (w : s.Waiting) : s.Idles s.roundBoundary := by
  have hc : s.Idles (s.onClock RoundClock.boundary) := .of_same rfl rfl rfl rfl rfl rfl rfl rfl rfl
  have w' := w.idles hc
  have hswap : ∀ t, (s.onClock RoundClock.boundary).swapTree t = s.onClock RoundClock.boundary := fun t => by
    simp [State.swapTree, (w.trees t).1]
  have hsend : ∀ t, (s.onClock RoundClock.boundary).sendHeader t = s.onClock RoundClock.boundary := fun t => by
    simp [State.sendHeader, (w.trees t).1]
  have hall : s.roundBoundary = s.onClock RoundClock.boundary := by
    unfold State.roundBoundary
    dsimp only
    rw [w'.mapHomes (fun _ => rfl)]
    simp only [Tree.all, List.foldl_cons, List.foldl_nil, hswap, hsend]
  rw [hall]
  exact hc

theorem State.Waiting.shareEnd_idles {s : State} (w : s.Waiting) : s.Idles s.shareEnd := by
  unfold State.shareEnd
  generalize s.ownFloor = floor
  dsimp only
  split
  · rename_i c hc; exact absurd (w.config.symm.trans hc) (by simp)
  · exact ⟨rfl, rfl, fun _ => .refl _, rfl, rfl, rfl, rfl, rfl, rfl, fun _ => .inl⟩

theorem State.Waiting.periodClose_idles {s : State} (w : s.Waiting) (m : Moment) : s.Idles (s.periodClose m) := by
  unfold State.periodClose
  dsimp only
  rw [w.mapHomes (fun _ => rfl)]
  refine State.Idles.trans (b := s.onMeter fun x => { x with skippedSwaps := satAdd 65535 x.skippedSwaps (homeIndexes.countP fun h => (s.home h).swapSkipped) })
    (.of_same rfl rfl rfl rfl rfl rfl rfl rfl rfl) ?_
  exact (State.wakeWalk_idles _).trans (.of_same rfl rfl rfl rfl rfl rfl rfl rfl rfl)

theorem State.Waiting.walkStep_idles {s : State} (w : s.Waiting) : s.Idles s.walkStep := by
  unfold State.walkStep
  dsimp only
  rw [w.homes]
  exact .of_same rfl rfl rfl rfl rfl rfl rfl rfl rfl

theorem State.Waiting.downstream_idles {s : State} (w : s.Waiting) (n : Nat) (p : List Byte) : s.Idles (s.downstream n p) := by
  have hr : s.Idles s.refuseDownstream := .of_same rfl rfl rfl rfl rfl rfl rfl rfl rfl
  unfold State.downstream
  dsimp only
  split
  · rw [w.homes]; exact hr
  · exact hr

theorem State.claimSent_response {s : State} {f : Frame} (hf : f.content.isResponse) : s.claimSent f = s := by
  obtain ⟨_, _, _, _, _, e⟩ := hf
  simp only [State.claimSent, e]

theorem State.dropped_response {s : State} {f : Frame} (hf : f.content.isResponse) : s.dropped f = s := by
  obtain ⟨_, _, _, _, _, e⟩ := hf
  simp only [State.dropped, e]

theorem State.Waiting.current {s : State} (w : s.Waiting) {f : Frame} {n : Nat} (h : s.link.current = some (f, n)) : f.content.isResponse :=
  w.frames f (by simp [Link.frames, h])

theorem State.Waiting.reofferFrame {s : State} (w : s.Waiting) (f : HeldFrame) : s.reofferFrame f = s := by
  cases f with
  | claim h => simp only [State.reofferFrame, State.reofferClaim, w.homes, Home.free]
  | share => simp only [State.reofferFrame, w.heldNotice]
  | overcommit => simp only [State.reofferFrame, w.heldOvercommit]
  | holdFull => simp only [State.reofferFrame, w.heldFull]

/-! ### Received frames -/

theorem State.Waiting.receive {s : State} (w : s.Waiting) {rx : Rx} {f : State → State}
    (hf : s.countReceived.Waiting → (f s.countReceived).waitSound) : (s.receive rx f).waitSound := by
  unfold State.receive
  split
  · exact hf (w.idles s.countReceived_idles)
  · exact w.sound (.refl s)

/-- R171: a peer frame is received and discarded while the part waits. -/
theorem State.Waiting.receivePeer {s : State} (w : s.Waiting) (rx : Rx) (f : State → State) : (s.receivePeer rx f).waitSound := by
  refine w.receive fun w' => ?_
  rw [State.rankOf_wait w'.config]
  exact w'.sound (.refl _)

/-- R171, R176: a request other than CONFIGURE is refused NOT_READY or discarded while the part waits. -/
theorem State.Waiting.request {s : State} (w : s.Waiting) (rx : Rx) (num : BitVec 16) (kind : Byte) (top : Nat) (b : Bool) (act : State → State) :
    (s.request rx num kind top b act).waitSound := by
  refine w.receive fun w' => ?_
  rw [State.rankOf_wait w'.config]
  dsimp only
  split
  · exact w'.sound (State.refusal_idles _ _ _ _ _)
  · exact w'.sound (.refl _)

theorem State.inRun_applyConfig (s : State) (c : Config) : (s.applyConfig c).inRun = true :=
  (State.Alike.foldl (f := fun s t => s.onTree t fun x => x.start c) (fun _ _ => State.onTree_alike ⟨rfl, fun _ _ h => h⟩) _ _).run rfl

/-- R178: CONFIGURE leaves the part waiting with an answer, or takes it to RUN. -/
theorem State.Waiting.configure {s : State} (w : s.Waiting) (rx : Rx) (num : BitVec 16) (args : List Byte) :
    (State.answer rx num 1 (fun s => s.configure rx args) s).waitSound := by
  have hk := s.conclude_idles rx num 1 (s.configure rx args)
  have hs : (s.configure rx args).state = s ∨ (s.configure rx args).state.inRun = true := by
    unfold State.configure State.ranged
    split
    · exact .inl rfl
    · split
      · exact .inl rfl
      · split
        · exact .inl rfl
        · exact .inr (s.inRun_applyConfig _)
  obtain e | e := hs
  · rw [e] at hk; exact w.sound hk
  · refine State.waitSound_of_inRun ?_
    change (s.conclude rx num 1 (s.configure rx args)).inRun = true
    rw [State.inRun, hk.config]
    exact e

/-! ### Every command -/

theorem State.Waiting.exec {c : Instr} {s s' : State} (w : s.Waiting) (hx : exec c s = .next s') (hc : ∀ stn mgt, c ≠ .pinReset stn mgt) :
    s'.waitSound := by
  have does : ∀ {f : State → State}, s.does f = .next s' → (∀ s : State, s.Waiting → (f s).waitSound) → s'.waitSound := fun hd hf => by
    rw [State.does_next] at hd
    exact hd ▸ hf _ (w.idles (.of_same rfl rfl rfl rfl rfl rfl rfl rfl rfl))
  cases c
  case pinReset stn mgt => exact absurd rfl (hc stn mgt)
  all_goals dsimp only [Machine.exec, execRoundBoundary, execControlMessageReoffer, execHeldFrameReoffer, execSoakEnd, execClaimHoldExpiry, execProbeSettled, execEpochEnd,
    execLaserOffRefresh, execSharePeriodEnd, execSecondTick, execLostTimeout, execPeriodClose, execForwardRetentionExpiry, execMapPoint,
    execBurstReceived, execZoneReceived, execQuietWindowMeasured, execDownstreamPacket, execCaptureCheckComplete, execClaimCheckComplete,
    execReleaseCheckComplete, execFindWalkComplete, execEmissionWalk, execIdleGapElapsed, execFrameSent, execLinkCollision, execJamEnd,
    execBackoffEnd, execBadFrame, execClaim, execObject, execRelease, execShare, execEvent, execResponse, execConfigure, execTime,
    execTariff, execAdmit, execWithdraw, execUnbar, execRetire, execPardon, execSetClass, execSearch, execAbortSearch, execStopTree,
    execStartTree, execQueryHome, execFind, execReadLists, execQueryStation, execCollect, execReleaseRecord, execUnknownClass,
    execUnknownRequestKind] at hx
  case roundBoundary => exact does hx fun s w => w.sound w.roundBoundary_idles
  case controlMessageReoffer t place => exact does hx fun s w => w.sound (s.reoffer_idles t place)
  case heldFrameReoffer f => exact does hx fun s w => by rw [w.reofferFrame f]; exact w.sound (.refl s)
  case soakEnd h | claimHoldExpiry h | laserOffRefresh h | forwardRetentionExpiry h =>
    refine does hx fun s w => ?_
    rw [w.homes]
    exact w.sound (.refl s)
  case probeSettled t =>
    refine does hx fun s w => ?_
    simp only [(w.trees t).2.2.2, Bool.false_eq_true, false_and, if_false]
    exact w.sound (.refl s)
  case epochEnd =>
    refine does hx fun s w => ?_
    split
    · have wc : s.Idles (s.onClock fun c => { c with epochDue := false }) := .of_same rfl rfl rfl rfl rfl rfl rfl rfl rfl
      rw [(w.idles wc).mapHomes (fun _ => rfl)]
      refine w.sound (wc.trans ⟨rfl, rfl, fun t => ?_, rfl, rfl, rfl, rfl, rfl, rfl, fun _ => .inl⟩)
      simp only [State.tree, Quad_get_map]
      exact ⟨rfl, rfl, rfl, rfl⟩
    · exact w.sound (.refl s)
  case sharePeriodEnd =>
    refine does hx fun s w => ?_
    split
    · have wc : s.Idles (s.onClock fun c => { c with shareDue := false }) := .of_same rfl rfl rfl rfl rfl rfl rfl rfl rfl
      exact w.sound (wc.trans (w.idles wc).shareEnd_idles)
    · exact w.sound (.refl s)
  case secondTick =>
    refine does hx fun s w => ?_
    split
    · have wc : s.Idles (s.onClock fun c => { c with secondDue := false }) := .of_same rfl rfl rfl rfl rfl rfl rfl rfl rfl
      rw [(w.idles wc).mapHomes (fun _ => rfl)]
      exact w.sound (wc.trans (.of_same rfl rfl rfl rfl rfl rfl rfl rfl rfl))
    · exact w.sound (.refl s)
  case lostTimeout h | burstReceived t b | quietWindowMeasured t level =>
    refine does hx fun s w => ?_
    rw [w.config]
    exact w.sound (.refl s)
  case periodClose =>
    refine does hx fun s w => ?_
    split
    · exact w.sound (w.periodClose_idles _)
    · exact w.sound (.refl s)
  case mapPoint =>
    refine does hx fun s w => ?_
    split
    · exact w.sound (.refl s)
    · unfold State.mapPoint
      dsimp only
      split
      · exact w.sound (.of_same rfl rfl rfl rfl rfl rfl rfl rfl rfl)
      · rename_i c hc; exact absurd (w.config.symm.trans hc) (by simp)
  case zoneReceived t z =>
    refine does hx fun s w => ?_
    simp only [State.zone, (w.trees t).2.1, GrantMap.empty]
    exact w.sound (.refl s)
  case downstreamPacket home packet => exact does hx fun s w => w.sound (w.downstream_idles home packet)
  case captureCheckComplete | claimCheckComplete | releaseCheckComplete | findWalkComplete r =>
    refine does hx fun s w => ?_
    simp only [w.walks]
    exact w.sound (.refl s)
  case emissionWalk =>
    refine does hx fun s w => ?_
    split
    · exact w.sound w.walkStep_idles
    · exact w.sound (.refl s)
  case idleGapElapsed =>
    refine does hx fun s w => ?_
    split
    · refine w.sound (State.Idles.trans (State.onLink_idles_of_frames ?_) (State.emit_idles _ _))
      rfl
    all_goals exact w.sound (.refl s)
  case frameSent =>
    refine does hx fun s w => ?_
    split
    · rename_i f n _ hf
      rw [State.claimSent_response (w.current hf)]
      refine w.sound (State.Idles.trans (State.onLink_idles fun g hg => ?_) (State.emit_idles _ _))
      have hs := Link.finish_frames_subset _ g hg
      exact .inl hs
    · exact w.sound (.refl s)
  case linkCollision =>
    refine does hx fun s w => ?_
    split
    · refine w.sound (State.Idles.trans (State.onLink_idles_of_frames ?_) (State.emit_idles _ _))
      rfl
    all_goals exact w.sound (.refl s)
  case jamEnd =>
    refine does hx fun s w => ?_
    split
    · rename_i f n _ hf
      have hcol : s.Idles (s.onLink fun l => { l with collisions := bump l.collisions }) := State.onLink_idles_of_frames rfl
      split
      · rw [State.dropped_response (w.current hf)]
        refine w.sound (hcol.trans (State.onLink_idles fun g hg => ?_))
        have hs := Link.finish_frames_subset _ g hg
        exact .inl hs
      · exact w.sound (hcol.trans (State.onLink_idles_of_frames rfl))
    · exact w.sound (.refl s)
  case backoffEnd =>
    refine does hx fun s w => ?_
    split
    · rename_i f n _ hf
      exact w.sound (State.onLink_idles_of_frames (by simp [Link.frames, hf]))
    · exact w.sound (.refl s)
  case badFrame bytes =>
    refine does hx fun s w => ?_
    split
    · exact w.sound (State.onLink_idles_of_frames rfl)
    · exact w.sound (.refl s)
  case claim rx payload | object rx payload | release rx payload => exact does hx fun s w => w.receivePeer rx _
  case share rx payload =>
    refine does hx fun s w => w.receive fun w' => ?_
    split
    · rw [State.takeShare, State.rankOf_wait w'.config]
      exact w'.sound ⟨rfl, rfl, fun _ => .refl _, rfl, rfl, rfl, rfl, rfl, rfl, fun _ => .inl⟩
    · exact w'.sound (.refl _)
  case event rx payload | response rx payload => exact does hx fun s w => w.receive fun w' => w'.sound (.refl _)
  case configure rx num args => exact does hx fun s w => w.receive fun w' => w'.configure rx num args
  case unknownClass rx cls payload =>
    refine does hx fun s w => ?_
    split
    · exact w.sound (State.onLink_idles_of_frames rfl)
    · exact w.sound (.refl s)
  case unknownRequestKind rx payload =>
    refine does hx fun s w => ?_
    split
    · refine w.receive fun w' => ?_
      have hr : s.countReceived.inRun = false := by rw [State.inRun, w'.config]; rfl
      simp only [State.unknownKind, hr, Bool.false_eq_true, if_false]
      split
      · exact w'.sound (State.refusal_idles _ _ _ _ _)
      · exact w'.sound (.refl _)
    · exact w.sound (.refl s)
  all_goals exact does hx fun s w => w.request _ _ _ _ _ _

theorem waitSound_afterReset (stn mgt : Station) : (State.afterReset stn mgt).waitSound := fun _ =>
  ⟨State.afterReset_home stn mgt, fun t => by rw [State.afterReset_tree]; exact ⟨rfl, rfl, rfl, rfl⟩, rfl, rfl, rfl, rfl, rfl, rfl,
    fun f hf => by simp [State.afterReset, Link.frames] at hf⟩

/-- Settles O15: a part in RUN stays in RUN, and of the commands of a waiting part only CONFIGURE starts anything. -/
theorem waitConfigKept : Obligations.WaitConfigKept := by
  refine KeptByEveryStep.of_exec (fun s q hs => hs) fun c s s' hs hx => ?_
  by_cases hc : ∃ stn mgt, c = .pinReset stn mgt
  · obtain ⟨stn, mgt, rfl⟩ := hc
    simp only [Machine.exec, execPinReset, Host.Outcome.next.injEq] at hx
    exact hx ▸ waitSound_afterReset stn mgt
  · have hc' : ∀ stn mgt, c ≠ .pinReset stn mgt := fun stn mgt e => hc ⟨stn, mgt, e⟩
    cases hrun : s.inRun with
    | true => exact State.waitSound_of_inRun (inRun_keptByTable.exec hc' hrun hx)
    | false => exact State.Waiting.exec ((s.waitSound_iff).1 hs (by simpa [State.inRun] using hrun)) hx hc'

end Sys2Proof.Machine
end

section
/-! SUPPORT. The state after a pin reset (R2, R176): its values, and that it meets every invariant. -/

namespace Sys2Proof.Machine

theorem TreeLine.atReset_tags (i : Fin 62) : TreeLine.atReset.tags[i] = TagPlace.free := by simp [TreeLine.atReset]

/-- Settles O2: PIN_RESET answers the reset state with the waiting commands kept. -/
theorem pinResetGivesTheResetValues : Obligations.PinResetGivesTheResetValues := by
  intro stn mgt s
  refine ⟨{ State.afterReset stn mgt with pending := s.pending }, rfl, rfl, rfl, rfl, rfl, State.afterReset_home stn mgt, fun t => ?_, ?_⟩
  · have ht : ({ State.afterReset stn mgt with pending := s.pending } : State).tree t = TreeLine.atReset := State.afterReset_tree stn mgt t
    rw [ht]
    refine ⟨rfl, rfl, rfl, rfl, rfl, rfl, TreeLine.atReset_tags, ?_⟩
    repeat' constructor
  · refine ⟨rfl, rfl, rfl, rfl, rfl, rfl, rfl, rfl, rfl, rfl, rfl, rfl, rfl, rfl, fun i => by simp [State.afterReset], rfl, rfl, rfl, rfl,
      ⟨rfl, rfl, rfl, rfl, rfl, rfl⟩, rfl, rfl, rfl, rfl, fun i => ?_, rfl, rfl, rfl, rfl, rfl, rfl, rfl, rfl⟩
    fin_cases i <;> rfl

/-! ### The invariants of the other blocks after a reset -/

theorem RoundClock.sound_afterReset (stn mgt : Station) : (State.afterReset stn mgt).clock.sound :=
  ⟨Nat.zero_le _, Nat.zero_le _, Nat.zero_le _⟩

theorem Calendar.sound_afterReset (stn mgt : Station) : (State.afterReset stn mgt).cal.sound := by
  refine ⟨rfl, Nat.zero_le _, rfl, fun m hm => ?_, fun m hm => ?_, fun _ => ⟨rfl, rfl⟩⟩
  · cases hm
  · cases hm

theorem Metering.sound_afterReset (stn mgt : Station) : (State.afterReset stn mgt).meter.sound :=
  ⟨Nat.zero_le _, fun i r hr => by simp [State.afterReset] at hr⟩

theorem Link.sound_afterReset (stn mgt : Station) : (State.afterReset stn mgt).link.sound := by
  refine ⟨Nat.zero_le _, Nat.zero_le _, List.Pairwise.nil, ⟨fun _ => rfl, fun _ => rfl⟩, fun _ => rfl, fun f a hf => ?_, fun f a b hf => ?_⟩
  · cases hf
  · cases hf

theorem State.shareSound_afterReset (stn mgt : Station) : (State.afterReset stn mgt).shareSound :=
  ⟨Nat.le_refl 32, Nat.le_of_ble_eq_true rfl, fun i p hp => by simp [State.afterReset] at hp, by simp [State.afterReset]⟩

theorem State.scoresSound_afterReset (stn mgt : Station) : (State.afterReset stn mgt).scoresSound :=
  ⟨fun h => by rw [State.afterReset_home]; exact Nat.zero_le _, fun t => by rw [State.afterReset_tree]; exact Nat.zero_le _,
    fun t => by rw [State.afterReset_tree]; exact Nat.zero_le _⟩

theorem GrantMap.empty_sound : GrantMap.empty.sound := ⟨fun _ hw => absurd hw List.not_mem_nil, List.Pairwise.nil⟩

theorem State.mapsSound_afterReset (stn mgt : Station) : (State.afterReset stn mgt).mapsSound :=
  ⟨fun _ hc => (Option.some_ne_none _ hc.symm).elim, fun t => by rw [State.afterReset_tree]; exact ⟨GrantMap.empty_sound, GrantMap.empty_sound⟩⟩

theorem State.listsSound_afterReset (stn mgt : Station) : (State.afterReset stn mgt).listsSound :=
  ⟨Nat.zero_le _, List.nodup_nil, Nat.zero_le _, List.nodup_nil, Nat.zero_le _, List.nodup_nil,
    fun t => by rw [State.afterReset_tree]; exact ⟨Nat.zero_le _, List.nodup_nil⟩, Nat.zero_le _⟩

/-- Settles O3: block by block, the reset values lie within every invariant. -/
theorem resetMeetsTheInvariants : Obligations.ResetMeetsTheInvariants := fun stn mgt =>
  ⟨RoundClock.sound_afterReset stn mgt, Calendar.sound_afterReset stn mgt, Metering.sound_afterReset stn mgt, Link.sound_afterReset stn mgt,
    State.shareSound_afterReset stn mgt, State.scoresSound_afterReset stn mgt, poolsSound_afterReset stn mgt, identitiesUnique_afterReset stn mgt,
    tagsSound_afterReset stn mgt, forwardSound_afterReset stn mgt, waitSound_afterReset stn mgt, State.mapsSound_afterReset stn mgt,
    State.listsSound_afterReset stn mgt⟩

end Sys2Proof.Machine
end

section
/-! SUPPORT. An addressed request of a sufficient rank answered with room in the transmit queue: the state its owning block makes, with the answer queued (R172, R173). -/

namespace Sys2Proof.Machine

/-- The state in which the owning block finds a received request (R170). -/
def State.heard (s : State) : State := s.begin.countReceived

@[simp] theorem State.heard_home (s : State) (h : HomeIndex) : s.heard.home h = s.home h := rfl
@[simp] theorem State.heard_tree (s : State) (t : Tree) : s.heard.tree t = s.tree t := rfl
@[simp] theorem State.heard_link (s : State) : s.heard.link = s.link.received := rfl

theorem State.asked.addressed {s : State} {rx : Rx} {c : Config} {top : Nat} (h : s.asked rx c top) : s.addressed rx = true :=
  (s.addressed_iff rx).2 h.2.1.1

theorem State.request_heard {s : State} {rx : Rx} {c : Config} {top : Nat} (num : BitVec 16) (kind : Byte) (b : Bool) (act : State → State)
    (h : s.asked rx c top) : s.begin.request rx num kind top b act = act s.heard :=
  State.request_asked num kind b act (s := s.begin) h

/-- An accepted request is answered with the state its block leaves (R173). -/
theorem State.request_taken {s s' u : State} {rx : Rx} {c : Config} {top : Nat} {num : BitVec 16} {kind : Byte} {b : Bool} {f : State → Answer}
    {status : Status} {body : List Byte} (h : s.asked rx c top) (hroom : s.link.roomFor false = true) (hf : f s.heard = ⟨s', status, body⟩)
    (hr : refuses kind status = false) (hl : s'.link = s.link.received)
    (hu : { s' with link := s.link.answered rx num kind status body } = u) :
    s.begin.request rx num kind top b (State.answer rx num kind f) = u := by
  rw [← hu, State.request_heard num kind b _ h, State.answer, hf,
    State.conclude_taken hr (show s.heard.addressed rx = true from h.addressed) (by rw [hl]; exact hroom), Link.answered, hl]

/-- A refused request is counted and answered, and changes nothing else (R172). -/
theorem State.request_refused {s : State} {rx : Rx} {c : Config} {top : Nat} {num : BitVec 16} {kind : Byte} {b : Bool} {f : State → Answer}
    {status : Status} {body : List Byte} (h : s.asked rx c top) (hroom : s.link.roomFor false = true) (hf : f s.heard = ⟨s.heard, status, body⟩)
    (hr : refuses kind status = true) :
    s.begin.request rx num kind top b (State.answer rx num kind f) =
      { s with link := s.link.received.refused.take (responseFrame rx.src num kind status body), out := [] } := by
  rw [State.request_heard num kind b _ h, State.answer, hf,
    State.conclude_refused hr (show s.heard.addressed rx = true from h.addressed) hroom]
  rfl

theorem State.ranged_some {α : Type} {s : State} {read : Option α} {a : α} (f : α → Answer) (h : read = some a) : s.ranged read f = f a := by
  rw [h, State.ranged]

theorem State.ranged_none {α : Type} {s : State} {read : Option α} (f : α → Answer) (h : read = none) : s.ranged read f = s.refuse .range := by
  rw [h, State.ranged]

/-- The search over the entries in index order finds the first that satisfies the test (R21). -/
theorem find_homeIndexes {p : HomeIndex → Bool} {h : HomeIndex} : homeIndexes.find? p = some h ↔ p h = true ∧ ∀ k, k < h → p k = false := by
  rw [homeIndexes, List.find?_eq_some_iff_getElem]
  constructor
  · rintro ⟨hp, i, hi, he, hb⟩
    refine ⟨hp, fun k hk => ?_⟩
    have hki : k.val < i := by rw [← he] at hk; simpa [Fin.lt_def] using hk
    simpa using hb k.val hki
  · rintro ⟨hp, hb⟩
    refine ⟨hp, h.val, by simp, by simp, fun j hj => ?_⟩
    have hj128 : j < 128 := hj.trans h.isLt
    simpa using hb ⟨j, hj128⟩ hj

theorem find_homeIndexes_none {p : HomeIndex → Bool} : homeIndexes.find? p = none ↔ ∀ k, p k = false := by
  simp [homeIndexes]

/-! ### Entries without a part in pool and tag -/

theorem State.leavePool_unpooled {s : State} {x : Home} (h : inPool x.state = false) : s.leavePool x = s := by
  unfold State.leavePool
  split
  · rw [if_neg (by simp [h])]
  · rfl

theorem State.drainTag_untagged {s : State} {x : Home} (h : x.tag = none) : s.drainTag x = s := by
  unfold State.drainTag
  split
  · rename_i htag; rw [h] at htag; cases htag
  · rfl

/-- R1: an entry with no part in a pool and no tag is freed alone. -/
theorem State.freeEntry_unpooled {s : State} {h : HomeIndex} (hp : inPool (s.home h).state = false) (ht : (s.home h).tag = none) :
    s.freeEntry h = { s with homes := s.homes.set h Home.free, forwardList := s.forwardList.filter fun i => i ≠ h } := by
  simp only [State.freeEntry, State.leavePool_unpooled hp, State.drainTag_untagged ht, State.leaveForwardList, State.setHome, ne_eq, decide_not]

/-! ### Two changes of one tree -/

theorem Quad_set_set {α : Type} (q : Quad α) (i : Fin 4) (x y : α) : (q.set i x).set i y = q.set i y := by
  fin_cases i <;> rfl

theorem State.onTree_onTree (s : State) (t : Tree) (f g : TreeLine → TreeLine) : (s.onTree t f).onTree t g = s.onTree t (g ∘ f) := by
  have h : ((s.onTree t f).tree t) = f (s.tree t) := by simp
  rw [State.onTree, h]
  simp only [State.onTree, State.setTree, Quad_set_set, Function.comp]

end Sys2Proof.Machine
end

section
/-! SUPPORT. Entries freed, soaks and probes at their end, PARDON and SET-CLASS, and the requests whose effect is the answer. -/

namespace Sys2Proof.Machine

/-- Settles O30: each of the four events meets its condition and makes its one change. -/
theorem entryAndProbeTimers : Obligations.EntryAndProbeTimers := by
  intro s h
  refine ⟨fun hs ht hr => ?_, fun c rx num args ha hroom harg hs ht => ?_, fun hs hk => ?_, fun t hr hp hb => ?_⟩
  · refine congrArg Host.Outcome.next ((if_pos ⟨hs, hr⟩).trans ?_)
    exact State.freeEntry_unpooled (s := s.begin) (by rw [State.begin_home, hs]; rfl) ht
  · have hf : s.heard.ranged (homeArg args) s.heard.retire =
        ⟨{ s.heard with homes := s.homes.set h Home.free, forwardList := s.forwardList.filter fun i => i ≠ h }, .ok, []⟩ := by
      rw [State.ranged_some _ harg, State.retire, State.heard_home, hs]
      exact congrArg State.accept (State.freeEntry_unpooled (s := s.heard) (by rw [State.heard_home, hs]; rfl) ht)
    exact congrArg Host.Outcome.next (State.request_taken ha hroom hf rfl rfl rfl)
  · exact congrArg Host.Outcome.next (if_pos ⟨hs, hk⟩)
  · exact congrArg Host.Outcome.next (if_pos ⟨hr, hp, hb⟩)

/-- R112: the tree of a pardoned home: its unsent LASER-OFF messages gone and a LASER-ON at the tail of the queue. -/
theorem TreeLine.pardoned {x : TreeLine} {tag : Nat} (h : x.queue.length < 16) :
    ((x.discardHeldLaserOff tag).dropLaserOff tag).offer (.new .laserOn tag) =
      { x with
        queue := (x.queue.filter fun m => ¬ (m.kind = .laserOff ∧ m.tag = tag ∧ m.count = 0)) ++ [⟨.laserOn, tag, 0, false⟩]
        held := x.held.filter fun m => ¬ (m.kind = .laserOff ∧ m.tag = tag) } := by
  rw [TreeLine.offer_routine _ _ (fun n src e => by cases e) rfl ((List.length_filter_le _ _).trans_lt h)]
  simp only [TreeLine.dropLaserOff, TreeLine.discardHeldLaserOff, CtlMsg.laserOffFor, CtlMsg.new, ← Bool.decide_and, ← decide_not, and_assoc]

/-- R12, R112: what PARDON does with an ISOLATED home and its tree. -/
theorem State.pardonHome_eq {s : State} {h : HomeIndex} {t : Tree} {tag : Nat} (hs : (s.home h).state = .isolated) (ht : (s.home h).tree = some t)
    (htag : (s.home h).tag = some tag) :
    s.pardonHome h =
      (s.setHome h (({ s.home h with score := 0 } : Home).toMeasuring .announcing)).onTree t fun x =>
        ((x.discardHeldLaserOff tag).dropLaserOff tag).offer (.new .laserOn tag) := by
  have hleave : s.leaveIsolated (s.home h) = s.onTree t fun y => y.discardHeldLaserOff tag := by
    simp only [State.leaveIsolated, ht, htag, hs, if_true]
  unfold State.pardonHome
  dsimp only
  rw [hleave]
  split
  case h_1 t' tag' ht' htag' =>
    obtain rfl : t = t' := Option.some.inj (ht.symm.trans ht')
    obtain rfl : tag = tag' := Option.some.inj (htag.symm.trans htag')
    change (((s.setHome h _).onTree t fun y => y.discardHeldLaserOff tag).onTree t fun y => y.dropLaserOff tag).offerCtl t _ = _
    rw [State.offerCtl, State.onTree_onTree, State.onTree_onTree]
    rfl
  case h_2 hn => exact (hn t tag ht htag).elim

/-- Settles O31: PARDON by R112's changes of the home and its tree, SET-CLASS by the capacity test on the pool with the new g. -/
theorem pardonAndSetClass : Obligations.PardonAndSetClass := by
  constructor
  · intro s c rx num args h t tag ha hroom harg hs ht htag hq
    have hf : s.heard.ranged (homeArg args) s.heard.pardon = (s.heard.pardonHome h).accept := by
      rw [State.ranged_some _ harg, State.pardon, State.heard_home, hs]
    rw [State.pardonHome_eq (s := s.heard) hs ht htag] at hf
    refine congrArg Host.Outcome.next (State.request_taken ha hroom hf rfl rfl ?_)
    simp only [State.onTree, State.setHome_tree, State.heard_tree, TreeLine.pardoned hq]
    rfl
  · intro s c rx num args h t g p ha hroom harg hs ht hg
    have hw : s.heard.poolWith (s.home h) g = (s.tree t).pool - (s.home h).g + g := by simp [State.poolWith, ht]
    have hf : s.heard.ranged (setClassArgs args) (fun a => s.heard.setClass a.1 a.2.1 a.2.2) =
        if 1200 < (s.tree t).pool - (s.home h).g + g then s.heard.refuse .capacity else ⟨s.heard.writeClass h g p, .ok, toBE 2 g ++ toBE 2 p⟩ := by
      rw [State.ranged_some _ harg, State.setClass, State.heard_home, hw]
      obtain hi | hi := hs
      · cases hst : (s.home h).state with
        | soaking | online | lost => rfl
        | _ => exact absurd hi (by rw [hst]; decide)
      · rw [hi]
    by_cases hb : (s.tree t).pool - (s.home h).g + g ≤ 1200
    · rw [if_neg (Nat.not_lt.2 hb)] at hf
      rw [if_pos hb]
      refine congrArg Host.Outcome.next (State.request_taken ha hroom hf rfl ?_ ?_)
      · simp [State.writeClass, ht]
      · simp only [State.writeClass, State.heard_home, ht, hw]
        rfl
    · rw [if_pos (Nat.not_le.1 hb)] at hf
      rw [if_neg hb]
      exact congrArg Host.Outcome.next (State.request_refused ha hroom hf rfl)

/-- Settles O38: the three queries read the state they find and are answered from it. -/
theorem queriesAnswered : Obligations.QueriesAnswered := by
  intro s c rx num args ha hroom
  refine ⟨fun h harg => ?_, fun list start harg => ?_, fun part index harg => ?_⟩
  · have hq : s.heard.ranged (homeArg args) s.heard.queryHome = s.heard.queryHome h := State.ranged_some _ harg
    have answered : ∀ status body, s.heard.queryHome h = ⟨s.heard, status, body⟩ → refuses 14 status = false →
        exec (.queryHome rx num args) s = .next { s with link := s.link.answered rx num 14 status body, out := [] } := fun status body e hr =>
      congrArg Host.Outcome.next (State.request_taken ha hroom (hq.trans e) hr rfl rfl)
    cases hst : (s.home h).state with
    | free => exact answered .absent [] (by rw [State.queryHome, State.heard_home, hst]; rfl) rfl
    | forward => exact answered .moved _ (by rw [State.queryHome, State.heard_home, hst]; rfl) rfl
    | claiming | measuring | soaking | online | lost | isolated | closing =>
      exact answered .ok _ (by rw [State.queryHome, State.heard_home, hst]) rfl
  · exact congrArg Host.Outcome.next (State.request_taken ha hroom (State.ranged_some _ harg) rfl rfl rfl)
  · refine congrArg Host.Outcome.next (State.request_taken (s' := s.heard) ha hroom ((State.ranged_some _ harg).trans ?_) rfl rfl rfl)
    have answered : ∀ u : State, u.config = some c →
        (match u.config with | none => u.refuse .notReady | some c => ⟨u, .ok, u.part c part index⟩) = ⟨u, .ok, u.part c part index⟩ := by
      intro u hu
      rw [hu]
    exact answered s.heard ha.1

/-! ### FIND -/

theorem State.holderIn_some {s : State} {id : Identity} {start count : Nat} {h : HomeIndex} (hlo : start ≤ h.val) (hhi : h.val < start + count)
    (hs : (s.home h).state ≠ .free) (hid : (s.home h).identity = some id)
    (hb : ∀ k : HomeIndex, k < h → start ≤ k.val → (s.home k).state ≠ .free → (s.home k).identity ≠ some id) :
    s.holderIn id start count = some h := by
  refine find_homeIndexes.2 ⟨by simp [hlo, hhi, hs, hid], fun k hk => ?_⟩
  have := hb k hk
  simp only [Bool.and_eq_false_iff, decide_eq_false_iff_not]
  tauto

theorem State.holderIn_none {s : State} {id : Identity} {start count : Nat}
    (hb : ∀ k : HomeIndex, start ≤ k.val → k.val < start + count → (s.home k).state ≠ .free → (s.home k).identity ≠ some id) :
    s.holderIn id start count = none := by
  refine find_homeIndexes_none.2 fun k => ?_
  have := hb k
  simp only [Bool.and_eq_false_iff, decide_eq_false_iff_not]
  tauto

/-- R21: a walk that comes to the first entry that holds the identity keeps it as it stands. -/
theorem State.examineTo_found {s : State} {id : Identity} {start n m : Nat} {h : HomeIndex} (hw : s.findWalk = ⟨n, none⟩) (hlo : start + n ≤ h.val)
    (hhi : h.val < start + m) (hs : (s.home h).state ≠ .free) (hid : (s.home h).identity = some id)
    (hb : ∀ k : HomeIndex, k < h → start + n ≤ k.val → (s.home k).state ≠ .free → (s.home k).identity ≠ some id) :
    s.examineTo id start m = ⟨m, some ⟨h, (s.home h).state, (s.home h).tree, (s.home h).forwardTo⟩⟩ := by
  have hmax : max n m = m := by omega
  simp only [State.examineTo, hw, State.holderIn_some hlo (by omega : h.val < start + n + (m - n)) hs hid hb, hmax, Option.map_some]

/-- R21: a walk that comes past no entry that holds the identity has no match. -/
theorem State.examineTo_none {s : State} {id : Identity} {start n m : Nat} (hw : s.findWalk = ⟨n, none⟩) (hn : n ≤ m)
    (hb : ∀ k : HomeIndex, start + n ≤ k.val → k.val < start + m → (s.home k).state ≠ .free → (s.home k).identity ≠ some id) :
    s.examineTo id start m = ⟨m, none⟩ := by
  have hnone : s.holderIn id (start + n) (m - n) = none := State.holderIn_none fun k h1 h2 => hb k h1 (by omega)
  simp only [State.examineTo, hw, hnone, Nat.max_eq_right hn, Option.map_none]

/-- R20: a walk that has its match examines no more. -/
theorem State.examineTo_kept {s : State} {id : Identity} {start n m : Nat} {x : FindMatch} (hw : s.findWalk = ⟨n, some x⟩) :
    s.examineTo id start m = s.findWalk := by
  simp only [State.examineTo, hw]

theorem State.exec_findWalk_progress {s : State} {st : Station} {num : BitVec 16} {id : Identity} {start count m : Nat} {rest : List WalkRequest}
    (hw : s.walks = ⟨.find st num, id, start, count⟩ :: rest) :
    exec (.findWalkComplete (.examinedTo m)) s = .next { s with findWalk := s.examineTo id start (min m count), out := [] } := by
  refine congrArg Host.Outcome.next ?_
  simp only [State.begin_walks, hw]
  rfl

/-- R22: the walk's end answers its requester with the match, or with NOT_FOUND and the next index. -/
theorem State.exec_findWalk_complete {s : State} {st : Station} {num : BitVec 16} {id : Identity} {start count : Nat} {rest : List WalkRequest}
    (hw : s.walks = ⟨.find st num, id, start, count⟩ :: rest) (hroom : s.link.roomFor false = true) {status : Status} {body : List Byte}
    (ha : findAnswer (start + count) (s.examineTo id start count).found = (status, body)) :
    exec (.findWalkComplete .asItStands) s =
      .next { s with walks := rest, findWalk := ⟨0, none⟩, link := s.link.take (responseFrame st num 15 status body), out := [] } := by
  refine congrArg Host.Outcome.next ?_
  have ha' : findAnswer (start + count) (s.begin.examineTo id start count).found = (status, body) := ha
  simp only [State.begin_walks, hw, ha', State.endWalk]
  exact (State.respond_room st num 15 status body (by exact hroom)).trans rfl

/-- Settles O39: FIND queues its walk while there is room, and the walk judges each entry once, as it stands when it comes to it. -/
theorem findWalksAndAnswers : Obligations.FindWalksAndAnswers := by
  constructor
  · intro s c rx num args id start count ha harg
    have hx : exec (.find rx num args) s = .next (s.heard.find rx num args) := congrArg Host.Outcome.next (State.request_heard num 15 true _ ha)
    refine ⟨fun hlt => ?_, fun hge hroom => ?_⟩
    · rw [hx, State.find, harg]
      have hw : s.heard.walks.length < 6 := hlt
      simp only [State.queueWalk, hw, if_true]
      rfl
    · rw [hx, State.find, harg]
      have hw : ¬ s.heard.walks.length < 6 := Nat.not_lt.2 hge
      simp only [State.queueWalk, hw, if_false]
      rw [State.conclude_refused rfl (show s.heard.addressed rx = true from ha.addressed) hroom]
      rfl
  · intro s st num id start count n rest hw
    refine ⟨fun h hf hlo hs hid hb => ⟨fun hhi hroom => ?_, fun m hm hhi => ?_⟩, fun m hf hn hm hb => ⟨?_, fun e hroom => ?_⟩,
      fun m hf => ⟨fun hroom => ?_, fun k => ?_⟩⟩
    · exact State.exec_findWalk_complete hw hroom (by rw [State.examineTo_found hf hlo hhi hs hid hb]; rfl)
    · rw [State.exec_findWalk_progress hw, Nat.min_eq_left hm, State.examineTo_found hf hlo hhi hs hid hb]
    · rw [State.exec_findWalk_progress hw, Nat.min_eq_left hm, State.examineTo_none hf hn hb]
    · subst e
      exact State.exec_findWalk_complete hw hroom (by rw [State.examineTo_none hf hn hb]; rfl)
    · exact State.exec_findWalk_complete hw hroom (by rw [State.examineTo_kept hf, hf]; rfl)
    · rw [State.exec_findWalk_progress hw, State.examineTo_kept hf]

/-! ### Period closes -/

theorem State.wakeWalk_eq (s : State) : s.wakeWalk = { s with emission := wokenWalk s.emission } := by
  unfold State.wakeWalk wokenWalk
  split <;> simp_all

/-- R153: after a swap the closed bank waits and the other is open. -/
theorem Home.swapBanks_banks (x : Home) (m : Moment) :
    (x.swapBanks m).otherBank = x.openBank.closeAt m x.pending.sum x.discarded ∧
      (x.swapBanks m).openBank = Bank.openAt m x.openBank.upResidue x.openBank.downResidue x.pending.sum (decide (x.state = .isolated)) := by
  unfold Home.swapBanks
  dsimp only
  split <;> exact ⟨rfl, rfl⟩

/-- Settles O54: the close takes its moment, every entry takes the close by its state, and the figures and the next close moment follow. -/
theorem periodCloses : Obligations.PeriodCloses := by
  intro s m rest hfired
  have hx : exec .periodClose s = .next (s.begin.periodClose m) := by
    refine congrArg Host.Outcome.next ?_
    simp only [State.begin_cal, hfired]
  have hhome : ∀ h, (s.begin.periodClose m).home h = (s.home h).atClose m := fun h => by
    rw [State.periodClose, State.onCal_home, State.wakeWalk_eq, ]
    exact State.mapHomes_home s.begin (fun _ x => x.atClose m) h
  refine ⟨_, hx, ?_, fun h => ?_⟩
  · simp only [State.periodClose, State.wakeWalk_eq, State.onCal, State.onMeter, Calendar.computeClose, State.mapHomes_cal, State.begin_cal, hfired]
    rfl
  · rw [hhome]
    refine ⟨fun hs hw => ?_, fun hs => ?_, fun hs => ?_, fun hs => ?_⟩
    · have hc : (s.home h).atClose m = (s.home h).swapBanks m := by
        cases hst : (s.home h).state <;> simp [Home.atClose, hst, hw, bankSwaps] at hs ⊢
      obtain ⟨hother, hopen⟩ := (s.home h).swapBanks_banks m
      rw [hc]
      refine ⟨hother, hopen, ?_⟩
      exact (s.home h).swapBanks_frame m
    · obtain ⟨hs, hw⟩ | hs | hs := hs
      · cases hst : (s.home h).state <;> simp [Home.atClose, hst, hw, bankSwaps] at hs ⊢ <;> rfl
      · rw [Home.atClose, hs]; rfl
      · rw [Home.atClose, hs]; rfl
    · simp only [Home.atClose, hs]
    · obtain hs | hs := hs <;> simp only [Home.atClose, hs]

end Sys2Proof.Machine
end

section
/-! SUPPORT. Requests refused by what they name or by their arguments (R10, R172), and requests sent to all stations (R173). -/

namespace Sys2Proof.Machine

/-! ### Arguments that are too short or out of range -/

theorem field_one (args : List Byte) (off : Nat) : field args off 1 = (byteAt args off).toNat := by
  have hd : (args.drop off).take 1 = (args[off]?).toList := by rw [List.take_one, List.head?_drop]
  rw [field, hd, byteAt, List.getD_eq_getElem?_getD]
  cases args[off]? <;> simp [beNat]

theorem homeArg_none {args : List Byte} (h : args.length < 1 ∨ 128 ≤ (byteAt args 0).toNat) : homeArg args = none := by
  unfold homeArg
  by_cases hl : args.length < 1
  · rw [if_pos hl]
  · rw [if_neg hl, dif_neg (Nat.not_lt.2 (h.resolve_left hl))]

theorem treeArg_none {args : List Byte} (h : args.length < 1 ∨ 4 ≤ (byteAt args 0).toNat) : treeArg args = none := by
  unfold treeArg
  by_cases hl : args.length < 1
  · rw [if_pos hl]
  · rw [if_neg hl]
    have hb := h.resolve_left hl
    generalize (byteAt args 0).toNat = n at hb
    match n with
    | n + 4 => rfl

theorem identityArg_none {args : List Byte} (h : args.length < 8) : identityArg args = none := if_pos h

theorem admitArgs_none {args : List Byte} (h : args.length < 16) : admitArgs args = none := if_pos h

theorem recordArg_none {args : List Byte} (h : args.length < 2) : recordArg args = none := if_pos h

theorem setClassArgs_none {args : List Byte} (h : args.length < 5 ∨ 128 ≤ (byteAt args 0).toNat) : setClassArgs args = none := by
  unfold setClassArgs
  by_cases hl : args.length < 5
  · rw [if_pos hl]
  · rw [if_neg hl, homeArg_none (.inr (h.resolve_left hl)), Option.map_none]

theorem timeArgs_none {args : List Byte} (h : args.length < 7 ∨ 6 < field args 6 1 ∨
    (⟨field args 0 1, field args 1 1, field args 2 1, ⟨field args 3 1, field args 4 1, field args 5 1⟩⟩ : Moment).valid = false) :
    timeArgs args = none := by
  unfold timeArgs
  by_cases hl : args.length < 7
  · exact if_pos hl
  · refine (if_neg hl).trans (if_neg ?_)
    rintro ⟨hm, hw⟩
    obtain h | h := h.resolve_left hl
    · exact absurd hw (Nat.not_le.2 h)
    · exact absurd (hm.symm.trans h) (by decide)

theorem getLsbD_seven_of_le {b : Byte} (h : 128 ≤ b.toNat) : b.getLsbD 7 = true := by
  revert b; decide

theorem bandEntryAt_none {args : List Byte} {off : Nat} (h : timeValid (timeAt args (off + 1)) = false ∨ timeValid (timeAt args (off + 4)) = false ∨
    128 ≤ (byteAt args (off + 7)).toNat ∨ 4 ≤ (byteAt args (off + 8)).toNat) : bandEntryAt args off = none := by
  unfold bandEntryAt
  dsimp only
  split
  case isFalse => rfl
  case isTrue hb =>
    refine if_neg ?_
    rintro ⟨hstart, hstop, hmask⟩
    rw [field_one] at hb
    obtain h | h | h | h := h
    · exact absurd (hstart.symm.trans h) (by decide)
    · exact absurd (hstop.symm.trans h) (by decide)
    · exact absurd (hmask.symm.trans (getLsbD_seven_of_le h)) (by decide)
    · omega

theorem tariffArgs_none {args : List Byte} (h : args.length < 36 ∨ ∃ i, i < 4 ∧ (timeValid (timeAt args (9 * i + 1)) = false ∨
    timeValid (timeAt args (9 * i + 4)) = false ∨ 128 ≤ (byteAt args (9 * i + 7)).toNat ∨ 4 ≤ (byteAt args (9 * i + 8)).toNat)) :
    tariffArgs args = none := by
  unfold tariffArgs
  by_cases hl : args.length < 36
  · rw [if_pos hl]
  · rw [if_neg hl]
    obtain ⟨i, hi, hbad⟩ := h.resolve_left hl
    have hnone : bandEntryAt args (9 * i) = none := bandEntryAt_none hbad
    split
    · rename_i h0 h1 h2 h3
      interval_cases i
      · exact absurd (h0.symm.trans hnone) (by simp)
      · exact absurd (h1.symm.trans hnone) (by simp)
      · exact absurd (h2.symm.trans hnone) (by simp)
      · exact absurd (h3.symm.trans hnone) (by simp)
    · rfl

theorem findArgs_none {args : List Byte} (h : args.length < 10 ∨ 127 < field args 8 1 ∨ field args 9 1 = 0 ∨ 128 < field args 9 1) :
    findArgs args = none := by
  unfold findArgs
  by_cases hl : args.length < 10
  · exact if_pos hl
  · exact (if_neg hl).trans (if_neg (by omega))

theorem readListsArgs_none {args : List Byte} (h : args.length < 2 ∨ 2 < field args 0 1 ∨ 31 < field args 1 1) : readListsArgs args = none := by
  unfold readListsArgs
  by_cases hl : args.length < 2
  · exact if_pos hl
  · exact (if_neg hl).trans (if_neg (by omega))

theorem queryStationArgs_none {args : List Byte}
    (h : args.length < 2 ∨ 7 < field args 0 1 ∨ 15 < field args 1 1 ∨ ((field args 0 1 = 1 ∨ field args 0 1 = 2) ∧ 3 < field args 1 1)) :
    queryStationArgs args = none := by
  unfold queryStationArgs
  by_cases hl : args.length < 2
  · exact if_pos hl
  · exact (if_neg hl).trans (if_neg (by omega))

/-! ### The owning block of a request -/

/-- What the owning block makes of a request of the kinds 1 to 13. -/
def owningBlock (kind : Nat) (rx : Rx) (args : List Byte) (s : State) : Answer :=
  match kind with
  | 1 => s.configure rx args
  | 2 => s.ranged (timeArgs args) fun (m, weekday) => ⟨s.applyTime m weekday, .ok, (s.applyTime m weekday).cal.timeBody (s.cal.isStep m)⟩
  | 3 => s.ranged (tariffArgs args) fun table => (s.onCal fun c => { c with waiting := some table }).accept
  | 4 => s.ranged (admitArgs args) fun a => s.takeAdmission rx a
  | 5 => s.ranged (identityArg args) fun id => if (s.enrol.admissionOf id).isSome then (s.onEnrol fun e => e.forget id).accept else s.refuse .notFound
  | 6 => s.ranged (identityArg args) fun id =>
      if s.enrol.isBarred id then (s.onEnrol fun e => { e with barred := e.barred.filter fun i => !decide (i = id) }).accept else s.refuse .notFound
  | 7 => s.ranged (homeArg args) s.retire
  | 8 => s.ranged (homeArg args) s.pardon
  | 9 => s.ranged (setClassArgs args) fun (h, g, p) => s.setClass h g p
  | 10 => s.ranged (treeArg args) s.searchRequest
  | 11 => s.ranged (treeArg args) s.abortRequest
  | 12 => s.ranged (treeArg args) s.stopRequest
  | 13 => s.ranged (treeArg args) s.startRequest
  | _ => s.accept

/-- A request of the kinds 2 to 13 passes the checks of R171 to R173 and is given to its owning block. -/
theorem exec_requestOf {rx : Rx} {num : BitVec 16} {args : List Byte} {k : Nat} {i : Instr} (hi : requestOf rx num args k = some i) (hlo : 2 ≤ k)
    (hhi : k ≤ 13) (s : State) :
    exec i s = .next (s.begin.request rx num (BitVec.ofNat 8 k) 0 false (State.answer rx num (BitVec.ofNat 8 k) (owningBlock k rx args))) := by
  interval_cases k <;> (obtain rfl := Option.some.inj hi; rfl)

theorem exec_configureOf {rx : Rx} {num : BitVec 16} {args : List Byte} {i : Instr} (hi : requestOf rx num args 1 = some i) (s : State) :
    exec i s = .next (s.begin.receive rx (State.answer rx num 1 (owningBlock 1 rx args))) := by
  obtain rfl := Option.some.inj hi; rfl

theorem toBE_two_inj {a b : BitVec 16} (h : toBE 2 a.toNat = toBE 2 b.toNat) : a = b := by
  simp only [toBE, List.cons.injEq, pow_one, pow_zero, Nat.div_one, and_true] at h
  obtain ⟨hhi, hlo⟩ := h
  bv_omega

theorem payload_inj {a b : BitVec 16} {j k : Byte} {xs ys : List Byte} (h : toBE 2 a.toNat ++ j :: xs = toBE 2 b.toNat ++ k :: ys) :
    a = b ∧ j = k ∧ xs = ys := by
  obtain ⟨hn, hrest⟩ := List.append_inj h (by simp [toBE])
  simp only [List.cons.injEq] at hrest
  exact ⟨toBE_two_inj hn, hrest⟩

/-- A well-formed command whose line frame is a request of a known kind is the request that kind names (12.3). -/
theorem requestOf_of_lineParts {i : Instr} {rx : Rx} {num : BitVec 16} {kind : Byte} {args : List Byte} (hw : i.wellFormed = true)
    (h : i.lineParts = some (rx, 6, toBE 2 num.toNat ++ kind :: args)) (hlo : 1 ≤ kind.toNat) (hhi : kind.toNat ≤ 19) :
    requestOf rx num args kind.toNat = some i := by
  cases i with
  | configure r n a | time r n a | tariff r n a | admitHome r n a | withdraw r n a | unbar r n a | retire r n a | pardon r n a | setClass r n a
  | search r n a | abortSearch r n a | stopTree r n a | startTree r n a | queryHome r n a | find r n a | readLists r n a | queryStation r n a
  | collect r n a | releaseRecord r n a =>
    simp only [Instr.lineParts, Option.some.injEq, Prod.mk.injEq, true_and] at h
    obtain ⟨rfl, hp⟩ := h
    obtain ⟨rfl, rfl, rfl⟩ := payload_inj hp
    rfl
  | unknownClass r c p =>
    simp only [Instr.lineParts, Option.some.injEq, Prod.mk.injEq] at h
    obtain ⟨-, rfl, -⟩ := h
    simp [Instr.wellFormed, unknownClassCode] at hw
  | unknownRequestKind r p =>
    simp only [Instr.lineParts, Option.some.injEq, Prod.mk.injEq, true_and] at h
    obtain ⟨-, rfl⟩ := h
    simp only [Instr.wellFormed, unknownKind, requestKindByte, toBE, List.cons_append, List.nil_append, List.getElem?_cons_succ,
      List.getElem?_cons_zero, Bool.and_eq_true, Bool.or_eq_true, decide_eq_true_eq] at hw
    omega
  | _ => simp [Instr.lineParts] at h

/-! ### The link controller while a block acts -/

/-- The RESPONSE frames of the transmit queue. -/
def Link.responses (l : Link) : List Frame := l.frames.filter fun f => f.content.classCode = 7

theorem Link.responses_choose {l : Link} (h : l.current = none ∨ l.phase ≠ .idle) : l.choose.responses = l.responses := by
  rw [Link.responses, Link.choose_frames l h, Link.responses]

theorem insertFrame_responses {f : Frame} (hf : f.content.classCode ≠ 7) (xs : List Frame) :
    (insertFrame f xs).filter (fun g => g.content.classCode = 7) = xs.filter fun g => g.content.classCode = 7 := by
  have hf7 : decide (f.content.classCode = 7) = false := decide_eq_false hf
  induction xs with
  | nil => simp only [insertFrame, List.filter_cons_of_neg, hf7, Bool.false_eq_true, not_false_eq_true]
  | cons x xs ih =>
    simp only [insertFrame]
    split
    · simp only [List.filter_cons_of_neg, hf7, Bool.false_eq_true, not_false_eq_true]
    · simp only [List.filter_cons, ih]

/-- A frame of another class joins the queue and leaves its RESPONSE frames. -/
theorem Link.responses_take {l : Link} {f : Frame} (hf : f.content.classCode ≠ 7) (h : l.current = none ∨ l.phase ≠ .idle) :
    (l.take f).responses = l.responses := by
  rw [Link.take, Link.responses_choose (by exact h)]
  simp only [Link.responses, Link.frames, List.filter_append, insertFrame_responses hf]

theorem Link.responses_offerUrgent {l : Link} {f : Frame} (hf : f.content.classCode ≠ 7) (h : l.current = none ∨ l.phase ≠ .idle) :
    (l.offerUrgent f).responses = l.responses := by
  unfold Link.offerUrgent
  split
  · exact Link.responses_take hf h
  · dsimp only
    split <;> rfl

theorem Link.sound.chooses {l : Link} (h : l.sound) : l.current = none ∨ l.phase ≠ .idle := by
  obtain ⟨-, -, -, hcur, -⟩ := h
  by_cases hp : l.phase = .idle
  · exact .inl (hcur.2 hp)
  · exact .inr hp

/-- The block leaves the link controller, or offers it one event. -/
def State.Speaks (s s' : State) : Prop := s'.link = s.link ∨ ∃ e, s'.link = s.link.offerUrgent ⟨toAll, .event e, false⟩

theorem State.Speaks.silent {s s' : State} (h : s'.link = s.link) : s.Speaks s' := .inl h

theorem State.Speaks.responses {s s' : State} (h : s.Speaks s') (hl : s.link.sound) : s'.link.responses = s.link.responses := by
  obtain h | ⟨e, h⟩ := h
  · rw [h]
  · rw [h]; exact Link.responses_offerUrgent (by simp [Content.classCode]) hl.chooses

theorem foldl_link {α : Type} {f : State → α → State} (hf : ∀ s a, (f s a).link = s.link) (xs : List α) (s : State) :
    (xs.foldl f s).link = s.link := by
  induction xs generalizing s with
  | nil => rfl
  | cons a xs ih => exact (ih _).trans (hf s a)

theorem State.leavePool_link (s : State) (x : Home) : (s.leavePool x).link = s.link := by
  unfold State.leavePool
  split
  · split <;> rfl
  · rfl

theorem State.drainTag_link (s : State) (x : Home) : (s.drainTag x).link = s.link := by
  unfold State.drainTag
  split <;> rfl

theorem State.leaveIsolated_link (s : State) (x : Home) : (s.leaveIsolated x).link = s.link := by
  unfold State.leaveIsolated
  split
  · split <;> rfl
  · rfl

theorem State.freeEntry_link (s : State) (h : HomeIndex) : (s.freeEntry h).link = s.link :=
  (State.drainTag_link _ _).trans (State.leavePool_link _ _)

theorem State.closeEntry_link (s : State) (h : HomeIndex) (r : LeaveReason) (f : Option Station) : (s.closeEntry h r f).link = s.link := by
  rw [State.closeEntry, State.wakeWalk_eq]
  exact (State.drainTag_link _ _).trans ((State.leavePool_link _ _).trans (State.leaveIsolated_link _ _))

theorem State.pardonHome_link (s : State) (h : HomeIndex) : (s.pardonHome h).link = s.link := by
  have hl := s.leaveIsolated_link (s.home h)
  unfold State.pardonHome
  dsimp only
  split <;> exact hl

theorem State.writeClass_link (s : State) (h : HomeIndex) (g p : Nat) : (s.writeClass h g p).link = s.link := by
  unfold State.writeClass
  dsimp only
  split <;> rfl

theorem State.commandCandidate_link (s : State) (t : Tree) (target : List Nat) (place : Candidate × Nat) :
    (s.commandCandidate t target place).link = s.link := by
  unfold State.commandCandidate
  dsimp only
  split
  · split
    · rfl
    · split
      · rfl
      · split <;> rfl
  · rfl

theorem State.startSearch_link (s : State) (t : Tree) (c : SearchCause) : (s.startSearch t c).link = s.link :=
  foldl_link (fun u p => State.commandCandidate_link u t _ p) _ _

theorem State.endSilence_link (t : Tree) (s : State) (h : HomeIndex) : (State.endSilence t s h).link = s.link := by
  unfold State.endSilence
  dsimp only
  split
  · split <;> rfl
  · rfl

theorem State.endSearch_speaks (s : State) (t : Tree) (o : SearchOutcome) (r : SearchReason) : s.Speaks (s.endSearch t o r) := by
  have hloop := foldl_link (State.endSilence_link t) homeIndexes (s.onTree t TreeLine.forgetAwaited)
  unfold State.endSearch
  dsimp only
  generalize homeIndexes.foldl (State.endSilence t) (s.onTree t TreeLine.forgetAwaited) = u at hloop
  exact .inr ⟨_, congrArg (Link.offerUrgent · _) hloop⟩

theorem State.stopTree_speaks (s : State) (t : Tree) : s.Speaks (s.stopTree t) := by
  unfold State.stopTree State.Speaks
  rw [State.mapHomes_link, State.onTree_link]
  split
  · exact s.endSearch_speaks t .aborted .stop
  · exact .inl rfl

theorem State.assignAgain_link (t : Tree) (s : State) (h : HomeIndex) : (State.assignAgain t s h).link = s.link := by
  unfold State.assignAgain
  dsimp only
  split
  · split
    · split <;> rfl
    · rfl
  · rfl

theorem State.laserOffAgain_link (t : Tree) (s : State) (h : HomeIndex) : (State.laserOffAgain t s h).link = s.link := by
  unfold State.laserOffAgain
  dsimp only
  split
  · split <;> rfl
  · rfl

theorem State.startTree_link (s : State) (c : Config) (t : Tree) : (s.startTree c t).link = s.link := by
  rw [State.startTree, foldl_link (State.laserOffAgain_link t), foldl_link (State.assignAgain_link t), State.mapHomes_link, State.onTree_link]

theorem State.applyConfig_link (s : State) (c : Config) : (s.applyConfig c).link = s.link := by
  unfold State.applyConfig
  rw [foldl_link (f := fun s t => s.onTree t fun x => x.start c) fun s t => State.onTree_link s t _]

theorem State.applyTime_link (s : State) (m : Moment) (w : Nat) : (s.applyTime m w).link = s.link := by
  unfold State.applyTime
  dsimp only
  split <;> rfl

theorem State.takeAdmission_link (s : State) (rx : Rx) (a : Admission) : (s.takeAdmission rx a).state.link = s.link := by
  unfold State.takeAdmission
  split
  · rfl
  · split <;> rfl

theorem State.retire_link (s : State) (h : HomeIndex) : (s.retire h).state.link = s.link := by
  unfold State.retire
  split
  case h_2 => exact s.freeEntry_link h
  case h_6 | h_7 | h_8 | h_9 => exact s.closeEntry_link h _ _
  all_goals rfl

theorem State.pardon_link (s : State) (h : HomeIndex) : (s.pardon h).state.link = s.link := by
  unfold State.pardon
  split
  case h_9 => exact s.pardonHome_link h
  all_goals rfl

theorem State.setClass_link (s : State) (h : HomeIndex) (g p : Nat) : (s.setClass h g p).state.link = s.link := by
  unfold State.setClass
  split
  case h_6 | h_7 | h_8 | h_9 =>
    split
    · rfl
    · exact s.writeClass_link h g p
  all_goals rfl

theorem State.Speaks.ranged {α : Type} {s : State} {read : Option α} {f : α → Answer} (h : ∀ a, s.Speaks (f a).state) :
    s.Speaks (s.ranged read f).state := by
  unfold State.ranged
  split
  · exact .silent rfl
  · exact h _

/-- No owning block of the kinds 1 to 13 puts a RESPONSE into the queue: the answer does (R173). -/
theorem owningBlock_speaks (k : Nat) (rx : Rx) (args : List Byte) (s : State) : s.Speaks (owningBlock k rx args s).state := by
  unfold owningBlock
  split
  · rw [State.configure]
    split
    · exact .silent rfl
    · refine .ranged fun c => ?_
      split
      · exact .silent rfl
      · exact .silent (s.applyConfig_link c)
  · exact .ranged fun a => .silent (s.applyTime_link a.1 a.2)
  · exact .ranged fun _ => .silent rfl
  · exact .ranged fun a => .silent (s.takeAdmission_link rx a)
  · refine .ranged fun _ => ?_
    split <;> exact .silent rfl
  · refine .ranged fun _ => ?_
    split <;> exact .silent rfl
  · exact .ranged fun h => .silent (s.retire_link h)
  · exact .ranged fun h => .silent (s.pardon_link h)
  · exact .ranged fun a => .silent (s.setClass_link a.1 a.2.1 a.2.2)
  · refine .ranged fun t => ?_
    rw [State.searchRequest]
    split
    · exact .silent rfl
    · split
      · exact .silent rfl
      · exact .silent (s.startSearch_link t .request)
  · refine .ranged fun t => ?_
    rw [State.abortRequest]
    split
    · exact .silent rfl
    · exact s.endSearch_speaks t .aborted .request
  · refine .ranged fun t => ?_
    rw [State.stopRequest]
    split
    · exact s.stopTree_speaks t
    · exact .silent rfl
  · refine .ranged fun t => ?_
    rw [State.startRequest]
    split
    · exact .silent rfl
    · split
      · exact .silent rfl
      · exact .silent (by rw [State.accept_state, State.startTree_link])
  · exact .silent rfl

/-- An owning block looks at the source of its request alone, but for an ADMIT that finds the list full (R52). -/
theorem owningBlock_dest {k : Nat} {s : State} (src : Station) (d e : Byte) (args : List Byte) (hk : k = 4 → s.enrol.admission.length < 32) :
    owningBlock k ⟨d, src⟩ args s = owningBlock k ⟨e, src⟩ args s := by
  unfold owningBlock
  split
  case h_4 =>
    refine congrArg (State.ranged s (admitArgs args)) (funext fun a => ?_)
    have hsome : s.enrol.admitEntry a ≠ none := by
      unfold Enrollment.admitEntry
      split
      · simp
      · simp [hk rfl]
    unfold State.takeAdmission
    split
    · rfl
    · rename_i hn; exact absurd hn hsome
  all_goals rfl

/-! ### One request addressed and sent to all -/

/-- What R173 asks of a request addressed (`i`) and the same request sent to all (`j`): they act alike but for the link controller, and the second queues no RESPONSE. -/
def State.ActAlike (s : State) (i j : Instr) : Prop :=
  ∃ s₁ s₂ : State, exec i s = .next s₁ ∧ exec j s = .next s₂ ∧ s₂ = { s₁ with link := s₂.link } ∧ s₂.link.responses = s.link.responses

/-- The outcome of a request sent to all is the outcome of the addressed one without its answer. -/
theorem State.conclude_unaddressed {s : State} {me all : Rx} {num : BitVec 16} {kind : Byte} (a : Answer) (hall : s.addressed all = false) :
    s.conclude all num kind a = { s.conclude me num kind a with link := (s.conclude all num kind a).link } ∧
      (s.conclude all num kind a).link.responses = a.state.link.responses := by
  unfold State.conclude
  rw [hall]
  cases refuses kind a.status <;> cases s.addressed me <;> exact ⟨rfl, rfl⟩

/-- In RUN a request whose effect is not its answer is refused RANK, or is concluded with what its owning block makes of it. -/
theorem State.request_run {s : State} {rx : Rx} {c : Config} {top : Nat} (num : BitVec 16) (kind : Byte) (f : State → Answer) (hc : s.config = some c)
    (hh : s.hears rx = true) :
    s.begin.request rx num kind top false (State.answer rx num kind f) =
      s.heard.conclude rx num kind (if top < (c.ranks[rx.src]).val then s.heard.refuse .rank else f s.heard) := by
  have hr : s.begin.countReceived.rankOf rx.src = some c.ranks[rx.src] := State.rankOf_run (s := s) hc rx.src
  rw [State.request, State.receive_heard (s := s.begin) _ hh]
  simp only [hr, Bool.false_and, Bool.false_eq_true, if_false]
  split <;> rfl

theorem actAlike_of_conclude {s : State} {i j : Instr} {me all : Rx} {num : BitVec 16} {kind : Byte} {a : Answer}
    (hi : exec i s = .next (s.heard.conclude me num kind a)) (hj : exec j s = .next (s.heard.conclude all num kind a))
    (hall : s.addressed all = false) (ha : s.heard.Speaks a.state) (hl : s.link.sound) : s.ActAlike i j := by
  obtain ⟨hsame, hresp⟩ := State.conclude_unaddressed (s := s.heard) (me := me) (num := num) (kind := kind) a hall
  exact ⟨_, _, hi, hj, hsame, hresp.trans (ha.responses (s := s.heard) hl)⟩

/-- R173: a request of the kinds 1 to 13 acts alike whether it is addressed or sent to all. -/
theorem requests_actAlike {s : State} {i j : Instr} {src : Station} {num : BitVec 16} {k : Nat} {args : List Byte}
    (hi : requestOf ⟨toStation s.own, src⟩ num args k = some i) (hj : requestOf ⟨31, src⟩ num args k = some j) (hlo : 1 ≤ k) (hhi : k ≤ 13)
    (hsrc : src ≠ s.own) (hl : s.link.sound) (hrun : s.config.isSome = true ∨ k = 1) (hk : k = 4 → s.enrol.admission.length < 32) :
    s.ActAlike i j := by
  have hblock := owningBlock_dest (s := s.heard) src 31 (toStation s.own) args hk
  have hspeaks := owningBlock_speaks k ⟨toStation s.own, src⟩ args s.heard
  have hme : s.hears ⟨toStation s.own, src⟩ = true := (s.hears_iff _).2 ⟨hsrc, .inl rfl⟩
  have hears : s.hears ⟨31, src⟩ = true := (s.hears_iff _).2 ⟨hsrc, .inr rfl⟩
  have hall : s.addressed ⟨31, src⟩ = false := State.not_addressed_of_all rfl
  by_cases h1 : k = 1
  · subst h1
    refine actAlike_of_conclude (me := ⟨toStation s.own, src⟩) (num := num) (kind := 1) (a := owningBlock 1 ⟨toStation s.own, src⟩ args s.heard) ?_ ?_ hall hspeaks hl
    · rw [exec_configureOf hi, State.receive_heard (s := s.begin) _ hme]; rfl
    · rw [exec_configureOf hj, State.receive_heard (s := s.begin) _ hears, ← hblock]; rfl
  · obtain ⟨c, hc⟩ := Option.isSome_iff_exists.1 (hrun.resolve_right h1)
    refine actAlike_of_conclude (me := ⟨toStation s.own, src⟩) (num := num) (kind := BitVec.ofNat 8 k)
      (a := if 0 < (c.ranks[src]).val then s.heard.refuse .rank else owningBlock k ⟨toStation s.own, src⟩ args s.heard) ?_ ?_ hall ?_ hl
    · rw [exec_requestOf hi (by omega) hhi, State.request_run _ _ _ hc hme]
    · rw [exec_requestOf hj (by omega) hhi, State.request_run _ _ _ hc hears, ← hblock]
    · split
      · exact .silent rfl
      · exact hspeaks

/-! ### Refusals -/

theorem State.configure_run {s : State} {c c' : Config} {rx : Rx} {args : List Byte} (hc : s.config = some c) (hm : rx.src = s.mgt)
    (harg : configArgs args s.mgt = some c') : s.configure rx args = s.refuse .state := by
  have hin : s.inRun = true := by rw [State.inRun, hc]; rfl
  rw [State.configure, if_neg (not_not.2 hm), State.ranged_some _ harg, if_pos hin]

/-- Settles O32: each refusal leaves the counted and answered link alone, and the two forms of a request go through one owning block. -/
theorem refusedByStateOrSentToAll : Obligations.RefusedByStateOrSentToAll := by
  refine ⟨fun s c rx num args ha hroom => ?_, fun s c rx num args ha hroom => ?_, fun s i j src num kind args hwi hwj hi hj hlo hhi hsrc hl hrun hk => ?_,
    fun s c src num args a hc hsrc hrank harg hnew hfull => ?_⟩
  · have refused : ∀ {kind : Byte} {f : State → Answer} {status : Status} {body : List Byte}, f s.heard = ⟨s.heard, status, body⟩ →
        refuses kind status = true → Host.Outcome.next (s.begin.request rx num kind 0 false (State.answer rx num kind f)) =
          (.next { s with link := s.link.received.refused.take (responseFrame rx.src num kind status body), out := [] } :
            Host.Outcome State Fault Refusal) := fun hf hr => congrArg Host.Outcome.next (State.request_refused ha hroom hf hr)
    refine ⟨fun h harg => ?_, fun h g p harg => ?_, fun h => ?_, fun h => ?_, fun h => ?_, fun h => ?_, fun h => ?_, fun h => ?_, fun h => ?_,
      fun t harg hs => ?_, fun c' hm harg => ?_⟩
    · have hret : s.heard.ranged (homeArg args) s.heard.retire = s.heard.retire h := State.ranged_some _ harg
      have hpar : s.heard.ranged (homeArg args) s.heard.pardon = s.heard.pardon h := State.ranged_some _ harg
      refine ⟨fun hs => ⟨refused (hret.trans ?_) rfl, refused (hpar.trans ?_) rfl⟩, fun hs => ⟨refused (hret.trans ?_) rfl, refused (hpar.trans ?_) rfl⟩,
        fun hs => ⟨?_, ?_⟩, fun hs => refused (hpar.trans ?_) rfl, fun hs => refused (hpar.trans ?_) rfl⟩
      · rw [State.retire, State.heard_home, hs]; rfl
      · rw [State.pardon, State.heard_home, hs]; rfl
      · rw [State.retire, State.heard_home, hs]; rfl
      · rw [State.pardon, State.heard_home, hs]; rfl
      · refine refused (hret.trans ?_) rfl
        obtain hs | hs := hs <;> (rw [State.retire, State.heard_home, hs]; rfl)
      · refine refused (hpar.trans ?_) rfl
        obtain hs | hs := hs <;> (rw [State.pardon, State.heard_home, hs]; rfl)
      · rw [State.pardon, State.heard_home, hs]; rfl
      · rw [State.pardon, State.heard_home]
        cases hst : (s.home h).state with
        | soaking | online | lost => rfl
        | _ => exact absurd hs (by rw [hst]; decide)
    · have hset : s.heard.ranged (setClassArgs args) (fun a => s.heard.setClass a.1 a.2.1 a.2.2) = s.heard.setClass h g p := State.ranged_some _ harg
      refine ⟨fun hs => refused (hset.trans ?_) rfl, fun hs => refused (hset.trans ?_) rfl, fun hs => refused (hset.trans ?_) rfl,
        fun hs => refused (hset.trans ?_) rfl⟩
      · rw [State.setClass, State.heard_home, hs]; rfl
      · rw [State.setClass, State.heard_home, hs]; rfl
      · rw [State.setClass, State.heard_home, hs]; rfl
      · obtain hs | hs := hs <;> (rw [State.setClass, State.heard_home, hs]; rfl)
    · exact ⟨refused (State.ranged_none _ (homeArg_none h)) rfl, refused (State.ranged_none _ (homeArg_none h)) rfl⟩
    · exact refused (State.ranged_none _ (setClassArgs_none h)) rfl
    · exact refused (State.ranged_none _ (timeArgs_none h)) rfl
    · exact refused (State.ranged_none _ (tariffArgs_none h)) rfl
    · exact refused (State.ranged_none _ (admitArgs_none h)) rfl
    · exact ⟨refused (State.ranged_none _ (identityArg_none h)) rfl, refused (State.ranged_none _ (identityArg_none h)) rfl⟩
    · exact ⟨refused (State.ranged_none _ (treeArg_none h)) rfl, refused (State.ranged_none _ (treeArg_none h)) rfl,
        refused (State.ranged_none _ (treeArg_none h)) rfl, refused (State.ranged_none _ (treeArg_none h)) rfl⟩
    · refine refused (f := fun s => s.ranged (treeArg args) s.abortRequest) ((State.ranged_some _ harg).trans ?_) rfl
      rw [State.abortRequest, State.heard_tree, hs]; rfl
    · refine congrArg Host.Outcome.next ((State.receive_heard _ (show s.begin.hears rx = true from ha.2.1.hears)).trans ?_)
      have hconf := State.configure_run (s := s.heard) ha.1 hm harg
      exact (congrArg (State.conclude s.heard rx num 1) hconf).trans
        (State.conclude_refused (s := s.heard) (a := s.heard.refuse .state) rfl ha.addressed hroom)
  · have refused : ∀ {kind : Byte} {f : State → Answer}, f s.heard = s.heard.refuse .range →
        Host.Outcome.next (s.begin.request rx num kind 1 true (State.answer rx num kind f)) =
          (.next { s with link := s.link.received.refused.take (responseFrame rx.src num kind .range []), out := [] } :
            Host.Outcome State Fault Refusal) := fun hf => congrArg Host.Outcome.next (State.request_refused ha hroom hf rfl)
    refine ⟨fun h => refused (State.ranged_none _ (homeArg_none h)), fun h => ?_, fun h => refused (State.ranged_none _ (readListsArgs_none h)),
      fun h => refused (State.ranged_none _ (queryStationArgs_none h)), fun h => refused (State.ranged_none _ (recordArg_none h))⟩
    refine congrArg Host.Outcome.next ((State.request_heard num 15 true _ ha).trans ?_)
    rw [State.find, findArgs_none h]
    exact State.conclude_refused (s := s.heard) (a := s.heard.refuse .range) rfl ha.addressed hroom
  · refine requests_actAlike (requestOf_of_lineParts hwi hi hlo (by omega)) (requestOf_of_lineParts hwj hj hlo (by omega)) hlo hhi hsrc hl
      (hrun.imp id fun e => ?_) fun e => hk ?_
    · rw [e]; rfl
    · exact BitVec.eq_of_toNat_eq e
  · have hall : s.heard.addressed ⟨31, src⟩ = false := State.not_addressed_of_all rfl
    have hlist : s.heard.enrol.admitEntry a = none := by
      have hnone : s.enrol.admissionOf a.identity = none := by
        simpa [Enrollment.admissionOf] using hnew
      rw [Enrollment.admitEntry]
      simp only [show s.heard.enrol = s.enrol from rfl, hnone, Option.isSome_none, Bool.false_eq_true, if_false, Nat.not_lt.2 hfull]
    have hblock : s.heard.ranged (admitArgs args) (fun a => s.heard.takeAdmission ⟨31, src⟩ a) =
        (s.heard.onEnrol fun e => { e with droppedAdmissions := bump e.droppedAdmissions }).accept := by
      rw [State.ranged_some _ harg, State.takeAdmission, hlist, hall]
      rfl
    have hears : s.hears ⟨31, src⟩ = true := (s.hears_iff _).2 ⟨hsrc, .inr rfl⟩
    refine congrArg Host.Outcome.next ((State.request_run num 4 _ hc hears).trans ?_)
    rw [if_neg (by simp [hrank])]
    dsimp only
    rw [hblock, State.conclude, hall]
    rfl

end Sys2Proof.Machine
end

section
/-! SUPPORT. A capture check's result (R48 to R51, Table 3-3). -/

namespace Sys2Proof.Machine

/-- R6: a free tag below which none is free is the lowest free one. -/
theorem TreeLine.lowestFree_eq {x : TreeLine} {tag : Nat} (h : x.place tag = some .free) (hb : ∀ j, 1 ≤ j → j < tag → x.place j ≠ some .free) :
    x.lowestFree = some tag := by
  obtain ⟨i, hi, hp⟩ := Option.map_eq_some_iff.1 h
  obtain rfl := tagIndex_val hi
  refine Option.map_eq_some_iff.2 ⟨i.val, List.findIdx?_eq_some_iff_getElem.2 ⟨by simp, by simpa using hp, fun j hj => ?_⟩, rfl⟩
  have hlt : j < 62 := hj.trans i.isLt
  have hne := hb (j + 1) (by omega) (by omega)
  simpa [TreeLine.place, tagIndex, hlt] using hne

/-- R6, R28: a tag drained: its place is draining, the routine messages kept for it are gone, and its DROP is queued or kept. -/
theorem TreeLine.drain_eq (x : TreeLine) (tag : Nat) :
    x.drain tag =
      { x with
        tags := (x.setPlace tag .draining).tags
        queue := x.queue ++ (if x.queue.length < 16 then [⟨.drop, tag, 0, false⟩] else [])
        held := (x.held.filter fun m => m.kind = .drop ∨ m.urgent = true ∨ m.tag ≠ tag) ++ (if x.queue.length < 16 then [] else [⟨.drop, tag, 0, false⟩]) } := by
  have hheld : ∀ m : CtlMsg, (m.isDrop || m.urgent || !decide (m.tag = tag)) = decide (m.kind = .drop ∨ m.urgent = true ∨ m.tag ≠ tag) := fun m => by
    rw [Bool.eq_iff_iff]
    simp [CtlMsg.isDrop, or_assoc]
  have hqueue : ∀ q : List CtlMsg, insertCtl (.new .drop tag) q = q ++ [⟨.drop, tag, 0, false⟩] := fun q => by
    induction q with
    | nil => rfl
    | cons y ys ih => simp [insertCtl, CtlMsg.urgent, CtlMsg.new, CtlKind.urgent, ← ih]
  unfold TreeLine.drain
  rw [TreeLine.setPlace_frame]
  simp only [hheld, TreeLine.offer, CtlMsg.new, TreeLine.place16]
  by_cases hr : x.queue.length < 16
  · simp only [hr, if_true, List.append_nil]
    exact congrArg (fun q => ({ x with tags := _, queue := q, held := _ } : TreeLine)) (hqueue x.queue)
  · simp only [hr, if_false, List.append_nil, CtlMsg.urgent, CtlKind.urgent, Bool.false_eq_true, TreeLine.keep]

theorem TreeLine.drain_keeps (x : TreeLine) (tag : Nat) :
    x.drain tag = { x with tags := (x.drain tag).tags, queue := (x.drain tag).queue, held := (x.drain tag).held } := by
  rw [TreeLine.drain_eq]

theorem TreeLine.drain_tagDrained {x : TreeLine} {tag : Nat} {p : TagPlace} (hp : x.place tag = some p) : TagDrained x (x.drain tag) tag := by
  rw [TreeLine.drain_eq]
  refine ⟨fun k => ?_, rfl, rfl⟩
  refine (x.setPlace_place tag k .draining).trans ?_
  split
  · rename_i e; rw [e, hp]; rfl
  · rfl

/-- The tree a home moves to: its pool takes g, the tag is the home's, and its TAG-ASSIGN is queued (R6, R8, R49). -/
theorem TreeLine.rejoined_tree (x : TreeLine) {tag g : Nat} {h : HomeIndex} (id : Identity) (hf : x.place tag = some .free) (hq : x.queue.length < 16) :
    let y := (({ x with pool := x.pool + g } : TreeLine).setPlace tag (.held h)).offer (.new (.tagAssign id) tag)
    y = { x with tags := y.tags, queue := x.queue ++ [⟨.tagAssign id, tag, 0, false⟩], pool := x.pool + g } ∧
      ∀ k, y.place k = if k = tag then some (.held h) else x.place k := by
  intro y
  have hset := ({ x with pool := x.pool + g } : TreeLine).setPlace_frame tag (.held h)
  have hlen : (({ x with pool := x.pool + g } : TreeLine).setPlace tag (.held h)).queue.length < 16 := by rw [hset]; exact hq
  have hy : y = { ({ x with pool := x.pool + g } : TreeLine).setPlace tag (.held h) with
      queue := (({ x with pool := x.pool + g } : TreeLine).setPlace tag (.held h)).queue ++ [⟨.tagAssign id, tag, 0, false⟩] } :=
    TreeLine.offer_routine _ _ (fun n src e => by cases e) rfl hlen
  refine ⟨?_, fun k => ?_⟩
  · rw [hy, hset]
  · rw [hy]
    refine (TreeLine.setPlace_place { x with pool := x.pool + g } tag k (.held h)).trans ?_
    have hplace : ({ x with pool := x.pool + g } : TreeLine).place k = x.place k := rfl
    rw [hplace]
    split
    · rename_i e; rw [e, hf]; rfl
    · rfl

/-! ### The walk ends and its result is acted on -/

/-- The state in which a completed walk's result is acted on, the requests behind it left (R20). -/
def State.walked (s : State) (rest : List WalkRequest) : State := { s with walks := rest, out := [] }

@[simp] theorem State.walked_home (s : State) (rest : List WalkRequest) (h : HomeIndex) : (s.walked rest).home h = s.home h := rfl
@[simp] theorem State.walked_enrol (s : State) (rest : List WalkRequest) : (s.walked rest).enrol = s.enrol := rfl
@[simp] theorem State.walked_link (s : State) (rest : List WalkRequest) : (s.walked rest).link = s.link := rfl

theorem exec_captureCheck {s : State} {t : Tree} {id : Identity} {start count : Nat} {rest : List WalkRequest}
    (hw : s.walks = ⟨.capture t, id, start, count⟩ :: rest) : exec .captureCheckComplete s = .next ((s.walked rest).actCapture t id) := by
  refine congrArg Host.Outcome.next ?_
  simp only [State.begin_walks, hw, State.endWalk]
  rfl

theorem State.actCapture_unheld {s : State} {id : Identity} (t : Tree) (h : s.holder id = none) : s.actCapture t id = s.admitCapture t id := by
  rw [State.actCapture, h]

/-- R51: an identity that is not barred goes on to its admission. -/
theorem State.admitCapture_of {s : State} {id : Identity} (t : Tree) (hb : id ∉ s.enrol.barred) :
    s.admitCapture t id =
      match s.enrol.admissionOf id with
      | none => s.noteUnknown id t .notAdmitted
      | some a =>
        match s.lowestFreeEntry with
        | none => s.noteUnknown id t .tableFull
        | some h =>
          if !s.tagTest t then s.noteUnknown id t .tagsFull
          else if !s.poolTest t a.g then s.noteUnknown id t .capacity
          else ((s.setHome h (Home.claiming a t)).poolAdd t a.g).offerClaim h := by
  have hbar : s.enrol.isBarred id = false := by simpa [Enrollment.isBarred] using hb
  rw [State.admitCapture, hbar]
  rfl

theorem State.admitCapture_admitted {s : State} {id : Identity} {a : Admission} {h : HomeIndex} (t : Tree) (hb : id ∉ s.enrol.barred)
    (ha : s.enrol.admissionOf id = some a) (hf : s.lowestFreeEntry = some h) :
    s.admitCapture t id =
      if !s.tagTest t then s.noteUnknown id t .tagsFull
      else if !s.poolTest t a.g then s.noteUnknown id t .capacity
      else ((s.setHome h (Home.claiming a t)).poolAdd t a.g).offerClaim h := by
  rw [State.admitCapture_of t hb, ha]
  simp only [hf]

/-- R51, R55: the CLAIM of a new entry joins the queue, or is kept while there is no room. -/
theorem State.claim_offered (s : State) (h : HomeIndex) (a : Admission) (t : Tree) :
    ((s.setHome h (Home.claiming a t)).poolAdd t a.g).offerClaim h =
      if s.link.roomFor false then
        { (s.setHome h (Home.claiming a t)).poolAdd t a.g with link := s.link.take ⟨31, .claim a.identity t h, false⟩ }
      else (s.setHome h { Home.claiming a t with claim := some ⟨1, 100, 0, 1, false⟩ }).poolAdd t a.g := by
  have hx : ((s.setHome h (Home.claiming a t)).poolAdd t a.g).home h = Home.claiming a t := by simp [State.poolAdd]
  have hset : ∀ y, ((s.setHome h (Home.claiming a t)).poolAdd t a.g).setHome h y = (s.setHome h y).poolAdd t a.g := fun y => by
    simp [State.setHome, State.poolAdd, State.onTree, State.setTree, Vector.set_set, State.tree]
  have hoffer : ((s.setHome h (Home.claiming a t)).poolAdd t a.g).offerClaim h =
      if s.link.roomFor false then
        { (s.setHome h (Home.claiming a t)).poolAdd t a.g with link := s.link.take ⟨31, .claim a.identity t h, false⟩ }
      else ((s.setHome h (Home.claiming a t)).poolAdd t a.g).setHome h { Home.claiming a t with claim := some ⟨1, 100, 0, 1, false⟩ } := by
    rw [State.offerClaim]
    simp only [State.onHome, hx]
    rfl
  rw [hoffer, hset]

/-- R49: a home in service captured on its own tree. -/
theorem State.actCapture_rejoin {s : State} {id : Identity} {h : HomeIndex} {t : Tree} (hh : s.holder id = some h)
    (hs : inService (s.home h).state = true) (ht : (s.home h).tree = some t) : s.actCapture t id = s.rejoin h t id := by
  rw [State.actCapture, hh]
  cases hst : (s.home h).state with
  | soaking | online | lost => simp only [hst, ht, decide_true, if_true]
  | _ => exact absurd hs (by rw [hst]; decide)

theorem State.rejoin_eq {s : State} {h : HomeIndex} {t : Tree} {tag : Nat} (id : Identity) (htag : (s.home h).tag = some tag)
    (hq : (s.tree t).queue.length < 16) :
    s.rejoin h t id = (s.setHome h ((s.home h).toMeasuring .announcing)).onTree t fun x => { x with queue := x.queue ++ [⟨.tagAssign id, tag, 0, false⟩] } := by
  have hoffer : (s.tree t).offer (.new (.tagAssign id) tag) = { s.tree t with queue := (s.tree t).queue ++ [⟨.tagAssign id, tag, 0, false⟩] } :=
    TreeLine.offer_routine _ _ (fun n src e => by cases e) rfl hq
  simp only [State.rejoin, htag, State.offerCtl, State.onTree, State.setHome_tree, hoffer]

/-- R49: a LOST home captured on another tree. -/
theorem State.actCapture_moved {s : State} {id : Identity} {h : HomeIndex} {t : Tree} (hh : s.holder id = some h) (hs : (s.home h).state = .lost)
    (ht : (s.home h).tree ≠ some t) : s.actCapture t id = s.rejoinMoved h t id := by
  rw [State.actCapture, hh]
  simp only [hs, ht, decide_false, Bool.false_eq_true, if_false]

theorem State.rejoinMoved_refused {s : State} {h : HomeIndex} {t : Tree} (id : Identity)
    (hn : (s.tree t).freeTags ≤ s.claimingOn t ∨ 1200 < (s.tree t).pool + (s.home h).g) : s.rejoinMoved h t id = s.noteUnknown id t .capacity := by
  rw [State.rejoinMoved, if_neg]
  simp only [State.poolTest, State.tagTest, Bool.and_eq_true, decide_eq_true_eq]
  omega

/-- The trees that change when a home moves: its old one gives up its g and drains its tag, its new one takes both (R6, R8, R49). -/
theorem State.rejoinMoved_eq {s : State} {h : HomeIndex} {t u : Tree} {old tag : Nat} (id : Identity) (hs : (s.home h).state = .lost)
    (hu : (s.home h).tree = some u) (hold : (s.home h).tag = some old) (htags : s.claimingOn t < (s.tree t).freeTags)
    (hpool : (s.tree t).pool + (s.home h).g ≤ 1200) (hfree : (s.tree t).lowestFree = some tag) :
    s.rejoinMoved h t id =
      (((((((s.onTree u fun x => { x with pool := x.pool - (s.home h).g }).onTree u fun x => x.drain old).onTree t
        fun x => { x with pool := x.pool + (s.home h).g }).setHome h
          (({ s.home h with tree := some t, tag := some tag, silence := .none } : Home).toMeasuring .announcing)).onTree t
            fun x => x.setPlace tag (.held h)).onTree t fun x => x.offer (.new (.tagAssign id) tag))) := by
  have hleave : (s.leavePool (s.home h)).drainTag (s.home h) =
      (s.onTree u fun x => { x with pool := x.pool - (s.home h).g }).onTree u fun x => x.drain old := by
    have hin : inPool (s.home h).state = true := by rw [hs]; rfl
    simp only [State.leavePool, State.drainTag, hu, hold, hin, if_true, State.poolSub]
  rw [State.rejoinMoved, if_pos]
  · simp only [hfree, hleave]
    rfl
  · simp only [State.poolTest, State.tagTest, Bool.and_eq_true, decide_eq_true_eq]
    exact ⟨hpool, htags⟩

/-- The states differ in their trees alone. -/
def State.TreesOnly (s s' : State) : Prop := s' = { s with trees := s'.trees }

theorem State.TreesOnly.refl (s : State) : s.TreesOnly s := rfl

theorem State.TreesOnly.onTree {s s' : State} (h : s.TreesOnly s') (t : Tree) (f : TreeLine → TreeLine) : s.TreesOnly (s'.onTree t f) := by
  have hs : s'.onTree t f = { s' with trees := (s'.onTree t f).trees } := rfl
  exact hs.trans (by rw [h])

theorem State.TreesOnly.setHome {s s' : State} (h : s.TreesOnly s') (k : HomeIndex) (x : Home) : (s.setHome k x).TreesOnly (s'.setHome k x) := by
  unfold State.TreesOnly State.setHome
  rw [h]

/-- What a rejoin on another tree does with the home and with each tree (R6, R8, R49). -/
theorem State.rejoinMoved_moves {s : State} {h : HomeIndex} {t u : Tree} {old tag : Nat} (id : Identity) (hs : (s.home h).state = .lost)
    (hu : (s.home h).tree = some u) (hut : u ≠ t) (hold : (s.home h).tag = some old) (htags : s.claimingOn t < (s.tree t).freeTags)
    (hpool : (s.tree t).pool + (s.home h).g ≤ 1200) (hfree : (s.tree t).lowestFree = some tag) :
    (s.setHome h (({ s.home h with tree := some t, tag := some tag, silence := .none } : Home).toMeasuring .announcing)).TreesOnly
        (s.rejoinMoved h t id) ∧
      (s.rejoinMoved h t id).tree u = ({ s.tree u with pool := (s.tree u).pool - (s.home h).g } : TreeLine).drain old ∧
      (s.rejoinMoved h t id).tree t =
        (({ s.tree t with pool := (s.tree t).pool + (s.home h).g } : TreeLine).setPlace tag (.held h)).offer (.new (.tagAssign id) tag) ∧
      ∀ v, v ≠ t → v ≠ u → (s.rejoinMoved h t id).tree v = s.tree v := by
  rw [State.rejoinMoved_eq id hs hu hold htags hpool hfree]
  refine ⟨?_, ?_, ?_, fun v hvt hvu => ?_⟩
  · exact State.TreesOnly.onTree (.onTree (.setHome (.onTree (.onTree (.onTree (.refl s) u _) u _) t _) h _) t _) t _
  · simp only [State.onTree_tree, State.setHome_tree, hut, if_true, if_false]
  · simp only [State.onTree_tree, State.setHome_tree, Ne.symm hut, if_true, if_false]
  · simp only [State.onTree_tree, State.setHome_tree, hvt, hvu, if_false]

/-- A capture of a home that is not to be disturbed is ignored and counted (Table 3-3). -/
theorem State.actCapture_ignored {s : State} {id : Identity} {h : HomeIndex} {t : Tree} (hh : s.holder id = some h)
    (hs : (s.home h).state = .isolated ∨ (s.home h).state = .closing ∨
      (((s.home h).state = .claiming ∨ (s.home h).state = .measuring) ∧ (s.home h).tree = some t)) : s.actCapture t id = s.ignoreCapture := by
  rw [State.actCapture, hh]
  obtain hs | hs | ⟨hs | hs, ht⟩ := hs
  · simp only [hs]
  · simp only [hs]
  · simp only [hs, ht, decide_true, if_true]
  · simp only [hs, ht, decide_true, if_true]

theorem State.actCapture_forward {s : State} {id : Identity} {h : HomeIndex} (t : Tree) (hh : s.holder id = some h) (hs : (s.home h).state = .forward) :
    s.actCapture t id = (s.freeEntry h).admitCapture t id := by
  rw [State.actCapture, hh]
  simp only [hs]

/-- Settles O45: the result is acted on by the matched entry as it stands, and each action is its own equation. -/
theorem captureCheckActs : Obligations.CaptureCheckActs := by
  intro s t id start count rest hw
  have hx : exec .captureCheckComplete s = .next ((s.walked rest).actCapture t id) := exec_captureCheck hw
  refine ⟨fun hn => ?_, fun h tag hh hs ht htag hq => ?_, fun h u old hh hs hu hut hold hplace => ?_, fun h hh hs => ?_, fun h hh hs htag hn => ?_⟩
  · have hnone : (s.walked rest).holder id = none := ((s.walked rest).unheld_iff id).1 fun k hk => (hn k).resolve_left hk
    rw [hx, State.actCapture_unheld t hnone]
    refine ⟨fun hb => ?_, fun hb hna => ?_, fun a hb ha => ⟨fun hfull => ?_, fun h hf hlow => ?_⟩⟩
    · rw [State.admitCapture, if_pos (by simpa [Enrollment.isBarred] using hb)]; rfl
    · have ha : (s.walked rest).enrol.admissionOf id = none := by simpa [Enrollment.admissionOf] using hna
      rw [State.admitCapture_of (s := s.walked rest) t hb, ha]; rfl
    · have hf : (s.walked rest).lowestFreeEntry = none := find_homeIndexes_none.2 fun k => decide_eq_false (hfull k)
      rw [State.admitCapture_of (s := s.walked rest) t hb, show (s.walked rest).enrol.admissionOf id = some a from ha]
      simp only [hf]
      rfl
    · have hlow' : (s.walked rest).lowestFreeEntry = some h := find_homeIndexes.2 ⟨decide_eq_true hf, fun k hk => decide_eq_false (hlow k hk)⟩
      have haid : a.identity = id := by simpa using List.find?_some ha
      rw [State.admitCapture_admitted (s := s.walked rest) t hb ha hlow']
      refine ⟨fun htags => ?_, fun htags hcap => ?_, fun htags hcap => ?_⟩
      · have htest : (s.walked rest).tagTest t = false := decide_eq_false (Nat.not_lt.2 htags)
        rw [htest]; rfl
      · have htest : (s.walked rest).tagTest t = true := decide_eq_true htags
        have hptest : (s.walked rest).poolTest t a.g = false := decide_eq_false (Nat.not_le.2 hcap)
        rw [htest, hptest]; rfl
      · have htest : (s.walked rest).tagTest t = true := decide_eq_true htags
        have hptest : (s.walked rest).poolTest t a.g = true := decide_eq_true hcap
        rw [htest, hptest, State.claim_offered, ← haid]
        refine ⟨fun hroom => ?_, fun hroom => ?_⟩
        · rw [State.walked_link, hroom]; rfl
        · rw [State.walked_link, hroom]; rfl
  · rw [hx, State.actCapture_rejoin (by exact hh) (by exact hs) (by exact ht), State.rejoin_eq id (by exact htag) (by exact hq)]
    rfl
  · have hne : (s.home h).tree ≠ some t := by rw [hu]; exact fun e => hut (Option.some.inj e)
    rw [hx, State.actCapture_moved (by exact hh) (by exact hs) (by exact hne)]
    refine ⟨fun hn => ?_, fun tag htags hcap hfree hlow hq => ⟨_, rfl, ?_⟩⟩
    · rw [State.rejoinMoved_refused id (by exact hn)]; rfl
    · obtain ⟨hrest, htu, htt, hoff⟩ := State.rejoinMoved_moves (s := s.walked rest) id hs hu hut hold htags hcap (TreeLine.lowestFree_eq hfree hlow)
      obtain ⟨hkept, hplaces⟩ := (s.tree t).rejoined_tree (g := (s.home h).g) (h := h) id hfree hq
      obtain ⟨hp, hqueue, hheld⟩ := TreeLine.drain_tagDrained (x := { s.tree u with pool := (s.tree u).pool - (s.home h).g }) (tag := old) hplace
      refine ⟨hrest, ?_, ?_, ?_, ?_, hoff⟩
      · rw [htu]; exact ⟨hp, hqueue, hheld⟩
      · rw [htu]; exact TreeLine.drain_keeps _ _
      · rw [htt]; exact hkept
      · rw [htt]; exact hplaces
  · rw [hx, State.actCapture_ignored (by exact hh) (by exact hs)]; rfl
  · have hfree : (s.walked rest).freeEntry h = { s.walked rest with homes := s.homes.set h Home.free, forwardList := s.forwardList.filter fun i => i ≠ h } :=
      State.freeEntry_unpooled (s := s.walked rest) (by rw [State.walked_home, hs]; rfl) htag
    rw [hx, State.actCapture_forward t (by exact hh) (by exact hs), hfree]
    have hhome : ∀ k, ({ s with homes := s.homes.set h Home.free } : State).home k = if k = h then Home.free else s.home k := s.setHome_home h
      (x := Home.free)
    have hnone : State.holder (State.walked { s with homes := s.homes.set h Home.free, forwardList := s.forwardList.filter fun i => i ≠ h } rest) id =
        none := by
      refine (State.unheld_iff _ id).1 fun k hk => ?_
      have hk' := hhome k
      by_cases e : k = h
      · rw [if_pos e] at hk'
        exact absurd (congrArg Home.state hk') hk
      · rw [if_neg e] at hk'
        have hfree' : (s.home k).state ≠ .free := fun ek => hk ((congrArg Home.state hk').trans ek)
        exact fun ek => (hn k e).resolve_left hfree' ((congrArg Home.identity hk').symm.trans ek)
    rw [exec_captureCheck (s := { s with homes := s.homes.set h Home.free, forwardList := s.forwardList.filter fun i => i ≠ h }) hw,
      State.actCapture_unheld t hnone]
    rfl

end Sys2Proof.Machine
end

section
/-! SUPPORT. The round boundary step by step: the ticks of the entries, the swap of each tree's maps, the header of each tree and its reports (R23, R82, R83, R27). -/

namespace Sys2Proof.Machine

/-! ### One pass over the trees -/

/-- A pass over all four trees: what holds until a tree's turn and what that turn brings about, when the turns of the others keep both. -/
theorem foldl_trees {f : State → Tree → State} {A B : State → Prop} (t : Tree) (hA : ∀ s u, u ≠ t → A s → A (f s u)) (ht : ∀ s, A s → B (f s t))
    (hB : ∀ s u, u ≠ t → B s → B (f s u)) {s : State} (h : A s) : B (Tree.all.foldl f s) := by
  have split : ∃ l r, Tree.all = l ++ t :: r ∧ t ∉ l ∧ t ∉ r := by
    cases t
    · exact ⟨[], [.b, .c, .d], rfl, by decide, by decide⟩
    · exact ⟨[.a], [.c, .d], rfl, by decide, by decide⟩
    · exact ⟨[.a, .b], [.d], rfl, by decide, by decide⟩
    · exact ⟨[.a, .b, .c], [], rfl, by decide, by decide⟩
  obtain ⟨l, r, e, hl, hr⟩ := split
  rw [e, List.foldl_append, List.foldl_cons]
  refine List.foldlRecOn r f (ht _ (List.foldlRecOn l f h ?_)) ?_
  · exact fun s hs u hu => hA s u (fun e => hl (e ▸ hu)) hs
  · exact fun s hs u hu => hB s u (fun e => hr (e ▸ hu)) hs

theorem foldl_keeps {α : Type} {f : State → α → State} {A : State → Prop} (hf : ∀ s a, A s → A (f s a)) (xs : List α) {s : State} (h : A s) :
    A (xs.foldl f s) := List.foldlRecOn xs f h fun s hs a _ => hf s a hs

/-- A run through a list that reaches an element: what holds before it and what it brings about, when every element keeps both. -/
theorem foldl_reaches {α : Type} {f : State → α → State} {A B : State → Prop} {a : α} {xs : List α} (ha : a ∈ xs) (hA : ∀ s b, A s → A (f s b))
    (hab : ∀ s, A s → B (f s a)) (hB : ∀ s b, B s → B (f s b)) {s : State} (h : A s) : B (xs.foldl f s) := by
  obtain ⟨l, r, rfl⟩ := List.append_of_mem ha
  rw [List.foldl_append, List.foldl_cons]
  exact foldl_keeps hB r (hab _ (foldl_keeps hA l h))

/-- The states agree but for the round clock, the homes, the trees and the output. -/
def State.RoundOnly (s s' : State) : Prop := s' = { s with clock := s'.clock, homes := s'.homes, trees := s'.trees, out := s'.out }

theorem State.RoundOnly.refl (s : State) : s.RoundOnly s := rfl

theorem State.RoundOnly.trans {a b c : State} (h : a.RoundOnly b) (k : b.RoundOnly c) : a.RoundOnly c := by
  have hb : b = { a with clock := b.clock, homes := b.homes, trees := b.trees, out := b.out } := h
  exact Eq.trans k (by rw [hb])

theorem State.RoundOnly.foldl {α : Type} {f : State → α → State} (hf : ∀ (s : State) (a : α), s.RoundOnly (f s a)) (xs : List α) (s : State) :
    s.RoundOnly (xs.foldl f s) := foldl_keeps (A := s.RoundOnly) (fun _ a h => h.trans (hf _ a)) xs rfl

/-! ### The swap of a tree's maps -/

/-- The payloads of a home's windows added to its since (R83). -/
def sinceAfter (ws : List Window) (h : HomeIndex) (n : Nat) : Nat :=
  ((ws.filter fun w => w.home = h).map fun w => w.length - 3).foldl (fun n payload => min 65535 (n + payload)) n

theorem sinceAfter_absent {ws : List Window} {h : HomeIndex} (hw : ∀ w ∈ ws, w.home ≠ h) (n : Nat) : sinceAfter ws h n = n := by
  have hnil : (ws.filter fun w => w.home = h) = [] := List.filter_eq_nil_iff.2 fun w hm => by simpa using hw w hm
  rw [sinceAfter, hnil]
  rfl

theorem foldl_addSince_home (ws : List Window) (s : State) (h : HomeIndex) :
    (ws.foldl State.addSince s).home h = { s.home h with since := sinceAfter ws h (s.home h).since } := by
  induction ws generalizing s with
  | nil => rfl
  | cons w ws ih =>
    rw [List.foldl_cons, ih, State.addSince, State.onHome_home]
    by_cases hw : w.home = h
    · rw [if_pos hw.symm]
      subst hw
      simp only [sinceAfter, List.filter_cons, decide_true, if_true, List.map_cons, List.foldl_cons, satAdd, Window.payload]
    · rw [if_neg (Ne.symm hw)]
      simp only [sinceAfter, List.filter_cons, hw, decide_false, Bool.false_eq_true, if_false]

theorem foldl_addSince_tree (ws : List Window) (s : State) (t : Tree) : (ws.foldl State.addSince s).tree t = s.tree t := by
  induction ws generalizing s with
  | nil => rfl
  | cons w ws ih => exact ih _

/-- The windows of a tree's shadow map that survive the swap (R82). -/
def State.kept (s : State) (t : Tree) : List Window := (s.tree t).shadow.windows.filter (s.survives t)

/-- A RUNNING tree after the swap of its maps, its surviving windows given (R44, R45, R82). -/
def TreeLine.swapped (x : TreeLine) (kept : List Window) : TreeLine :=
  let zone := if x.searchSinceMap then none else x.shadow.zone
  { x with active := ⟨kept, zone, x.shadow.quiet⟩, shadow := GrantMap.empty, windowsTaken := 0, zoneTaken := false, quietTaken := x.quietLeft.isSome
           lateQuiet := x.quietLeft, lastBlockLit := false, discovery := nextDiscovery zone x.discovery }

theorem State.swapTree_running {s : State} {t : Tree} (h : (s.tree t).running = true) :
    s.swapTree t = (s.kept t).foldl State.addSince (s.setTree t ((s.tree t).swapped (s.kept t))) := by
  rw [State.swapTree]
  exact if_pos h

theorem State.swapTree_stopped {s : State} {t : Tree} (h : (s.tree t).running = false) : s.swapTree t = s := by
  rw [State.swapTree]
  exact if_neg (by rw [h]; decide)

theorem State.swapTree_off (s : State) {t u : Tree} (h : u ≠ t) : (s.swapTree u).tree t = s.tree t := by
  cases hr : (s.tree u).running
  · rw [State.swapTree_stopped hr]
  · rw [State.swapTree_running hr, foldl_addSince_tree, State.setTree_tree, if_neg (Ne.symm h)]

theorem State.swapTree_self (s : State) (t : Tree) : (s.swapTree t).tree t = if (s.tree t).running then (s.tree t).swapped (s.kept t) else s.tree t := by
  cases hr : (s.tree t).running
  · rw [State.swapTree_stopped hr]; rfl
  · rw [State.swapTree_running hr, foldl_addSince_tree, State.setTree_tree, if_pos rfl]; rfl

theorem State.swapTree_home (s : State) (t : Tree) (h : HomeIndex) :
    (s.swapTree t).home h =
      { s.home h with since := if (s.tree t).running then sinceAfter (s.kept t) h (s.home h).since else (s.home h).since } := by
  cases hr : (s.tree t).running
  · rw [State.swapTree_stopped hr]; rfl
  · rw [State.swapTree_running hr, foldl_addSince_home]; rfl

theorem State.addSince_roundOnly (s : State) (w : Window) : s.RoundOnly (s.addSince w) := rfl

theorem State.swapTree_roundOnly (s : State) (t : Tree) : s.RoundOnly (s.swapTree t) := by
  cases hr : (s.tree t).running
  · rw [State.swapTree_stopped hr]; rfl
  · rw [State.swapTree_running hr]
    exact State.RoundOnly.trans (b := s.setTree t ((s.tree t).swapped (s.kept t))) rfl (.foldl State.addSince_roundOnly _ _)

/-- Two states whose homes differ in their since figures alone. -/
def State.SinceOnly (s s' : State) : Prop := ∀ h, s'.home h = { s.home h with since := (s'.home h).since }

theorem State.SinceOnly.kept {s s' : State} (h : s.SinceOnly s') {t : Tree} (ht : s'.tree t = s.tree t) : s'.kept t = s.kept t := by
  have hw : s'.survives t = s.survives t := funext fun w => by
    unfold State.survives
    rw [h w.home]
    rfl
  rw [State.kept, ht, hw, State.kept]

theorem State.swapTree_sinceOnly (s : State) (t : Tree) : s.SinceOnly (s.swapTree t) := fun h => by rw [State.swapTree_home]

/-- The windows of other trees are none of a home's. -/
theorem State.kept_home {s : State} {t : Tree} {w : Window} (h : w ∈ s.kept t) : (s.home w.home).tree = some t := by
  have hs := (List.mem_filter.1 h).2
  simp only [State.survives, Home.eligible, Bool.and_eq_true] at hs
  exact (((s.home w.home).servedOn_iff t).1 hs.1.1).2

theorem State.swapTree_since_off {s : State} {t : Tree} {h : HomeIndex} (ht : (s.home h).tree ≠ some t) :
    ((s.swapTree t).home h).since = (s.home h).since := by
  rw [State.swapTree_home]
  dsimp only
  split
  · exact sinceAfter_absent (fun w hw e => ht (by rw [← e]; exact State.kept_home hw)) _
  · rfl

/-- All trees' maps swapped. -/
def State.swapTrees (s : State) : State := Tree.all.foldl State.swapTree s

theorem State.swapTrees_sinceOnly (s : State) : s.SinceOnly s.swapTrees :=
  foldl_keeps (A := s.SinceOnly) (fun u t hu h => by rw [u.swapTree_sinceOnly t h, hu h]) _ fun _ => rfl

theorem State.swapTrees_tree (s : State) (t : Tree) : s.swapTrees.tree t = if (s.tree t).running then (s.tree t).swapped (s.kept t) else s.tree t := by
  refine foldl_trees (A := fun u => u.tree t = s.tree t ∧ s.SinceOnly u)
    (B := fun u => u.tree t = if (s.tree t).running then (s.tree t).swapped (s.kept t) else s.tree t) t ?_ ?_ ?_ ⟨rfl, fun _ => rfl⟩
  · rintro u v hv ⟨ht, hs⟩
    exact ⟨(u.swapTree_off hv).trans ht, fun h => by rw [u.swapTree_sinceOnly v h, hs h]⟩
  · rintro u ⟨ht, hs⟩
    rw [State.swapTree_self, hs.kept ht, ht]
  · exact fun u v hv ht => (u.swapTree_off hv).trans ht

theorem State.swapTrees_since {s : State} {t : Tree} {h : HomeIndex} (ht : (s.home h).tree = some t) (hr : (s.tree t).running = true) :
    (s.swapTrees.home h).since = sinceAfter (s.kept t) h (s.home h).since := by
  refine (foldl_trees (A := fun u => (u.home h).since = (s.home h).since ∧ u.tree t = s.tree t ∧ s.SinceOnly u)
    (B := fun u => (u.home h).since = sinceAfter (s.kept t) h (s.home h).since ∧ s.SinceOnly u) t ?_ ?_ ?_ ⟨rfl, rfl, fun _ => rfl⟩).1
  · rintro u v hv ⟨hsince, htree, hs⟩
    have hoff : (u.home h).tree ≠ some v := by rw [hs h]; exact fun e => hv (Option.some.inj (e.symm.trans ht))
    exact ⟨(State.swapTree_since_off hoff).trans hsince, (u.swapTree_off hv).trans htree, fun h => by rw [u.swapTree_sinceOnly v h, hs h]⟩
  · rintro u ⟨hsince, htree, hs⟩
    refine ⟨?_, fun h => by rw [u.swapTree_sinceOnly t h, hs h]⟩
    rw [State.swapTree_home, htree, hr, hs.kept htree, hsince]
    rfl
  · rintro u v hv ⟨hsince, hs⟩
    have hoff : (u.home h).tree ≠ some v := by rw [hs h]; exact fun e => hv (Option.some.inj (e.symm.trans ht))
    exact ⟨(State.swapTree_since_off hoff).trans hsince, fun h => by rw [u.swapTree_sinceOnly v h, hs h]⟩

theorem State.swapTrees_since_off {s : State} {h : HomeIndex} (ht : ∀ t, (s.home h).tree = some t → (s.tree t).running = false) :
    (s.swapTrees.home h).since = (s.home h).since := by
  refine (foldl_keeps (A := fun u => (u.home h).since = (s.home h).since ∧ s.SinceOnly u ∧ ∀ t, (s.tree t).running = false → u.tree t = s.tree t)
    ?_ _ ⟨rfl, fun _ => rfl, fun _ _ => rfl⟩).1
  rintro u v ⟨hsince, hs, htrees⟩
  refine ⟨?_, fun h => by rw [u.swapTree_sinceOnly v h, hs h], fun t hr => ?_⟩
  · by_cases hv : (u.home h).tree = some v
    · have hr : (s.tree v).running = false := ht v (by rw [hs h] at hv; exact hv)
      rw [State.swapTree_stopped (by rw [htrees v hr]; exact hr)]
      exact hsince
    · exact (State.swapTree_since_off hv).trans hsince
  · by_cases hv : v = t
    · subst hv
      rw [State.swapTree_stopped (by rw [htrees v hr]; exact hr)]
      exact htrees v hr
    · exact (u.swapTree_off hv).trans (htrees t hr)

end Sys2Proof.Machine
end

section
/-! SUPPORT. The headers of a round boundary: the messages reported and what their producers make of it (R7, R62, R64, R123), and the round boundary put together. -/

namespace Sys2Proof.Machine

/-! ### What the reports do with a tree -/

theorem TreeLine.freeTag_place (x : TreeLine) (tag k : Nat) :
    (x.freeTag tag).place k = if k = tag ∧ x.place k = some .draining then some .free else x.place k := by
  unfold TreeLine.freeTag
  by_cases hd : x.place tag = some .draining
  · rw [if_pos hd, TreeLine.setPlace_place]
    by_cases hk : k = tag
    · subst hk; rw [if_pos rfl, if_pos ⟨rfl, hd⟩, hd]; rfl
    · rw [if_neg hk, if_neg fun e => hk e.1]
  · rw [if_neg hd, if_neg]
    rintro ⟨rfl, e⟩
    exact hd e

/-- A tree whose DROP messages among those reported have been sent twice (R7). -/
def TreeLine.dropsReported (x : TreeLine) (ms : List CtlMsg) : TreeLine :=
  ms.foldl (fun y m => if m.kind = .drop then y.freeTag m.tag else y) x

theorem TreeLine.dropsReported_frame (x : TreeLine) (ms : List CtlMsg) : x.dropsReported ms = { x with tags := (x.dropsReported ms).tags } := by
  induction ms generalizing x with
  | nil => rfl
  | cons m ms ih =>
    rw [TreeLine.dropsReported, List.foldl_cons, ← TreeLine.dropsReported, ih]
    split
    · rw [TreeLine.freeTag_frame]
    · rfl

theorem TreeLine.dropsReported_place (x : TreeLine) (ms : List CtlMsg) (k : Nat) :
    (x.dropsReported ms).place k = if x.place k = some .draining ∧ (∃ m ∈ ms, m.kind = .drop ∧ m.tag = k) then some .free else x.place k := by
  induction ms generalizing x with
  | nil => simp [TreeLine.dropsReported]
  | cons m ms ih =>
    rw [TreeLine.dropsReported, List.foldl_cons, ← TreeLine.dropsReported, ih]
    by_cases hm : m.kind = .drop
    · rw [if_pos hm, TreeLine.freeTag_place]
      by_cases hk : k = m.tag ∧ x.place k = some .draining
      · obtain ⟨rfl, hd⟩ := hk
        simp [hd, hm]
      · rw [if_neg hk]
        by_cases hd : x.place k = some .draining
        · have hne : m.tag ≠ k := fun e => hk ⟨e.symm, hd⟩
          simp [hd, hne]
        · simp [hd]
    · simp [hm]

theorem State.announced_tree (s : State) (t u : Tree) (tag : Nat) : (s.announced t tag).tree u = s.tree u := by
  unfold State.announced
  dsimp only
  split
  · rfl
  · split <;> rfl

theorem State.delaySent_tree (s : State) (t u : Tree) (tag : Nat) : (s.delaySent t tag).tree u = s.tree u := by
  unfold State.delaySent
  split
  · rfl
  · split <;> rfl

theorem State.reportSent_tree (t : Tree) (s : State) (m : CtlMsg) (u : Tree) :
    (State.reportSent t s m).tree u = if u = t ∧ m.kind = .drop then (s.tree u).freeTag m.tag else s.tree u := by
  unfold State.reportSent
  split
  · rename_i hk
    rw [State.onTree_tree]
    by_cases hu : u = t
    · subst hu; simp [hk]
    · simp [hu]
  · rename_i hk; rw [State.announced_tree, if_neg (by simp [hk])]
  · rename_i hk; rw [State.announced_tree, if_neg (by simp [hk])]
  · rename_i hk; rw [State.delaySent_tree, if_neg (by simp [hk])]
  · rename_i hk; rw [if_neg (by simp [hk])]
  · rename_i hk; rw [if_neg (by simp [hk])]
  · rename_i hk; rw [if_neg (by simp [hk])]

theorem foldl_reportSent_tree (t : Tree) (ms : List CtlMsg) (s : State) (u : Tree) :
    (ms.foldl (State.reportSent t) s).tree u = if u = t then (s.tree u).dropsReported ms else s.tree u := by
  induction ms generalizing s with
  | nil => rw [List.foldl_nil, TreeLine.dropsReported, List.foldl_nil, ite_self]
  | cons m ms ih =>
    rw [List.foldl_cons, ih, State.reportSent_tree]
    by_cases hu : u = t
    · simp only [hu, true_and, if_true, TreeLine.dropsReported, List.foldl_cons]
    · simp only [hu, false_and, if_false]

/-! ### What the reports do with a home -/

/-- A home as the reports leave it: its soak countdown, its phase and its state may have changed. -/
def Home.Told (x y : Home) : Prop := y = { x with soak := y.soak, phase := y.phase, state := y.state }

theorem Home.Told.trans {x y z : Home} (h : x.Told y) (k : y.Told z) : x.Told z := by
  have hy : y = { x with soak := y.soak, phase := y.phase, state := y.state } := h
  exact Eq.trans k (by rw [hy])

theorem State.announced_home (s : State) (t : Tree) (tag : Nat) (h : HomeIndex) :
    (s.announced t tag).home h =
      if (s.tree t).owner tag = some h ∧ (s.home h).phase = some .announcing ∧
          ((s.tree t).queue ++ (s.tree t).held).any (fun m => m.announces tag) = false then
        { s.home h with phase := some .sampling }
      else s.home h := by
  unfold State.announced
  dsimp only
  split
  · rename_i ho; rw [if_neg (by simp [ho])]
  · rename_i k ho
    rw [ho]
    split
    · rename_i hc
      rw [State.onHome_home]
      by_cases hk : h = k
      · subst hk; rw [if_pos rfl, if_pos ⟨rfl, hc⟩]
      · rw [if_neg hk, if_neg fun e => hk (Option.some.inj e.1).symm]
    · rename_i hc
      rw [if_neg]
      rintro ⟨e, hc'⟩
      obtain rfl := Option.some.inj e
      exact hc hc'

theorem State.delaySent_home (s : State) (t : Tree) (tag : Nat) (h : HomeIndex) :
    (s.delaySent t tag).home h =
      if (s.tree t).owner tag = some h ∧ (s.home h).state = .measuring ∧ (s.home h).phase = some .setting then
        { s.home h with state := .soaking, soak := (s.config.map Config.soak).getD 0, phase := none }
      else s.home h := by
  unfold State.delaySent
  split
  · rename_i ho; rw [if_neg (by simp [ho])]
  · rename_i k ho
    rw [ho]
    split
    · rename_i hc
      rw [State.onHome_home]
      by_cases hk : h = k
      · subst hk; rw [if_pos rfl, if_pos ⟨rfl, hc⟩]
      · rw [if_neg hk, if_neg fun e => hk (Option.some.inj e.1).symm]
    · rename_i hc
      rw [if_neg]
      rintro ⟨e, hc'⟩
      obtain rfl := Option.some.inj e
      exact hc hc'

/-- A report leaves a home, tells it its tag is announced, or takes it to SOAKING. -/
theorem State.reportSent_home (t : Tree) (s : State) (m : CtlMsg) (h : HomeIndex) :
    (State.reportSent t s m).home h = s.home h ∨
      ((s.tree t).owner m.tag = some h ∧ (s.home h).phase = some .announcing ∧
        (State.reportSent t s m).home h = { s.home h with phase := some .sampling }) ∨
      ((s.tree t).owner m.tag = some h ∧ (s.home h).state = .measuring ∧ (s.home h).phase = some .setting ∧
        (State.reportSent t s m).home h = { s.home h with state := .soaking, soak := (s.config.map Config.soak).getD 0, phase := none }) := by
  have announced : (s.announced t m.tag).home h = s.home h ∨ ((s.tree t).owner m.tag = some h ∧ (s.home h).phase = some .announcing ∧
      (s.announced t m.tag).home h = { s.home h with phase := some .sampling }) := by
    rw [State.announced_home]
    split
    · rename_i hc; exact .inr ⟨hc.1, hc.2.1, rfl⟩
    · exact .inl rfl
  unfold State.reportSent
  split
  · exact .inl (State.onTree_home _ _ _ _)
  · exact announced.imp id .inl
  · exact announced.imp id .inl
  · rw [State.delaySent_home]
    split
    · rename_i hc; exact .inr (.inr ⟨hc.1, hc.2.1, hc.2.2, rfl⟩)
    · exact .inl rfl
  · exact .inl rfl
  · exact .inl rfl
  · exact .inl rfl

theorem State.reportSent_told (t : Tree) (s : State) (m : CtlMsg) (h : HomeIndex) : (s.home h).Told ((State.reportSent t s m).home h) := by
  obtain e | ⟨-, -, e⟩ | ⟨-, -, -, e⟩ := State.reportSent_home t s m h <;> (rw [e]; rfl)

theorem State.reportSent_unheld {t : Tree} {s : State} {m : CtlMsg} {h : HomeIndex} (ho : (s.tree t).owner m.tag ≠ some h) :
    (State.reportSent t s m).home h = s.home h := by
  obtain e | ⟨e, -⟩ | ⟨e, -⟩ := State.reportSent_home t s m h
  · exact e
  · exact absurd e ho
  · exact absurd e ho

theorem TreeLine.owner_iff (x : TreeLine) (tag : Nat) (h : HomeIndex) : x.owner tag = some h ↔ x.place tag = some (.held h) := by
  unfold TreeLine.owner
  split
  · rename_i k hk; simp [hk]
  all_goals rename_i hk; simp [hk]

theorem State.reportSent_owner (t : Tree) (s : State) (m : CtlMsg) (u : Tree) (tag : Nat) (h : HomeIndex) :
    ((State.reportSent t s m).tree u).owner tag = some h ↔ (s.tree u).owner tag = some h := by
  rw [State.reportSent_tree]
  split
  · rw [TreeLine.owner_iff, TreeLine.owner_iff, TreeLine.freeTag_place]
    split
    · rename_i hc; simp [hc.2]
    · rfl
  · rfl

theorem State.announced_roundOnly (s : State) (t : Tree) (tag : Nat) : s.RoundOnly (s.announced t tag) := by
  unfold State.announced
  dsimp only
  split
  · rfl
  · split <;> rfl

theorem State.delaySent_roundOnly (s : State) (t : Tree) (tag : Nat) : s.RoundOnly (s.delaySent t tag) := by
  unfold State.delaySent
  split
  · rfl
  · split <;> rfl

theorem State.reportSent_roundOnly (t : Tree) (s : State) (m : CtlMsg) : s.RoundOnly (State.reportSent t s m) := by
  unfold State.reportSent
  split
  · rfl
  · exact s.announced_roundOnly t m.tag
  · exact s.announced_roundOnly t m.tag
  · exact s.delaySent_roundOnly t m.tag
  all_goals rfl

/-! ### The header of a tree -/

/-- A tree's header sent, its producers not yet told (R25, R27, R123). -/
def State.headerSent (s : State) (t : Tree) : State :=
  (s.emit (.header t (headerBytes s.clock.number (s.tree t).active (chosenMessages (s.tree t).queue)))).onTree t fun y => y.sendHeader.settleBoundary

theorem State.sendHeader_running {s : State} {t : Tree} (h : (s.tree t).running = true) :
    s.sendHeader t = (sentTwice (s.tree t).queue).foldl (State.reportSent t) (s.headerSent t) := by
  rw [State.sendHeader]
  exact if_pos h

theorem State.sendHeader_stopped {s : State} {t : Tree} (h : (s.tree t).running = false) : s.sendHeader t = s := by
  rw [State.sendHeader]
  exact if_neg (by rw [h]; decide)

theorem State.headerSent_tree (s : State) (t u : Tree) :
    (s.headerSent t).tree u = if u = t then (s.tree t).sendHeader.settleBoundary else s.tree u := State.onTree_tree _ _ _ _

theorem State.headerSent_roundOnly (s : State) (t : Tree) : s.RoundOnly (s.headerSent t) := rfl

/-- A tree after its header and the reports of it. -/
def TreeLine.headed (x : TreeLine) : TreeLine :=
  if x.running then x.sendHeader.settleBoundary.dropsReported (sentTwice x.queue) else x

theorem TreeLine.headed_running {x : TreeLine} (h : x.running = true) : x.headed = x.sendHeader.settleBoundary.dropsReported (sentTwice x.queue) :=
  if_pos h

theorem State.sendHeader_self (s : State) (t : Tree) : (s.sendHeader t).tree t = (s.tree t).headed := by
  cases hr : (s.tree t).running
  · rw [State.sendHeader_stopped hr, TreeLine.headed, if_neg (by rw [hr]; decide)]
  · rw [State.sendHeader_running hr, foldl_reportSent_tree, if_pos rfl, State.headerSent_tree, if_pos rfl, TreeLine.headed_running hr]

theorem State.sendHeader_off (s : State) {t u : Tree} (h : u ≠ t) : (s.sendHeader u).tree t = s.tree t := by
  cases hr : (s.tree u).running
  · rw [State.sendHeader_stopped hr]
  · rw [State.sendHeader_running hr, foldl_reportSent_tree, if_neg (Ne.symm h), State.headerSent_tree, if_neg (Ne.symm h)]

theorem State.sendHeader_roundOnly (s : State) (t : Tree) : s.RoundOnly (s.sendHeader t) := by
  cases hr : (s.tree t).running
  · rw [State.sendHeader_stopped hr]; rfl
  · rw [State.sendHeader_running hr]
    exact (s.headerSent_roundOnly t).trans (.foldl (State.reportSent_roundOnly t) _ _)

theorem State.sendHeader_told (s : State) (t : Tree) (h : HomeIndex) : (s.home h).Told ((s.sendHeader t).home h) := by
  cases hr : (s.tree t).running
  · rw [State.sendHeader_stopped hr]; rfl
  · rw [State.sendHeader_running hr]
    exact foldl_keeps (A := fun u => (s.home h).Told (u.home h)) (fun u m hu => hu.trans (State.reportSent_told t u m h)) _ rfl

/-- A RUNNING tree's header reports a message for a tag the home holds (R27). -/
def TreeLine.Tells (x : TreeLine) (h : HomeIndex) : Prop := x.running = true ∧ ∃ m ∈ x.queue, m.count = 1 ∧ x.place m.tag = some (.held h)

theorem TreeLine.sendHeader_settle_frame (x : TreeLine) :
    x.sendHeader.settleBoundary = { x with queue := x.sendHeader.queue, search := x.sendHeader.settleBoundary.search } := by
  unfold TreeLine.settleBoundary
  split <;> rfl

theorem TreeLine.sendHeader_settle_place (x : TreeLine) (k : Nat) : x.sendHeader.settleBoundary.place k = x.place k := by
  rw [TreeLine.sendHeader_settle_frame]
  rfl

theorem State.sendHeader_untold {s : State} {t : Tree} {h : HomeIndex} (hn : ¬ (s.tree t).Tells h) : (s.sendHeader t).home h = s.home h := by
  cases hr : (s.tree t).running
  · rw [State.sendHeader_stopped hr]
  · rw [State.sendHeader_running hr]
    have howner : ∀ tag, ((s.headerSent t).tree t).owner tag = some h ↔ (s.tree t).place tag = some (.held h) := fun tag => by
      rw [State.headerSent_tree, if_pos rfl, TreeLine.owner_iff, TreeLine.sendHeader_settle_place]
    refine (List.foldlRecOn (motive := fun u => u.home h = s.home h ∧ ∀ tag, (u.tree t).owner tag = some h ↔ (s.tree t).place tag = some (.held h))
      (sentTwice (s.tree t).queue) (State.reportSent t) (b := s.headerSent t) ⟨rfl, howner⟩ ?_).1
    rintro u ⟨hu, ho⟩ m hm
    obtain ⟨hq, hc⟩ := List.mem_filter.1 hm
    refine ⟨(State.reportSent_unheld fun e => hn ⟨hr, m, hq, of_decide_eq_true hc, (ho m.tag).1 e⟩).trans hu, fun tag => ?_⟩
    exact (State.reportSent_owner t u m t tag h).trans (ho tag)

/-! ### The headers of all trees -/

/-- The headers of the RUNNING trees sent and reported. -/
def State.sendHeaders (s : State) : State := Tree.all.foldl State.sendHeader s

theorem State.sendHeaders_tree (s : State) (t : Tree) : s.sendHeaders.tree t = (s.tree t).headed :=
  foldl_trees (A := fun u => u.tree t = s.tree t) (B := fun u => u.tree t = (s.tree t).headed) t (fun u _ hv e => (u.sendHeader_off hv).trans e)
    (fun u e => by rw [State.sendHeader_self, e]) (fun u _ hv e => (u.sendHeader_off hv).trans e) rfl

theorem State.sendHeaders_roundOnly (s : State) : s.RoundOnly s.sendHeaders := .foldl State.sendHeader_roundOnly _ _

theorem State.sendHeaders_told (s : State) (h : HomeIndex) : (s.home h).Told (s.sendHeaders.home h) :=
  foldl_keeps (A := fun u => (s.home h).Told (u.home h)) (fun u t hu => hu.trans (u.sendHeader_told t h)) _ rfl

theorem foldl_sendHeader_untold {h : HomeIndex} (ts : List Tree) (hts : ts.Nodup) (s : State) (hn : ∀ t ∈ ts, ¬ (s.tree t).Tells h) :
    (ts.foldl State.sendHeader s).home h = s.home h := by
  induction ts generalizing s with
  | nil => rfl
  | cons t ts ih =>
    obtain ⟨hnot, hnd⟩ := List.nodup_cons.1 hts
    rw [List.foldl_cons, ih hnd, State.sendHeader_untold (hn t (List.mem_cons_self ..))]
    intro u hu
    rw [s.sendHeader_off fun e => hnot (by rw [e]; exact hu)]
    exact hn u (List.mem_cons_of_mem _ hu)

theorem State.sendHeaders_untold {s : State} {h : HomeIndex} (hn : ∀ t, ¬ (s.tree t).Tells h) : s.sendHeaders.home h = s.home h :=
  foldl_sendHeader_untold Tree.all (by decide) s fun t _ => hn t

/-- What a message sent twice brings about for the home that holds its tag: `P` holds of the home until the report and `Q` after it, when every report keeps both. -/
theorem State.sendHeaders_reach {s : State} {t : Tree} {m : CtlMsg} {h : HomeIndex} {P Q : Home → Prop} (hr : (s.tree t).running = true)
    (hm : m ∈ (s.tree t).queue) (hc : m.count = 1) (hp : (s.tree t).place m.tag = some (.held h))
    (hP : ∀ (u : State) v n, s.RoundOnly u → P (u.home h) → P ((State.reportSent v u n).home h))
    (hQ : ∀ (u : State) v n, s.RoundOnly u → Q (u.home h) → Q ((State.reportSent v u n).home h))
    (hPQ : ∀ u : State, s.RoundOnly u → (u.tree t).owner m.tag = some h → (u.tree t).queue = (s.tree t).headed.queue →
      (u.tree t).held = (s.tree t).headed.held → P (u.home h) → Q ((State.reportSent t u m).home h))
    (h₀ : P (s.home h)) : Q (s.sendHeaders.home h) := by
  have header : ∀ (R : Home → Prop) (u : State) (v : Tree), (∀ (u : State) v n, s.RoundOnly u → R (u.home h) → R ((State.reportSent v u n).home h)) →
      s.RoundOnly u → R (u.home h) → R ((u.sendHeader v).home h) := fun R u v hR hu hRu => by
    cases hv : (u.tree v).running
    · rw [State.sendHeader_stopped hv]; exact hRu
    · rw [State.sendHeader_running hv]
      exact (foldl_keeps (A := fun w => s.RoundOnly w ∧ R (w.home h)) (fun w n hw => ⟨hw.1.trans (State.reportSent_roundOnly v w n), hR w v n hw.1 hw.2⟩)
        _ ⟨hu.trans (u.headerSent_roundOnly v), hRu⟩).2
  refine (foldl_trees (A := fun u => (s.RoundOnly u ∧ P (u.home h)) ∧ u.tree t = s.tree t) (B := fun u => s.RoundOnly u ∧ Q (u.home h)) t
    ?_ ?_ ?_ ⟨⟨.refl s, h₀⟩, rfl⟩).2
  · rintro u v hv ⟨⟨hu, hPu⟩, ht⟩
    exact ⟨⟨hu.trans (u.sendHeader_roundOnly v), header P u v hP hu hPu⟩, (u.sendHeader_off hv).trans ht⟩
  · rintro u ⟨⟨hu, hPu⟩, ht⟩
    refine ⟨hu.trans (u.sendHeader_roundOnly t), ?_⟩
    rw [State.sendHeader_running (by rw [ht]; exact hr), ht]
    have hmem : m ∈ sentTwice (s.tree t).queue := List.mem_filter.2 ⟨hm, decide_eq_true hc⟩
    have hsent : (u.headerSent t).tree t = (s.tree t).sendHeader.settleBoundary := by rw [State.headerSent_tree, if_pos rfl, ht]
    have hheaded := (s.tree t).sendHeader.settleBoundary.dropsReported_frame (sentTwice (s.tree t).queue)
    rw [← TreeLine.headed_running hr] at hheaded
    refine (foldl_reaches (A := fun w => (s.RoundOnly w ∧ P (w.home h)) ∧ (w.tree t).owner m.tag = some h ∧
        (w.tree t).queue = (s.tree t).headed.queue ∧ (w.tree t).held = (s.tree t).headed.held) (B := fun w => s.RoundOnly w ∧ Q (w.home h))
      hmem ?_ ?_ ?_ ⟨⟨hu.trans (u.headerSent_roundOnly t), hPu⟩, ?_, ?_, ?_⟩).2
    · rintro w n ⟨⟨hw, hPw⟩, ho, hq, hh⟩
      refine ⟨⟨hw.trans (State.reportSent_roundOnly t w n), hP w t n hw hPw⟩, (State.reportSent_owner t w n t m.tag h).2 ho, ?_, ?_⟩
      · rw [State.reportSent_tree]
        split
        · rw [TreeLine.freeTag_frame]; exact hq
        · exact hq
      · rw [State.reportSent_tree]
        split
        · rw [TreeLine.freeTag_frame]; exact hh
        · exact hh
    · rintro w ⟨⟨hw, hPw⟩, ho, hq, hh⟩
      exact ⟨hw.trans (State.reportSent_roundOnly t w m), hPQ w hw ho hq hh hPw⟩
    · rintro w n ⟨hw, hQw⟩
      exact ⟨hw.trans (State.reportSent_roundOnly t w n), hQ w t n hw hQw⟩
    · rw [hsent, TreeLine.owner_iff, TreeLine.sendHeader_settle_place]; exact hp
    · rw [hsent, hheaded]
    · rw [hsent, hheaded]
  · rintro u v hv ⟨hu, hQu⟩
    exact ⟨hu.trans (u.sendHeader_roundOnly v), header Q u v hQ hu hQu⟩

end Sys2Proof.Machine
end

section
/-! SUPPORT. The round boundary put together (R7, R23, R44, R55, R62, R64, R66, R82, R83, R123). -/

namespace Sys2Proof.Machine

/-! ### The ticks of clock and entries -/

/-- The round clock and every entry at the boundary, before the maps are swapped (R23, R55, R66). -/
def State.ticked (s : State) : State :=
  (s.onClock RoundClock.boundary).mapHomes fun _ x => x.boundaryTick ((s.onClock RoundClock.boundary).runsFor x)

theorem State.ticked_home (s : State) (h : HomeIndex) : s.ticked.home h = (s.home h).boundaryTick (s.runsFor (s.home h)) :=
  State.mapHomes_home (s.onClock RoundClock.boundary) (fun _ x => x.boundaryTick ((s.onClock RoundClock.boundary).runsFor x)) h

@[simp] theorem State.ticked_tree (s : State) (t : Tree) : s.ticked.tree t = s.tree t := rfl

theorem exec_roundBoundary (s : State) : exec .roundBoundary s = .next s.begin.ticked.swapTrees.sendHeaders := rfl

theorem State.ticked_kept_fields (s : State) (h : HomeIndex) :
    (s.ticked.home h).tree = (s.home h).tree ∧ (s.ticked.home h).since = (s.home h).since := by
  rw [State.ticked_home, Home.boundaryTick_frame]
  exact ⟨rfl, rfl⟩

theorem State.ticked_soak {s : State} {h : HomeIndex} {t : Tree} (hs : (s.home h).state = .soaking) (ht : (s.home h).tree = some t)
    (hr : (s.tree t).running = true) : (s.ticked.home h).soak = (s.home h).soak - 1 := by
  have hrun : s.runsFor (s.home h) = true := by simp [State.runsFor, ht, hr]
  simp only [State.ticked_home, Home.boundaryTick, hs, hrun, if_true]

theorem State.ticked_soak_off {s : State} {h : HomeIndex} (hn : (s.home h).state ≠ .soaking ∨ ∀ t, (s.home h).tree = some t → (s.tree t).running = false) :
    (s.ticked.home h).soak = (s.home h).soak := by
  rw [State.ticked_home, Home.boundaryTick]
  split
  · rename_i hs
    have hrun : s.runsFor (s.home h) = false := by
      rw [State.runsFor]
      cases ht : (s.home h).tree with
      | none => rfl
      | some t => exact (hn.resolve_left (not_not.2 hs)) t ht
    rw [hrun]
    rfl
  all_goals rfl

theorem State.ticked_claim {s : State} {h : HomeIndex} {k : ClaimContext} (hs : (s.home h).state = .claiming) (hk : (s.home h).claim = some k) :
    (s.ticked.home h).claim = some (if k.sent then { k with hold := k.hold - 1 } else k) := by
  simp only [State.ticked_home, Home.boundaryTick, hs, hk, Option.map_some]

theorem State.ticked_claim_off {s : State} {h : HomeIndex} (hs : (s.home h).state ≠ .claiming) : (s.ticked.home h).claim = (s.home h).claim := by
  rw [State.ticked_home, Home.boundaryTick]
  split
  · split <;> rfl
  · rename_i e; exact absurd e hs
  all_goals rfl

/-! ### The tree after its swap and its header -/

theorem nextDiscovery_eq (zone : Option Zone) (n : Nat) :
    nextDiscovery zone n = if zone.any (fun z => z.purpose = .discover) then 0 else min 65535 (n + 1) := by
  unfold nextDiscovery
  split <;> rfl

theorem State.kept_eq (s : State) (t : Tree) :
    s.ticked.kept t = (s.tree t).shadow.windows.filter fun w =>
      inService (s.home w.home).state ∧ (s.home w.home).tree = some t ∧ (s.home w.home).silence = .none ∧ (s.home w.home).tag = some w.tag := by
  refine List.filter_congr fun w _ => ?_
  have hx := (s.home w.home).boundaryTick_frame (s.runsFor (s.home w.home))
  rw [State.survives, State.ticked_home, hx, Bool.eq_iff_iff]
  simp only [Home.eligible, Home.servedOn, Bool.and_eq_true, decide_eq_true_eq, and_assoc]

/-- The header moves a tree's queue, frees its drained tags and counts a settled probe's boundary (R7, R27, R123). -/
theorem TreeLine.headed_eq {x : TreeLine} (h : x.running = true) :
    x.headed = { x with
      queue := x.headed.queue
      tags := x.headed.tags
      search := { x.search with
        settle := if x.search.running = true ∧ x.search.phase = .settling ∧ (∀ m ∈ x.headed.queue ++ x.headed.held, m.awaited = false) then
          min 2 (x.search.settle + 1) else x.search.settle } } := by
  have hframe := x.sendHeader.settleBoundary.dropsReported_frame (sentTwice x.queue)
  rw [← TreeLine.headed_running h] at hframe
  have hsettle := x.sendHeader_settle_frame
  have hqueue : x.headed.queue = x.sendHeader.queue := by rw [hframe, hsettle]
  have hheld : x.headed.held = x.held := by rw [hframe, hsettle]
  have hsearch : x.headed.search = x.sendHeader.settleBoundary.search := by rw [hframe]
  have hsettled : x.sendHeader.settled = true ↔ ∀ m ∈ x.headed.queue ++ x.headed.held, m.awaited = false := by
    rw [hqueue, hheld]
    simp [TreeLine.settled, TreeLine.sendHeader, or_imp, forall_and]
  have hcount : x.headed.search = { x.search with
      settle := if x.search.running = true ∧ x.search.phase = .settling ∧ (∀ m ∈ x.headed.queue ++ x.headed.held, m.awaited = false) then
        min 2 (x.search.settle + 1) else x.search.settle } := by
    by_cases hc : x.search.running = true ∧ x.search.phase = .settling ∧ ∀ m ∈ x.headed.queue ++ x.headed.held, m.awaited = false
    · obtain ⟨hrun, hphase, hnone⟩ := hc
      rw [if_pos ⟨hrun, hphase, hnone⟩, hsearch, TreeLine.settleBoundary, if_pos ⟨hrun, hphase, hsettled.2 hnone⟩]
      rfl
    · rw [if_neg hc, hsearch, TreeLine.settleBoundary, if_neg fun ⟨hrun, hphase, hnone⟩ => hc ⟨hrun, hphase, hsettled.1 hnone⟩]
      rfl
  rw [← hcount, hframe, hsettle]

theorem TreeLine.headed_place {x : TreeLine} (h : x.running = true) (tag : Nat) :
    x.headed.place tag = if x.place tag = some .draining ∧ (∃ m ∈ x.queue, m.kind = .drop ∧ m.tag = tag ∧ m.count = 1) then some .free else x.place tag := by
  have hsent : (∃ m ∈ sentTwice x.queue, m.kind = .drop ∧ m.tag = tag) ↔ ∃ m ∈ x.queue, m.kind = .drop ∧ m.tag = tag ∧ m.count = 1 := by
    simp only [sentTwice, List.mem_filter, decide_eq_true_eq]
    exact ⟨fun ⟨m, ⟨hm, hc⟩, hk, ht⟩ => ⟨m, hm, hk, ht, hc⟩, fun ⟨m, hm, hk, ht, hc⟩ => ⟨m, ⟨hm, hc⟩, hk, ht⟩⟩
  rw [TreeLine.headed_running h, TreeLine.dropsReported_place, TreeLine.sendHeader_settle_place]
  simp only [hsent]

theorem TreeLine.headed_stopped {x : TreeLine} (h : x.running = false) : x.headed = x := if_neg (by rw [h]; decide)

/-! ### Homes that their trees' headers tell -/

theorem State.RoundOnly.config {s s' : State} (h : s.RoundOnly s') : s'.config = s.config := by
  have e : s' = { s with clock := s'.clock, homes := s'.homes, trees := s'.trees, out := s'.out } := h
  rw [e]

/-- R62: the last TAG-ASSIGN or LASER-ON for the tag of an ANNOUNCING entry, sent twice, takes it to SAMPLING. -/
theorem State.sendHeaders_announced {s : State} {t : Tree} {m : CtlMsg} {h : HomeIndex} (hr : (s.tree t).running = true)
    (hm : m ∈ (s.tree t).queue) (hc : m.count = 1) (hp : (s.tree t).place m.tag = some (.held h)) (ha : m.announces m.tag = true)
    (hph : (s.home h).phase = some .announcing)
    (hlast : ∀ y ∈ (s.sendHeaders.tree t).queue ++ (s.sendHeaders.tree t).held, y.announces m.tag = false) :
    (s.sendHeaders.home h).phase = some .sampling ∧ (s.sendHeaders.home h).state = (s.home h).state := by
  rw [State.sendHeaders_tree] at hlast
  have keeps : ∀ (u : State) v n, ((u.home h).phase = some .announcing ∨ (u.home h).phase = some .sampling) →
      ((State.reportSent v u n).home h).state = (u.home h).state ∧
        (((State.reportSent v u n).home h).phase = (u.home h).phase ∨ ((State.reportSent v u n).home h).phase = some .sampling) := by
    intro u v n hu
    obtain e | ⟨-, -, e⟩ | ⟨-, -, hset, -⟩ := State.reportSent_home v u n h
    · rw [e]; exact ⟨rfl, .inl rfl⟩
    · rw [e]; exact ⟨rfl, .inr rfl⟩
    · rw [hset] at hu
      simp at hu
  refine State.sendHeaders_reach (P := fun y => y.state = (s.home h).state ∧ (y.phase = some .announcing ∨ y.phase = some .sampling))
    (Q := fun y => y.phase = some .sampling ∧ y.state = (s.home h).state) hr hm hc hp ?_ ?_ ?_ ⟨rfl, .inl hph⟩
  · rintro u v n - ⟨hs, hu⟩
    obtain ⟨hs', hp'⟩ := keeps u v n hu
    refine ⟨hs'.trans hs, ?_⟩
    obtain hp' | hp' := hp'
    · rw [hp']; exact hu
    · exact .inr hp'
  · rintro u v n - ⟨hu, hs⟩
    obtain ⟨hs', hp'⟩ := keeps u v n (.inr hu)
    exact ⟨hp'.elim (fun e => e.trans hu) id, hs'.trans hs⟩
  · rintro u - ho hq hh ⟨hs, hu⟩
    have hreport : State.reportSent t u m = u.announced t m.tag := by
      cases hk : m.kind with
      | tagAssign _ | laserOn => simp only [State.reportSent, hk]
      | _ => simp [CtlMsg.announces, hk] at ha
    have hnone : ((u.tree t).queue ++ (u.tree t).held).any (fun y => y.announces m.tag) = false := by
      rw [hq, hh, List.any_eq_false]
      exact fun y hy e => absurd (e.symm.trans (hlast y hy)) (by decide)
    rw [hreport, State.announced_home]
    obtain hu | hu := hu
    · rw [if_pos ⟨ho, hu, hnone⟩]; exact ⟨rfl, hs⟩
    · rw [if_neg (by simp [hu])]; exact ⟨hu, hs⟩

/-- R64: the DELAY-SET of an accepted attempt, sent twice, takes its SETTING entry to SOAKING. -/
theorem State.sendHeaders_soaked {s : State} {t : Tree} {m : CtlMsg} {h : HomeIndex} {c : Config} {eq : Nat} (hr : (s.tree t).running = true)
    (hm : m ∈ (s.tree t).queue) (hc : m.count = 1) (hp : (s.tree t).place m.tag = some (.held h)) (hk : m.kind = .delaySet eq .enrollment)
    (hs : (s.home h).state = .measuring) (hph : (s.home h).phase = some .setting) (hcfg : s.config = some c) :
    (s.sendHeaders.home h).state = .soaking ∧ (s.sendHeaders.home h).phase = none ∧ (s.sendHeaders.home h).soak = c.soak := by
  have kept : ∀ (u : State) v n, ((u.home h).state = .soaking ∧ (u.home h).phase = none ∧ (u.home h).soak = c.soak) →
      (State.reportSent v u n).home h = u.home h := by
    rintro u v n ⟨hu, hph, -⟩
    obtain e | ⟨-, hann, -⟩ | ⟨-, hmeas, -⟩ := State.reportSent_home v u n h
    · exact e
    · rw [hph] at hann; cases hann
    · rw [hu] at hmeas; cases hmeas
  refine State.sendHeaders_reach
    (P := fun y => (y.state = .measuring ∧ y.phase = some .setting) ∨ (y.state = .soaking ∧ y.phase = none ∧ y.soak = c.soak))
    (Q := fun y => y.state = .soaking ∧ y.phase = none ∧ y.soak = c.soak) hr hm hc hp ?_ ?_ ?_ (.inl ⟨hs, hph⟩)
  · rintro u v n hu (⟨hs, hset⟩ | hdone)
    · obtain e | ⟨-, hann, -⟩ | ⟨-, -, -, e⟩ := State.reportSent_home v u n h
      · rw [e]; exact .inl ⟨hs, hset⟩
      · rw [hset] at hann; cases hann
      · rw [e, hu.config, hcfg]; exact .inr ⟨rfl, rfl, rfl⟩
    · rw [kept u v n hdone]; exact .inr hdone
  · intro u v n _ hdone
    rw [kept u v n hdone]; exact hdone
  · rintro u hu ho - - (⟨hs, hset⟩ | hdone)
    · have hreport : State.reportSent t u m = u.delaySent t m.tag := by simp only [State.reportSent, hk]
      rw [hreport, State.delaySent_home, if_pos ⟨ho, hs, hset⟩, hu.config, hcfg]
      exact ⟨rfl, rfl, rfl⟩
    · rw [kept u t m hdone]; exact hdone

/-! ### The whole boundary -/

/-- The clock at a round boundary (R23). -/
theorem State.boundary_clock (s : State) : s.ticked.swapTrees.sendHeaders.clock = s.clock.boundary :=
  (State.Fixed.foldl State.sendHeader_fixed Tree.all s.ticked.swapTrees).clock.trans
    (State.Fixed.foldl State.swapTree_fixed Tree.all s.ticked).clock

theorem State.boundary_roundOnly (s : State) : s.RoundOnly s.ticked.swapTrees.sendHeaders :=
  (State.RoundOnly.trans (b := s.ticked) rfl (.foldl State.swapTree_roundOnly Tree.all s.ticked)).trans (State.sendHeaders_roundOnly _)

theorem State.boundary_tree_stopped {s : State} {t : Tree} (hr : (s.tree t).running = false) : s.ticked.swapTrees.sendHeaders.tree t = s.tree t := by
  have hswap : s.ticked.swapTrees.tree t = s.tree t := by rw [State.swapTrees_tree, State.ticked_tree, if_neg (by rw [hr]; decide)]
  rw [State.sendHeaders_tree, hswap, TreeLine.headed_stopped hr]

theorem State.boundary_tree_running {s : State} {t : Tree} (hr : (s.tree t).running = true) :
    s.ticked.swapTrees.tree t = (s.tree t).swapped (s.ticked.kept t) := by
  rw [State.swapTrees_tree, State.ticked_tree, if_pos hr]

theorem RoundClock.boundary_within {c : RoundClock} (h : c.round < 49) :
    c.boundary = { c with number := c.number + 1, round := c.round + 1, mapPassed := false } := by
  have hr : ¬ 49 ≤ c.round := by omega
  simp [RoundClock.boundary, hr]

theorem RoundClock.boundary_epoch {c : RoundClock} (h : c.round = 49) :
    c.boundary.round = 0 ∧ c.boundary.epochDue = true ∧
      (c.epochInShare < 9 → c.boundary.epochInShare = c.epochInShare + 1 ∧ c.boundary.shareDue = c.shareDue) ∧
      (c.epochInShare = 9 → c.boundary.epochInShare = 0 ∧ c.boundary.shareDue = true) ∧
      (c.epochInSecond < 99 → c.boundary.epochInSecond = c.epochInSecond + 1 ∧ c.boundary.secondDue = c.secondDue) ∧
      (c.epochInSecond = 99 → c.boundary.epochInSecond = 0 ∧ c.boundary.secondDue = true) := by
  refine ⟨by simp [RoundClock.boundary, h], by simp [RoundClock.boundary, h], fun hlt => ?_, fun he => ?_, fun hlt => ?_, fun he => ?_⟩
  · have hn : ¬ 9 ≤ c.epochInShare := by omega
    simp [RoundClock.boundary, h, hn]
  · simp [RoundClock.boundary, h, he]
  · have hn : ¬ 99 ≤ c.epochInSecond := by omega
    simp [RoundClock.boundary, h, hn]
  · simp [RoundClock.boundary, h, he]

/-- A RUNNING tree after the boundary, as what its header leaves of the tree with its maps swapped. -/
theorem State.boundary_tree (s : State) (t : Tree) (hr : (s.tree t).running = true) :
    s.ticked.swapTrees.sendHeaders.tree t = ((s.tree t).swapped (s.ticked.kept t)).headed := by
  rw [State.sendHeaders_tree, State.boundary_tree_running hr]

/-- What the boundary does with the fields of a home that are its own: the tick moves soak and claim, the swap since, and the reports soak, phase and state. -/
structure State.BoundaryHome (s : State) (h : HomeIndex) : Prop where
  frame : s.ticked.swapTrees.sendHeaders.home h = { s.home h with
    soak := (s.ticked.swapTrees.sendHeaders.home h).soak, claim := (s.ticked.swapTrees.sendHeaders.home h).claim
    since := (s.ticked.swapTrees.sendHeaders.home h).since, phase := (s.ticked.swapTrees.sendHeaders.home h).phase
    state := (s.ticked.swapTrees.sendHeaders.home h).state }
  since : (s.ticked.swapTrees.sendHeaders.home h).since = (s.ticked.swapTrees.home h).since
  claim : (s.ticked.swapTrees.sendHeaders.home h).claim = (s.ticked.home h).claim
  swapped : s.ticked.swapTrees.home h = { s.home h with
    soak := (s.ticked.home h).soak, claim := (s.ticked.home h).claim, since := (s.ticked.swapTrees.home h).since }

theorem Home.boundary_frame {x x₁ x₂ x₃ : Home} (h₁ : x₁ = { x with soak := x₁.soak, claim := x₁.claim }) (h₂ : x₂ = { x₁ with since := x₂.since })
    (h₃ : x₂.Told x₃) :
    x₃ = { x with soak := x₃.soak, claim := x₃.claim, since := x₃.since, phase := x₃.phase, state := x₃.state } ∧ x₃.since = x₂.since ∧
      x₃.claim = x₁.claim ∧ x₂ = { x with soak := x₁.soak, claim := x₁.claim, since := x₂.since } := by
  have htold : x₃ = { x₂ with soak := x₃.soak, phase := x₃.phase, state := x₃.state } := h₃
  have hsince : x₃.since = x₂.since := by rw [htold]
  have hclaim : x₃.claim = x₁.claim := by rw [htold, h₂]
  have hswapped : x₂ = { x with soak := x₁.soak, claim := x₁.claim, since := x₂.since } := Eq.trans h₂ (by rw [h₁])
  refine ⟨htold.trans ?_, hsince, hclaim, hswapped⟩
  rw [hclaim, hsince, hswapped]

theorem State.boundaryHome (s : State) (h : HomeIndex) : s.BoundaryHome h := by
  have htick : s.ticked.home h = { s.home h with soak := (s.ticked.home h).soak, claim := (s.ticked.home h).claim } := by
    rw [State.ticked_home]
    exact Home.boundaryTick_frame _ _
  have hswap := s.ticked.swapTrees_sinceOnly h
  have htold := s.ticked.swapTrees.sendHeaders_told h
  obtain ⟨hframe, hsince, hclaim, hswapped⟩ := Home.boundary_frame htick hswap htold
  exact ⟨hframe, hsince, hclaim, hswapped⟩

theorem State.BoundaryHome.state_eq {s : State} {h : HomeIndex} (b : s.BoundaryHome h) : (s.ticked.swapTrees.home h).state = (s.home h).state := by
  rw [b.swapped]

theorem State.BoundaryHome.phase_eq {s : State} {h : HomeIndex} (b : s.BoundaryHome h) : (s.ticked.swapTrees.home h).phase = (s.home h).phase := by
  rw [b.swapped]

theorem State.BoundaryHome.soak_eq {s : State} {h : HomeIndex} (b : s.BoundaryHome h) : (s.ticked.swapTrees.home h).soak = (s.ticked.home h).soak := by
  rw [b.swapped]

/-- A SOAKING home hears of no message that would change its countdown (R64, R66). -/
theorem State.sendHeaders_soak {s : State} {h : HomeIndex} (hs : (s.home h).state = .soaking) : (s.sendHeaders.home h).soak = (s.home h).soak := by
  have keeps : ∀ (t : Tree) (u : State) (m : CtlMsg), (u.home h).state = .soaking ∧ (u.home h).soak = (s.home h).soak →
      ((State.reportSent t u m).home h).state = .soaking ∧ ((State.reportSent t u m).home h).soak = (s.home h).soak := by
    rintro t u m ⟨hst, hk⟩
    obtain e | ⟨-, -, e⟩ | ⟨-, hmeas, -⟩ := State.reportSent_home t u m h
    · rw [e]; exact ⟨hst, hk⟩
    · rw [e]; exact ⟨hst, hk⟩
    · rw [hst] at hmeas; cases hmeas
  refine (foldl_keeps (A := fun u => (u.home h).state = .soaking ∧ (u.home h).soak = (s.home h).soak) (fun u t hu => ?_) Tree.all ⟨hs, rfl⟩).2
  cases hr : (u.tree t).running
  · rw [State.sendHeader_stopped hr]; exact hu
  · rw [State.sendHeader_running hr]
    exact foldl_keeps (A := fun u => (u.home h).state = .soaking ∧ (u.home h).soak = (s.home h).soak) (keeps t) _ hu

/-- R66: the countdown of a SOAKING home is the tick's. -/
theorem State.boundary_soak {s : State} {h : HomeIndex} (hs : (s.home h).state = .soaking) :
    (s.ticked.swapTrees.sendHeaders.home h).soak = (s.ticked.home h).soak :=
  (State.sendHeaders_soak ((s.boundaryHome h).state_eq.trans hs)).trans (s.boundaryHome h).soak_eq

theorem State.swapTrees_config (s : State) : s.ticked.swapTrees.config = s.config :=
  State.RoundOnly.config (s := s) (State.RoundOnly.trans (b := s.ticked) rfl (.foldl State.swapTree_roundOnly Tree.all s.ticked))

/-- The trees' queues and tag tables stand until the headers. -/
theorem State.swapTrees_control (s : State) (t : Tree) :
    (s.ticked.swapTrees.tree t).running = (s.tree t).running ∧ (s.ticked.swapTrees.tree t).queue = (s.tree t).queue ∧
      ∀ k, (s.ticked.swapTrees.tree t).place k = (s.tree t).place k := by
  rw [State.swapTrees_tree]
  split
  · exact ⟨rfl, rfl, fun _ => rfl⟩
  · exact ⟨rfl, rfl, fun _ => rfl⟩

/-- A RUNNING tree at the boundary, field by field (R44, R45, R82, R123). -/
theorem State.boundary_tree_eq {s : State} {t : Tree} (hr : (s.tree t).running = true) :
    let x := s.tree t
    let y := s.ticked.swapTrees.sendHeaders.tree t
    let zone := if x.searchSinceMap then none else x.shadow.zone
    y = { x with
      active := ⟨x.shadow.windows.filter (fun w =>
        inService (s.home w.home).state ∧ (s.home w.home).tree = some t ∧ (s.home w.home).silence = .none ∧ (s.home w.home).tag = some w.tag),
        zone, x.shadow.quiet⟩
      shadow := ⟨[], none, false⟩
      windowsTaken := 0, zoneTaken := false, lastBlockLit := false, quietTaken := x.quietLeft.isSome, lateQuiet := x.quietLeft
      discovery := if zone.any (fun z => z.purpose = .discover) then 0 else min 65535 (x.discovery + 1)
      queue := y.queue
      tags := y.tags
      search := { x.search with
        settle := if x.search.running = true ∧ x.search.phase = .settling ∧ (∀ m ∈ y.queue ++ y.held, m.awaited = false) then
          min 2 (x.search.settle + 1) else x.search.settle } } := by
  dsimp only
  rw [s.boundary_tree t hr]
  have heq := TreeLine.headed_eq (x := (s.tree t).swapped (s.ticked.kept t)) hr
  generalize ((s.tree t).swapped (s.ticked.kept t)).headed = z at heq
  refine heq.trans ?_
  simp only [TreeLine.swapped, State.kept_eq, nextDiscovery_eq, GrantMap.empty]

/-- Settles O48: the tick, the swap and the headers each change their own fields, and the trees take their turns without meeting. -/
theorem roundBoundaryMovesOn : Obligations.RoundBoundaryMovesOn := by
  intro s
  have hclock := s.begin.boundary_clock
  refine ⟨_, exec_roundBoundary s, s.begin.boundary_roundOnly, ?_, ?_, fun hlt => ?_, fun he => ?_, fun t hr => ?_, fun t hr => ⟨?_, fun tag => ?_⟩,
    fun h => ⟨(s.begin.boundaryHome h).frame, fun t ht hr => ?_, fun hoff => ⟨?_, fun hs => ?_⟩, fun k hs hk => ?_, fun hs => ?_, fun t hs ht hr => ?_,
      fun hn => ?_, fun t m hr hm hc hp => ⟨fun ha hph hlast => ?_, fun c eq hk hs hph hcfg => ?_⟩⟩⟩
  · rw [hclock]; rfl
  · rw [hclock]; rfl
  · rw [hclock]; exact RoundClock.boundary_within hlt
  · rw [hclock]; exact RoundClock.boundary_epoch he
  · exact State.boundary_tree_stopped (s := s.begin) hr
  · exact State.boundary_tree_eq (s := s.begin) hr
  · rw [State.boundary_tree s.begin t hr]
    exact TreeLine.headed_place (x := (s.tree t).swapped (s.begin.ticked.kept t)) hr tag
  · have hwin : (s.begin.ticked.swapTrees.sendHeaders.tree t).active.windows = s.begin.ticked.kept t := by
      rw [State.boundary_tree_eq (s := s.begin) hr, State.kept_eq]
    rw [(s.begin.boundaryHome h).since, hwin]
    refine (State.swapTrees_since (s := s.begin.ticked) (t := t) ((s.begin.ticked_kept_fields h).1.trans ht) hr).trans ?_
    rw [(s.begin.ticked_kept_fields h).2]
    rfl
  · refine (s.begin.boundaryHome h).since.trans ((State.swapTrees_since_off (s := s.begin.ticked) fun t ht => hoff t ?_).trans
      (s.begin.ticked_kept_fields h).2)
    exact (s.begin.ticked_kept_fields h).1.symm.trans ht
  · exact (State.boundary_soak (s := s.begin) hs).trans (State.ticked_soak_off (s := s.begin) (.inr hoff))
  · rw [(s.begin.boundaryHome h).claim]; exact State.ticked_claim (s := s.begin) hs hk
  · rw [(s.begin.boundaryHome h).claim]; exact State.ticked_claim_off (s := s.begin) hs
  · exact (State.boundary_soak (s := s.begin) hs).trans (State.ticked_soak (s := s.begin) hs ht hr)
  · have hhome : s.begin.ticked.swapTrees.sendHeaders.home h = s.begin.ticked.swapTrees.home h := by
      refine State.sendHeaders_untold fun t => ?_
      rintro ⟨hr, m, hm, hc, hp⟩
      obtain ⟨hrun, hqueue, hplace⟩ := s.begin.swapTrees_control t
      exact hn t (hrun.symm.trans hr) m (hqueue ▸ hm) hc ((hplace m.tag).symm.trans hp)
    rw [hhome]
    refine ⟨(s.begin.boundaryHome h).phase_eq, (s.begin.boundaryHome h).state_eq, fun hs => ?_⟩
    exact (s.begin.boundaryHome h).soak_eq.trans (State.ticked_soak_off (s := s.begin) (.inl hs))
  · obtain ⟨hrun, hqueue, hplace⟩ := s.begin.swapTrees_control t
    obtain ⟨hphase, hstate⟩ := State.sendHeaders_announced (hrun.trans hr) (hqueue.symm ▸ hm) hc ((hplace m.tag).trans hp) ha
      ((s.begin.boundaryHome h).phase_eq.trans hph) hlast
    exact ⟨hphase, hstate.trans (s.begin.boundaryHome h).state_eq⟩
  · obtain ⟨hrun, hqueue, hplace⟩ := s.begin.swapTrees_control t
    have hconfig : s.begin.ticked.swapTrees.config = s.config := s.begin.swapTrees_config
    exact State.sendHeaders_soaked (hrun.trans hr) (hqueue.symm ▸ hm) hc ((hplace m.tag).trans hp) hk
      ((s.begin.boundaryHome h).state_eq.trans hs) ((s.begin.boundaryHome h).phase_eq.trans hph) (hconfig.trans hcfg)

end Sys2Proof.Machine
end

section
/-! SUPPORT. What the receivers bring in a round: levels (R29), downstream packets (R40) and quiet windows (R34, R105, R113, R124), and that a quiet window stays on its tree
(chapter 7). -/

namespace Sys2Proof.Machine

/-! ### Levels and downstream packets -/

/-- Settles O17: the detect level is the model's own test, and the mean of two bytes rounds down within a byte's range. -/
theorem litBlocksAndBurstLevel : Obligations.LitBlocksAndBurstLevel := by
  refine ⟨fun l => decide_eq_true_iff, fun a b => ?_⟩
  have ha := a.isLt
  have hb := b.isLt
  unfold burstLevel
  omega

/-- R40, R149: a packet for a home in service on a RUNNING tree goes out and is metered. -/
theorem State.downstream_forwarded {s : State} {h : HomeIndex} {t : Tree} (packet : List Byte) (ht : (s.home h).tree = some t)
    (hs : inService (s.home h).state = true) (hr : (s.tree t).running = true) :
    s.downstream h.val packet = (s.onHome h fun y => y.onOpen fun b => b.countDown s.cal.band packet.length).emit (.downstreamPacket t h packet) := by
  unfold State.downstream
  rw [dif_pos h.isLt]
  simp only [Fin.eta, ht, hs, hr, Bool.and_self, if_true]

/-- R40: a packet whose home index names no home in service on a RUNNING tree is dropped and counted. -/
theorem State.downstream_refused {s : State} {n : Nat} (packet : List Byte)
    (hn : ∀ h : HomeIndex, h.val = n → inService (s.home h).state = true → ∀ t, (s.home h).tree = some t → (s.tree t).running = false) :
    s.downstream n packet = s.refuseDownstream := by
  unfold State.downstream
  split
  · rename_i hlt
    dsimp only
    split
    · rename_i t ht
      refine if_neg fun hb => ?_
      obtain ⟨hs, hr⟩ := Bool.and_eq_true_iff.1 hb
      rw [hn ⟨n, hlt⟩ rfl hs t ht] at hr
      cases hr
    · rfl
  · rfl

/-- Settles O60: the packet's home decides between the two. -/
theorem downstreamForwardedOrRefused : Obligations.DownstreamForwardedOrRefused := fun s packet =>
  ⟨fun _ _ ht hs hr => congrArg Host.Outcome.next (State.downstream_forwarded (s := s.begin) packet ht hs hr),
    fun _ hn => congrArg Host.Outcome.next (State.downstream_refused (s := s.begin) packet hn)⟩

/-! ### Quiet windows as evidence and as observations -/

/-- A reserved quiet window of this round is handed on with the level judged against the dark threshold (R34). -/
theorem exec_quietWindow {s : State} {c : Config} {t : Tree} (level : Byte) (hc : s.config = some c) (hq : (s.tree t).active.quiet = true)
    (ht : (s.tree t).quietTaken = false) :
    exec (.quietWindowMeasured t level) s =
      .next ((s.begin.onTree t fun y => { y with quietTaken := true }).handQuiet t true (decide (c.dark ≤ level.toNat))) := by
  refine congrArg Host.Outcome.next ?_
  simp only [State.begin_config, hc, State.quietWindow, State.begin_tree, hq, ht, Bool.not_false, Bool.and_self, if_true]

/-- R113, R114: an addition that leaves the counter below 16, or meets a running hold-off, starts no search. -/
theorem State.addDark_counts {s : State} {t : Tree} {w : Nat} (hr : (s.tree t).search.running = false)
    (hb : (s.tree t).darkCounter + w < 16 ∨ 0 < (s.tree t).holdOff) :
    s.addDark t w = s.onTree t fun y => { y with darkCounter := min 255 (y.darkCounter + w) } := by
  have hno : ¬ (16 ≤ satAdd 255 (s.tree t).darkCounter w ∧ (s.tree t).running = true ∧ (s.tree t).holdOff = 0) := by
    rintro ⟨h16, -, h0⟩
    unfold satAdd at h16
    omega
  simp only [State.addDark, hr, Bool.false_eq_true, if_false, if_neg hno]
  rfl

/-- R113: while a search runs nothing is added to the dark counter. -/
theorem State.addDark_searching {s : State} {t : Tree} (w : Nat) (hr : (s.tree t).search.running = true) : s.addDark t w = s := if_pos hr

theorem State.onTree_self (s : State) (t : Tree) (f : TreeLine → TreeLine) : (s.onTree t f).tree t = f (s.tree t) := by
  rw [State.onTree_tree, if_pos rfl]

/-- R105, R113, R114: DARK is counted and added to the dark counter, and starts no search below 16 or in a hold-off. -/
theorem State.dark_counts {s : State} {t : Tree} (hr : (s.tree t).search.running = false)
    (hb : (s.tree t).darkCounter < 12 ∨ 0 < (s.tree t).holdOff) :
    s.dark t = s.onTree t fun y => { y with darks := min 65535 (y.darks + 1), darkCounter := min 255 (y.darkCounter + 4) } := by
  rw [State.dark, State.addDark_counts (by rwa [State.onTree_self]) (by rw [State.onTree_self]; exact hb.imp (Nat.add_lt_add_right · 4) id), State.onTree_onTree]
  rfl

/-- R123: a SETTLING probe observes nothing. -/
theorem State.observe_settling {s : State} {t : Tree} (dark : Bool) (hp : (s.tree t).search.phase = .settling) : s.observe t dark = s := by
  simp only [State.observe, hp]

/-- R124: the first and the second observation of a probe are counted. -/
theorem State.observe_counts {s : State} {t : Tree} (dark : Bool) (hp : (s.tree t).search.phase = .observing)
    (ho : (s.tree t).search.observations < 2) :
    s.observe t dark = s.onSearch t fun x => { x with observations := x.observations + 1, dark := x.dark + if dark then 1 else 0 } := by
  have hlt : ¬ 3 ≤ (s.tree t).search.observations + 1 := by omega
  simp only [State.observe, hp, if_neg hlt]
  rfl

/-- R34: during a search a quiet window of an observed round is the probe's. -/
theorem State.handQuiet_searching {s : State} {t : Tree} (dark : Bool) (hr : (s.tree t).search.running = true) :
    s.handQuiet t true dark = s.observe t dark := by
  simp only [State.handQuiet, hr, if_true]

/-- R34: without a search a quiet window is DARK or nothing. -/
theorem State.handQuiet_idle {s : State} {t : Tree} (dark : Bool) (hr : (s.tree t).search.running = false) :
    s.handQuiet t true dark = if dark then s.dark t else s := by
  simp only [State.handQuiet, hr, Bool.false_eq_true, if_false]

/-- Settles O58: without a search the level decides, and during one the probe's phase. -/
theorem quietWindowsJudged : Obligations.QuietWindowsJudged := by
  intro s c t level hc hq ht
  have hself := s.begin.onTree_self t fun y => { y with quietTaken := true }
  rw [exec_quietWindow level hc hq ht]
  refine ⟨fun hr hl => ?_, fun hr hl hb => ?_, fun hr hp => ?_, fun hr hp ho => ?_⟩ <;> refine congrArg Host.Outcome.next ?_
  · rw [State.handQuiet_idle _ (by rw [hself]; exact hr), decide_eq_false (Nat.not_le.2 hl)]
    rfl
  · rw [State.handQuiet_idle _ (by rw [hself]; exact hr), decide_eq_true hl, if_pos rfl,
      State.dark_counts (by rw [hself]; exact hr) (by rw [hself]; exact hb), State.onTree_onTree]
    rfl
  · rw [State.handQuiet_searching _ (by rw [hself]; exact hr), State.observe_settling _ (by rw [hself]; exact hp)]
    rfl
  · rw [State.handQuiet_searching _ (by rw [hself]; exact hr), State.observe_counts _ (by rw [hself]; exact hp) (by rw [hself]; exact ho),
      State.onSearch, State.onTree_onTree]
    simp only [decide_eq_true_eq]
    rfl

/-! ### A quiet window stays on its tree -/

/-- The change stays on one tree: other trees and the entries of other trees stand as they stood, no entry changes its tree, and only homes, trees and the link
controller are touched. -/
structure State.Confined (t : Tree) (s s' : State) : Prop where
  trees : ∀ u, u ≠ t → s'.tree u = s.tree u
  homes : ∀ h, (s.home h).tree ≠ some t → s'.home h = s.home h
  stays : ∀ h, (s'.home h).tree = (s.home h).tree
  frame : s' = { s with homes := s'.homes, trees := s'.trees, link := s'.link }

namespace State.Confined

variable {t : Tree}

theorem refl (s : State) : s.Confined t s := ⟨fun _ _ => rfl, fun _ _ => rfl, fun _ => rfl, rfl⟩

theorem trans {a b c : State} (h : a.Confined t b) (k : b.Confined t c) : a.Confined t c where
  trees u hu := (k.trees u hu).trans (h.trees u hu)
  homes i hi := (k.homes i (by rw [h.stays]; exact hi)).trans (h.homes i hi)
  stays i := (k.stays i).trans (h.stays i)
  frame := k.frame.trans (by rw [h.frame])

theorem foldl {α : Type} {f : State → α → State} (hf : ∀ (s : State) (a : α), s.Confined t (f s a)) (xs : List α) (s : State) : s.Confined t (xs.foldl f s) :=
  foldl_keeps (A := s.Confined t) (fun _ a h => h.trans (hf _ a)) xs (.refl s)

theorem onTree (s : State) (f : TreeLine → TreeLine) : s.Confined t (s.onTree t f) :=
  ⟨fun u hu => by rw [State.onTree_tree, if_neg hu], fun _ _ => rfl, fun _ => rfl, rfl⟩

theorem onLink (s : State) (f : Link → Link) : s.Confined t (s.onLink f) := ⟨fun _ _ => rfl, fun _ _ => rfl, fun _ => rfl, rfl⟩

theorem offerCtl (s : State) (m : CtlMsg) : s.Confined t (s.offerCtl t m) := onTree s _

theorem onSearch (s : State) (f : SearchContext → SearchContext) : s.Confined t (s.onSearch t f) := onTree s _

theorem event (s : State) (e : EventKind) : s.Confined t (s.event e) := onLink s (fun l => l.offerUrgent ⟨toAll, .event e, false⟩)

/-- An entry of the tree changed without leaving it. -/
theorem onHome {s : State} {h : HomeIndex} {f : Home → Home} (ht : (s.home h).tree = some t) (hf : (f (s.home h)).tree = some t) :
    s.Confined t (s.onHome h f) where
  trees _ _ := rfl
  homes i hi := by
    rw [State.onHome_home, if_neg]
    rintro rfl
    exact hi ht
  stays i := by
    rw [State.onHome_home]
    split
    · rename_i e; rw [e, hf, ht]
    · rfl
  frame := rfl

end State.Confined

theorem State.present_tree {s : State} {t : Tree} {c : Candidate} (h : s.present t c = true) : (s.home c.home).tree = some t :=
  ((Home.servedOn_iff _ _).1 (Bool.and_eq_true_iff.1 h).1).2

/-- R122: only present candidates are commanded, and they are on the tree. -/
theorem State.commandCandidate_confined (s : State) (t : Tree) (target : List Nat) (p : Candidate × Nat) :
    s.Confined t (s.commandCandidate t target p) := by
  unfold State.commandCandidate
  dsimp only
  split
  · rename_i hp
    have ht := State.present_tree hp
    split
    · exact .refl s
    · split
      · exact (State.Confined.onHome ht ht).trans (.offerCtl _ _)
      · split
        · exact (State.Confined.onHome ht ht).trans (.offerCtl _ _)
        · exact .refl s
  · exact .refl s

theorem State.setupProbe_confined (s : State) (t : Tree) (step : SearchStep) (a b : Nat) : s.Confined t (s.setupProbe t step a b) :=
  (State.Confined.onSearch s _).trans (.foldl (fun s p => s.commandCandidate_confined t _ p) _ _)

theorem State.startSearch_confined (s : State) (t : Tree) (c : SearchCause) : s.Confined t (s.startSearch t c) :=
  (State.Confined.onTree s _).trans (State.setupProbe_confined _ _ _ _ _)

/-- R134: only the tree's own entries have their silence ended. -/
theorem State.endSilence_confined (t : Tree) (s : State) (h : HomeIndex) : s.Confined t (State.endSilence t s h) := by
  unfold State.endSilence
  dsimp only
  split
  · rename_i hs
    split
    · exact (State.Confined.onHome hs.1 hs.1).trans (.offerCtl _ _)
    · exact State.Confined.onHome hs.1 hs.1
  · exact .refl s

theorem State.endSearch_confined (s : State) (t : Tree) (o : SearchOutcome) (r : SearchReason) : s.Confined t (s.endSearch t o r) :=
  (State.Confined.onTree s _).trans ((State.Confined.foldl (State.endSilence_confined t) homeIndexes _).trans
    ((State.Confined.onTree _ _).trans (.event _ _)))

theorem State.nextProbe_confined (s : State) (t : Tree) (step : SearchStep) (a b : Nat) : s.Confined t (s.nextProbe t step a b) := by
  unfold State.nextProbe
  split
  · exact s.endSearch_confined t _ _
  · exact s.setupProbe_confined t _ _ _

theorem State.examine_confined (s : State) (t : Tree) (a b : Nat) : s.Confined t (s.examine t a b) := by
  unfold State.examine
  split <;> exact s.nextProbe_confined t _ _ _

theorem State.popTrail_confined (s : State) (t : Tree) : s.Confined t (s.popTrail t) := by
  unfold State.popTrail
  dsimp only
  split
  · exact s.nextProbe_confined t _ _ _
  · exact (State.Confined.onSearch s _).trans (State.examine_confined _ _ _ _)

theorem Home.toIsolated_tree (x : Home) : x.toIsolated.tree = x.tree := by
  unfold Home.toIsolated
  rw [x.pendingToDiscarded_frame]

/-- R109: an entry of the tree isolated changes its tree and the link controller. -/
theorem State.isolate_confined {s : State} {t : Tree} {h : HomeIndex} (cause : IsolateCause) (e : Option Evidence) (ht : (s.home h).tree = some t) :
    s.Confined t (s.isolate h cause e) := by
  have hi : s.Confined t (s.onHome h fun x => x.toIsolated) := .onHome ht ((Home.toIsolated_tree _).trans ht)
  unfold State.isolate
  simp only [ht]
  refine State.Confined.trans (hi.trans ?_) (.event _ _)
  split
  · exact (State.Confined.onTree _ _).trans (.offerCtl _ _)
  · exact .onTree _ _

theorem State.confirmClear_confined (s : State) (t : Tree) (p : Nat) : s.Confined t (s.confirmClear t p) := by
  unfold State.confirmClear
  split
  · exact .refl s
  · split
    · rename_i hp
      exact (State.isolate_confined _ _ (State.present_tree hp)).trans (.onSearch _ _)
    · split
      · exact .onSearch s _
      · exact .refl s

theorem State.verdict_confined (s : State) (t : Tree) (lit : Bool) : s.Confined t (s.verdict t lit) := by
  unfold State.verdict
  dsimp only
  split
  · exact s.endSearch_confined t _ _
  · split
    · exact s.nextProbe_confined t _ _ _
    · exact s.examine_confined t _ _
  · exact s.examine_confined t _ _
  · exact (State.Confined.onSearch s _).trans (State.examine_confined _ _ _ _)
  · exact (s.confirmClear_confined t _).trans (State.nextProbe_confined _ _ _ _ _)
  · exact s.popTrail_confined t
  · exact s.endSearch_confined t _ _
  · exact s.popTrail_confined t
  · exact s.endSearch_confined t _ _
  · exact s.endSearch_confined t _ _

theorem State.observe_confined (s : State) (t : Tree) (dark : Bool) : s.Confined t (s.observe t dark) := by
  unfold State.observe
  dsimp only
  split
  · exact .refl s
  · split
    · exact (State.Confined.onSearch s _).trans (State.verdict_confined _ _ _)
    · exact .onSearch s _

theorem State.addDark_confined (s : State) (t : Tree) (w : Nat) : s.Confined t (s.addDark t w) := by
  unfold State.addDark
  dsimp only
  split
  · exact .refl s
  · split
    · exact (State.Confined.onTree s _).trans ((State.Confined.onTree _ _).trans (State.startSearch_confined _ _ _))
    · exact .onTree s _

theorem State.dark_confined (s : State) (t : Tree) : s.Confined t (s.dark t) := (State.Confined.onTree s _).trans (State.addDark_confined _ _ _)

theorem State.handQuiet_confined (s : State) (t : Tree) (observed dark : Bool) : s.Confined t (s.handQuiet t observed dark) := by
  unfold State.handQuiet
  split
  · split
    · exact s.observe_confined t dark
    · exact .refl s
  · split
    · exact s.dark_confined t
    · exact .refl s

theorem State.quietWindow_confined (s : State) (c : Config) (t : Tree) (level : Byte) : s.Confined t (s.quietWindow c t level) := by
  unfold State.quietWindow
  dsimp only
  split
  · exact (State.Confined.onTree s _).trans (State.handQuiet_confined _ _ _ _)
  · split
    · exact (State.Confined.onTree s _).trans (State.handQuiet_confined _ _ _ _)
    · exact .refl s

/-- Settles O59: every operation a quiet window leads to is confined to its tree. -/
theorem quietWindowStaysOnItsTree : Obligations.QuietWindowStaysOnItsTree := by
  intro s t level
  obtain ⟨s', hx, h⟩ : ∃ s', exec (.quietWindowMeasured t level) s = .next s' ∧ s.begin.Confined t s' := by
    refine ⟨_, rfl, ?_⟩
    dsimp only
    split
    · exact s.begin.quietWindow_confined _ t level
    · exact .refl _
  exact ⟨s', hx, h.trees, h.homes, h.frame⟩

end Sys2Proof.Machine
end

section
/-! SUPPORT. Bursts: how a window's burst is judged (R30), what a good burst does with its home and its tree (R32, R36, R37, R39), and what evidence brings about (R100 to R104,
R108, R109). -/

namespace Sys2Proof.Machine

/-! ### One home and one tree replaced -/

theorem State.onHome_onHome (s : State) (h : HomeIndex) (f g : Home → Home) : (s.onHome h f).onHome h g = s.onHome h (g ∘ f) := by
  have e : (s.onHome h f).home h = f (s.home h) := by rw [State.onHome_home, if_pos rfl]
  rw [State.onHome, e]
  simp only [State.onHome, State.setHome, Vector.set_set, Function.comp]

theorem State.onTree_congr {s : State} {t : Tree} {f g : TreeLine → TreeLine} (h : f (s.tree t) = g (s.tree t)) : s.onTree t f = s.onTree t g :=
  congrArg (s.setTree t) h

theorem State.onLink_congr {s : State} {f g : Link → Link} (h : f s.link = g s.link) : s.onLink f = s.onLink g := by
  rw [State.onLink, h, State.onLink]

theorem Quad_set_comm {α : Type} (q : Quad α) {i j : Fin 4} (x y : α) (h : i ≠ j) : (q.set i x).set j y = (q.set j y).set i x := by
  refine Quad_ext fun k => ?_
  simp only [Quad_get_set]
  split_ifs with hj hi
  · exact absurd (hi.symm.trans hj) h
  all_goals rfl

/-- Two changes of trees that do not meet in a tree's fields may be made in either order. -/
theorem State.onTree_comm (s : State) (t u : Tree) {f g : TreeLine → TreeLine} (h : ∀ x, f (g x) = g (f x)) :
    (s.onTree t f).onTree u g = (s.onTree u g).onTree t f := by
  by_cases e : t = u
  · subst e
    rw [State.onTree_onTree, State.onTree_onTree]
    exact congrArg (s.onTree t) (funext fun x => (h x).symm)
  · have hu : (s.onTree t f).tree u = s.tree u := by rw [State.onTree_tree, if_neg (Ne.symm e)]
    have ht : (s.onTree u g).tree t = s.tree t := by rw [State.onTree_tree, if_neg e]
    have hidx : t.idx ≠ u.idx := fun e' => e (Tree_idx_inj.1 e')
    rw [State.onTree.eq_1 (s.onTree t f), hu, State.onTree.eq_1 (s.onTree u g), ht]
    simp only [State.onTree, State.setTree, Quad_set_comm _ _ _ hidx]

/-- The state with one home and one tree replaced: the form in which a burst of the home's window leaves the part. -/
def State.put (s : State) (h : HomeIndex) (y : Home) (t : Tree) (u : TreeLine) : State :=
  { s with homes := s.homes.set h y, trees := s.trees.set t.idx u }

section Put

variable (s : State) (h : HomeIndex) (y : Home) (t : Tree) (u : TreeLine)

@[simp] theorem State.put_home : (s.put h y t u).home h = y := by simp [State.put, State.home]
@[simp] theorem State.put_tree : (s.put h y t u).tree t = u := by simp [State.put, State.tree]
@[simp] theorem State.put_setHome (z : Home) : (s.put h y t u).setHome h z = s.put h z t u := by
  simp only [State.setHome, State.put, Vector.set_set]
@[simp] theorem State.put_onHome (f : Home → Home) : (s.put h y t u).onHome h f = s.put h (f y) t u := by
  rw [State.onHome, State.put_home, State.put_setHome]
@[simp] theorem State.put_onTree (f : TreeLine → TreeLine) : (s.put h y t u).onTree t f = s.put h y t (f u) := by
  rw [State.onTree, State.put_tree]
  simp only [State.setTree, State.put, Quad_set_set]

theorem State.onTree_eq_put (f : TreeLine → TreeLine) : s.onTree t f = s.put h (s.home h) t (f (s.tree t)) := by
  have hh : s.homes.set h (s.home h) = s.homes := Vector.set_getElem_self h.isLt
  simp only [State.put, hh]
  rfl

end Put

/-! ### How a window's burst is judged (R30) -/

/-- The window directly before the next one of a tree's active map. -/
def TreeLine.windowBefore (x : TreeLine) : Option Window := if x.windowsTaken = 0 then none else x.active.windows[x.windowsTaken - 1]?

/-- The next window of the active map is taken, and its burst and its guard block are judged in the order `guardFirst` gives. -/
theorem exec_burst {s : State} {c : Config} {t : Tree} {b : BurstRx} {w : Window} (hc : s.config = some c)
    (hw : (s.tree t).active.windows[(s.tree t).windowsTaken]? = some w) :
    exec (.burstReceived t b) s =
      .next (if b.guardFirst then
          ((s.begin.onTree t fun y => windowTaken y b).takeGuard t (s.tree t).windowBefore (s.tree t).lastBlockLit w b).takeBurst c t w b
        else ((s.begin.onTree t fun y => windowTaken y b).takeBurst c t w b).takeGuard t (s.tree t).windowBefore (s.tree t).lastBlockLit w b) := by
  refine congrArg Host.Outcome.next ?_
  simp only [State.begin_config, hc, State.burst, State.begin_tree, hw]
  rfl

/-- R35: an unlit guard block is no evidence. -/
theorem State.takeGuard_dark {b : BurstRx} (hg : (b.levels.getD 0 0).toNat < 8) (s : State) (t : Tree) (v : Option Window) (lit : Bool) (w : Window) :
    s.takeGuard t v lit w b = s := by
  have hl : litAt (b.levels.getD 0 0) = false := decide_eq_false (Nat.not_le.2 hg)
  rw [State.takeGuard, hl]
  rfl

theorem exec_burst_dark {s : State} {c : Config} {t : Tree} {b : BurstRx} {w : Window} (hc : s.config = some c)
    (hw : (s.tree t).active.windows[(s.tree t).windowsTaken]? = some w) (hg : (b.levels.getD 0 0).toNat < 8) :
    exec (.burstReceived t b) s = .next ((s.begin.onTree t fun y => windowTaken y b).takeBurst c t w b) := by
  rw [exec_burst hc hw]
  simp only [State.takeGuard_dark hg, ite_self]

theorem judge_noLight {b : BurstRx} {tag : Nat} (h : ∀ l ∈ b.levels, l.toNat < 8) : judge b tag = .noLight := by
  refine if_pos (List.all_eq_true.2 fun l hl => ?_)
  simp only [litAt, decide_eq_false (Nat.not_le.2 (h l hl)), Bool.not_false]

/-- A window with a lit block is judged by the head found in the search span. -/
theorem not_dark_of_lit {b : BurstRx} (h : ∃ l ∈ b.levels, 8 ≤ l.toNat) : ¬ (b.levels.all fun l => !litAt l) = true := by
  obtain ⟨l, hl, h8⟩ := h
  intro hall
  have hd := List.all_eq_true.1 hall l hl
  simp only [litAt, decide_eq_true h8, Bool.not_true, Bool.false_eq_true] at hd

theorem judge_bad {b : BurstRx} {tag : Nat} (h : ∃ l ∈ b.levels, 8 ≤ l.toNat) (hh : b.head = none) : judge b tag = .bad := by
  rw [judge, if_neg (not_dark_of_lit h), hh]

theorem judge_good {b : BurstRx} {δ : Int} {bytes : List Byte} {head : Head} (h : ∃ l ∈ b.levels, 8 ≤ l.toNat) (hh : b.head = some (δ, bytes))
    (hs : -64 ≤ δ ∧ δ ≤ 63) (hr : readHead bytes = some head) : judge b head.tag = .good δ head := by
  rw [judge, if_neg (not_dark_of_lit h), hh]
  simp only [if_pos hs, hr, if_true]

/-! ### The payload (R32, R149, R150, R181) -/

/-- Things put on the part's faces, in order. -/
def State.sends (s : State) (os : List Output) : State := { s with out := s.out ++ os }

theorem foldl_emit {α : Type} (f : α → Output) (xs : List α) (s : State) : xs.foldl (fun s x => s.emit (f x)) s = s.sends (xs.map f) := by
  induction xs generalizing s with
  | nil => simp [State.sends]
  | cons x xs ih => rw [List.foldl_cons, ih]; simp [State.sends, State.emit]

/-- The packets of a payload go to the payload port and are metered; a bad payload is counted. -/
theorem State.put_deliverPayload (s : State) (h : HomeIndex) (y : Home) (t : Tree) (u : TreeLine) (packets : Option (List (List Byte))) :
    (s.put h y t u).deliverPayload t h packets =
      (s.sends ((packets.getD []).map fun p => .upstreamPacket h p)).put h (paid y s.cal.band packets) t
        { u with badPayloads := if packets.isNone then min 65535 (u.badPayloads + 1) else u.badPayloads } := by
  cases packets with
  | none =>
    rw [State.deliverPayload, State.put_onTree]
    simp only [State.sends, Option.getD_none, List.map_nil, List.append_nil]
    rfl
  | some ps =>
    simp only [State.deliverPayload, foldl_emit]
    exact State.put_onHome (s.sends (ps.map (.upstreamPacket h))) h y t u _

theorem paid_frame (x : Home) (band : Band) (packets : Option (List (List Byte))) :
    paid x band packets =
      { x with bankA := (paid x band packets).bankA, bankB := (paid x band packets).bankB, pending := (paid x band packets).pending } := by
  cases packets with
  | none => rfl
  | some ps => exact x.deliver_frame band _

/-- R107, R150: an upstream delivery does not read the level estimate. -/
theorem Home.deliver_level (x : Home) (band : Band) (n l : Nat) : ({ x with level := l } : Home).deliver band n = { x.deliver band n with level := l } := by
  simp only [Home.deliver, Home.watched, Home.onOpen]
  split_ifs <;> rfl

/-! ### A good burst of a SOAKING or ONLINE home (R36, R37) -/

/-- A home in SOAKING or ONLINE after its good burst, its drift accumulator and its score as they stood (R32, R36). -/
def Home.served (x : Home) (band : Band) (packets : Option (List (List Byte))) (report m k : Nat) : Home :=
  { paid { x with missed := 0, report := report, since := 0 } band packets with level := moveLevel x.level m k }

/-- The tree after the payload of a good burst: a bad one is counted (R32). -/
def TreeLine.paidOn (u : TreeLine) (packets : Option (List (List Byte))) : TreeLine :=
  { u with badPayloads := if packets.isNone then min 65535 (u.badPayloads + 1) else u.badPayloads }

theorem Home.served_kept (x : Home) (band : Band) (packets : Option (List (List Byte))) (report m k : Nat) :
    let y := x.served band packets report m k
    y.drift = x.drift ∧ y.eq = x.eq ∧ y.tag = x.tag ∧ y.score = x.score ∧ y.state = x.state := by
  unfold Home.served
  dsimp only
  rw [paid_frame]
  exact ⟨rfl, rfl, rfl, rfl, rfl⟩

theorem State.put_goodServed (s : State) (c : Config) (t : Tree) (h : HomeIndex) (x : Home) (u : TreeLine) (b : BurstRx) (w : Window) (δ : Int)
    (head : Head) (m : Nat) :
    let packets := burstPackets b head.bytes w.payload
    (s.put h x t u).goodServed c t h b w δ head m =
      ((((s.sends ((packets.getD []).map fun p => .upstreamPacket h p)).put h
          (x.served s.cal.band packets head.report m (if x.state = .soaking then 2 else c.kOnline)) t (u.paidOn packets)).accumulateDrift t h δ).judgeBurst
        c t h δ m x.level) := by
  have hlevel : ∀ z : Home, ∀ packets, (paid z s.cal.band packets).level = z.level := fun z packets => by rw [paid_frame]
  simp only [State.goodServed, State.recordReport, State.put_home, State.put_onHome, State.put_deliverPayload, hlevel]
  rfl

section Drift

variable {s : State} {t : Tree} {h : HomeIndex} {δ : Int}

/-- R37: an offset past 2 either way joins no accumulator. -/
theorem State.accumulateDrift_far (hd : 2 < δ.natAbs) : s.accumulateDrift t h δ = s := if_pos (by omega)

/-- R37: a sum short of 16 either way stands in the accumulator. -/
theorem State.accumulateDrift_sum (hd : δ.natAbs ≤ 2) (hs : ((s.home h).drift + δ).natAbs < 16) :
    s.accumulateDrift t h δ = s.setHome h { s.home h with drift := (s.home h).drift + δ } := by
  rw [State.accumulateDrift, if_neg (by omega), if_pos (by omega)]

variable {eq tag : Nat} (hd : δ.natAbs ≤ 2) (hs : 16 ≤ ((s.home h).drift + δ).natAbs) (heq : (s.home h).eq = some eq) (htag : (s.home h).tag = some tag)

include hd hs heq htag

/-- R37: a full accumulator of a home whose EQ is at its limit stands as it stood. -/
theorem State.accumulateDrift_limit (hl : driftedEq eq (decide (0 < (s.home h).drift + δ)) = none) : s.accumulateDrift t h δ = s := by
  rw [State.accumulateDrift, if_neg (by omega), if_neg (by omega)]
  simp only [heq, htag, hl]

/-- R37: a full accumulator moves EQ by one while the control queue takes the DELAY-SET. -/
theorem State.accumulateDrift_moved {eq' : Nat} (hl : driftedEq eq (decide (0 < (s.home h).drift + δ)) = some eq') (hr : (s.tree t).delayRoom tag = true) :
    s.accumulateDrift t h δ = (s.setHome h { s.home h with eq := some eq', drift := 0 }).onTree t fun y => y.offer (.new (.delaySet eq' .drift) tag) := by
  rw [State.accumulateDrift, if_neg (by omega), if_neg (by omega)]
  simp only [heq, htag, hl, hr, if_true]
  rfl

/-- R37: a full accumulator stays one short while the control queue has no room. -/
theorem State.accumulateDrift_held {eq' : Nat} (hl : driftedEq eq (decide (0 < (s.home h).drift + δ)) = some eq') (hr : (s.tree t).delayRoom tag = false) :
    s.accumulateDrift t h δ = s.setHome h { s.home h with drift := if 0 < (s.home h).drift + δ then 15 else -15 } := by
  rw [State.accumulateDrift, if_neg (by omega), if_neg (by omega)]
  simp only [heq, htag, hl, hr, Bool.false_eq_true, if_false, decide_eq_true_eq]

end Drift

/-! ### Evidence of a good burst (R102, R104) -/

section Judge

variable {s : State} {c : Config} {t : Tree} {h : HomeIndex} {δ : Int} {m level : Nat}

theorem State.judgeBurst_none (hd : δ.natAbs ≤ c.drift) (hm : m ≤ level / 16 + c.overlap) : s.judgeBurst c t h δ m level = s := by
  have hb : beyond δ c.drift = false := decide_eq_false (Nat.not_lt.2 hd)
  rw [State.judgeBurst, hb]
  exact if_neg (Nat.not_lt.2 hm)

theorem State.judgeBurst_drift (hd : c.drift < δ.natAbs) (hm : m ≤ level / 16 + c.overlap) :
    s.judgeBurst c t h δ m level = s.evidence t h .drift := by
  have hb : beyond δ c.drift = true := decide_eq_true hd
  rw [State.judgeBurst, hb]
  exact if_neg (Nat.not_lt.2 hm)

theorem State.judgeBurst_overlap (hd : δ.natAbs ≤ c.drift) (hm : level / 16 + c.overlap < m) : s.judgeBurst c t h δ m level = s.overlap t := by
  have hb : beyond δ c.drift = false := decide_eq_false (Nat.not_lt.2 hd)
  rw [State.judgeBurst, hb]
  exact if_pos hm

end Judge

theorem State.raised_score (s : State) (h : HomeIndex) (n : Nat) : ((s.onHome h fun x => x.raiseScore n).home h).score = min 255 ((s.home h).score + n) := by
  rw [State.onHome_home, if_pos rfl]
  rfl

/-- R100: evidence raises the score of a home in MEASURING or ISOLATED, and of one in service that it does not isolate. -/
theorem State.charge_raises {s : State} {h : HomeIndex} {kind : Evidence}
    (hs : (s.home h).state = .measuring ∨ (s.home h).state = .isolated ∨ (inService (s.home h).state = true ∧ (s.home h).score + kind.weight < 192)) :
    s.charge h kind = s.onHome h fun x => x.raiseScore kind.weight := by
  have hlow : (s.home h).score + kind.weight < 192 → ¬ 192 ≤ ((s.onHome h fun x => x.raiseScore kind.weight).home h).score := fun hlt => by
    rw [State.raised_score]
    omega
  unfold State.charge
  obtain hs | hs | ⟨hs, hlt⟩ := hs
  · rw [hs]
  · rw [hs]
  · cases hst : (s.home h).state with
    | soaking | online | lost => exact if_neg (hlow hlt)
    | _ => simp [hst, inService] at hs

/-- R100: evidence against an entry with no home behind it is discarded and counted. -/
theorem State.charge_discards {s : State} {h : HomeIndex} (kind : Evidence)
    (hs : (s.home h).state = .free ∨ (s.home h).state = .claiming ∨ (s.home h).state = .closing ∨ (s.home h).state = .forward) :
    s.charge h kind = { s with discardedEvidence := min 65535 (s.discardedEvidence + 1) } := by
  unfold State.charge
  obtain hs | hs | hs | hs := hs <;> rw [hs] <;> rfl

theorem State.put_evidence_raises {s : State} {h : HomeIndex} {y : Home} {t : Tree} {u : TreeLine} {kind : Evidence}
    (hs : y.state = .measuring ∨ y.state = .isolated ∨ (inService y.state = true ∧ y.score + kind.weight < 192)) :
    (s.put h y t u).evidence t h kind = s.put h (y.raiseScore kind.weight) t (u.countEvidence kind) := by
  rw [State.evidence, State.put_onTree, State.charge_raises (by rw [State.put_home]; exact hs), State.put_onHome]

/-- R108: a score that reaches 192 isolates a home in service. -/
theorem State.charge_isolates {s : State} {h : HomeIndex} {kind : Evidence} (hs : inService (s.home h).state = true)
    (hw : 192 ≤ (s.home h).score + kind.weight) : s.charge h kind = (s.onHome h fun x => x.raiseScore kind.weight).isolate h .score (some kind) := by
  have hhigh : 192 ≤ ((s.onHome h fun x => x.raiseScore kind.weight).home h).score := by
    rw [State.raised_score]
    omega
  unfold State.charge
  cases hst : (s.home h).state with
  | soaking | online | lost => exact if_pos hhigh
  | _ => simp [hst, inService] at hs

/-- R168, R175: an urgent event that finds room joins the queue. -/
theorem State.event_room {s : State} (e : EventKind) (hl : s.link.total < 12) : s.event e = s.onLink fun l => l.take ⟨31, .event e, false⟩ := by
  have hr : s.link.roomFor true = true := by simp [Link.roomFor, hl]
  exact State.onLink_congr (f := fun l => l.offerUrgent ⟨toAll, .event e, false⟩) (if_pos hr)

/-- R109: a home with its tag isolated by its score, with room for the LASER-OFF and for the event. -/
theorem State.isolate_scored {s : State} {h : HomeIndex} {u : Tree} {tag : Nat} (e : Option Evidence) (hu : (s.home h).tree = some u)
    (htag : (s.home h).tag = some tag) (hq : (s.tree u).queue.length < 16) (hl : s.link.total < 12) :
    s.isolate h .score e =
      ((s.onHome h fun x => x.toIsolated).onTree u fun y =>
          { y with isolations := min 65535 (y.isolations + 1), queue := insertCtl ⟨.laserOff, tag, 0, false⟩ y.queue }).onLink fun l =>
        l.take ⟨31, .event (.isolated h (s.home h).identity (s.home h).account (some u) (some tag) (s.home h).score .score e), false⟩ := by
  have hoffer : ({ s.tree u with isolations := bump (s.tree u).isolations } : TreeLine).offer ⟨.laserOff, tag, 0, false⟩ =
      { s.tree u with isolations := bump (s.tree u).isolations, queue := insertCtl ⟨.laserOff, tag, 0, false⟩ (s.tree u).queue } :=
    TreeLine.offer_urgent _ _ rfl hq
  unfold State.isolate
  simp only [hu, htag, State.offerCtl, State.onTree_onTree]
  rw [State.event_room _ (by exact hl)]
  exact congrArg (fun v => State.onLink v _) (State.onTree_congr hoffer)

/-! ### BURST_RECEIVED without light, with a bad burst and with a good burst -/

/-- The tree's home and tree when its next window has been taken. -/
theorem State.taken_eq_put (s : State) (t : Tree) (b : BurstRx) (h : HomeIndex) :
    (s.begin.onTree t fun y => windowTaken y b) = s.begin.put h (s.home h) t (windowTaken (s.tree t) b) :=
  s.begin.onTree_eq_put h t fun y => windowTaken y b

/-- R38: a window without light. -/
theorem State.put_missWindow (s : State) (h : HomeIndex) (x : Home) (t : Tree) (u : TreeLine) :
    (s.put h x t u).missWindow h =
      s.put h (if x.state = .online ∧ 7 ≤ x.missed then { x with missed := 8, state := .lost, lostTimer := 0 } else { x with missed := min 8 (x.missed + 1) })
        t u := by
  rw [State.missWindow, State.put_onHome]
  refine congrArg (fun y => s.put h y t u) ?_
  have hm : satAdd 8 x.missed 1 = 8 ↔ 7 ≤ x.missed := by unfold satAdd; omega
  by_cases hc : x.state = .online ∧ 7 ≤ x.missed
  · rw [if_pos hc]
    exact (if_pos ⟨hc.1, hm.2 hc.2⟩).trans (by rw [hm.2 hc.2])
  · rw [if_neg hc]
    exact if_neg fun e => hc ⟨e.1, hm.1 e.2⟩

/-- R30: what a window of an effective home leads to. -/
theorem State.takeBurst_noLight {s : State} (c : Config) (t : Tree) {w : Window} {b : BurstRx} (hl : ∀ l ∈ b.levels, l.toNat < 8)
    (hs : inService (s.home w.home).state = true) (hq : (s.home w.home).silence = .none) : s.takeBurst c t w b = s.missWindow w.home := by
  simp only [State.takeBurst, judge_noLight hl, hs, hq, decide_true, Bool.and_self, if_true]

theorem State.takeBurst_bad (s : State) (c : Config) (t : Tree) {w : Window} {b : BurstRx} (hl : ∃ l ∈ b.levels, 8 ≤ l.toNat) (hh : b.head = none) :
    s.takeBurst c t w b = s.onTree t fun y => { y with badBursts := min 65535 (y.badBursts + 1) } := by
  simp only [State.takeBurst, judge_bad hl hh]
  rfl

theorem State.takeBurst_good {s : State} (c : Config) (t : Tree) {w : Window} {b : BurstRx} {δ : Int} {bytes : List Byte} {head : Head}
    (hl : ∃ l ∈ b.levels, 8 ≤ l.toNat) (hh : b.head = some (δ, bytes)) (hspan : -64 ≤ δ ∧ δ ≤ 63) (hr : readHead bytes = some head) (ht : head.tag = w.tag)
    (hs : inService (s.home w.home).state = true) (hq : (s.home w.home).silence = .none) :
    s.takeBurst c t w b =
      if (s.home w.home).state = .lost then s.goodLost c t w.home b w δ head (burstLevel b.head0 b.head1)
      else s.goodServed c t w.home b w δ head (burstLevel b.head0 b.head1) := by
  simp only [State.takeBurst, ← ht, judge_good hl hh hspan hr, hs, hq, decide_true, Bool.and_self, if_true]

section Good

variable {s : State} {c : Config} {t : Tree} {b : BurstRx} {w : Window} {δ : Int} {head : Head}

theorem exec_goodBurst (G : GoodBurst s c t b w δ head) :
    exec (.burstReceived t b) s = .next
      (if (s.home w.home).state = .lost then
        (s.begin.put w.home (s.home w.home) t (windowTaken (s.tree t) b)).goodLost c t w.home b w δ head (burstLevel b.head0 b.head1)
      else (s.begin.put w.home (s.home w.home) t (windowTaken (s.tree t) b)).goodServed c t w.home b w δ head (burstLevel b.head0 b.head1)) := by
  obtain ⟨bytes, hh, hr⟩ := G.found
  rw [exec_burst_dark G.config G.window G.guard, s.taken_eq_put t b w.home,
    State.takeBurst_good c t G.lit hh G.span hr G.tag (by rw [State.put_home]; exact G.served.1) (by rw [State.put_home]; exact G.served.2), State.put_home]

/-- The home of a good burst in SOAKING or ONLINE after delivery, report and level (R32, R36). -/
def servedBy (s : State) (c : Config) (b : BurstRx) (w : Window) (head : Head) : Home :=
  (s.home w.home).served s.cal.band (burstPackets b head.bytes w.payload) head.report (burstLevel b.head0 b.head1)
    (if (s.home w.home).state = .soaking then 2 else c.kOnline)

/-- The tree of a good burst after its window has been taken and its payload judged. -/
def lineOf (s : State) (t : Tree) (b : BurstRx) (w : Window) (head : Head) : TreeLine :=
  (windowTaken (s.tree t) b).paidOn (burstPackets b head.bytes w.payload)

/-- The state a good burst leaves with the home and the tree given. -/
def State.goodBurst (s : State) (t : Tree) (b : BurstRx) (w : Window) (head : Head) (y : Home) (u : TreeLine) : State :=
  (s.begin.sends (((burstPackets b head.bytes w.payload).getD []).map fun p => .upstreamPacket w.home p)).put w.home y t u

theorem servedBy_kept (s : State) (c : Config) (b : BurstRx) (w : Window) (head : Head) :
    (servedBy s c b w head).drift = (s.home w.home).drift ∧ (servedBy s c b w head).eq = (s.home w.home).eq ∧
      (servedBy s c b w head).tag = (s.home w.home).tag ∧ (servedBy s c b w head).score = (s.home w.home).score ∧
      (servedBy s c b w head).state = (s.home w.home).state :=
  Home.served_kept _ _ _ _ _ _

/-- R32: a good burst of a SOAKING or ONLINE home is taken by the drift accumulator and then by the Rogue Monitor. -/
theorem exec_goodServed (G : GoodBurst s c t b w δ head) (hs : (s.home w.home).state = .soaking ∨ (s.home w.home).state = .online) :
    exec (.burstReceived t b) s = .next
      (((s.goodBurst t b w head (servedBy s c b w head) (lineOf s t b w head)).accumulateDrift t w.home δ).judgeBurst c t w.home δ
        (burstLevel b.head0 b.head1) (s.home w.home).level) := by
  have hlost : (s.home w.home).state ≠ .lost := by rintro e; rw [e] at hs; simp at hs
  rw [exec_goodBurst G, if_neg hlost, State.put_goodServed]
  rfl

/-- R36: an offset past 2 either way and within the drift limit changes neither the accumulator nor the score. -/
theorem exec_served_far (G : GoodBurst s c t b w δ head) (hs : (s.home w.home).state = .soaking ∨ (s.home w.home).state = .online)
    (hm : burstLevel b.head0 b.head1 ≤ (s.home w.home).level / 16 + c.overlap) (h2 : 2 < δ.natAbs) (hd : δ.natAbs ≤ c.drift) :
    exec (.burstReceived t b) s = .next (s.goodBurst t b w head (servedBy s c b w head) (lineOf s t b w head)) := by
  rw [exec_goodServed G hs, State.accumulateDrift_far h2, State.judgeBurst_none hd hm]

/-- R102: an offset beyond the drift limit is charged to a home that the charge does not isolate. -/
theorem exec_served_drift (G : GoodBurst s c t b w δ head) (hs : (s.home w.home).state = .soaking ∨ (s.home w.home).state = .online)
    (hm : burstLevel b.head0 b.head1 ≤ (s.home w.home).level / 16 + c.overlap) (h2 : 2 ≤ c.drift) (hd : c.drift < δ.natAbs)
    (hlow : (s.home w.home).score < 184) :
    exec (.burstReceived t b) s = .next (s.goodBurst t b w head
      { servedBy s c b w head with score := min 255 ((s.home w.home).score + 8) }
      { lineOf s t b w head with drifts := min 65535 ((s.tree t).drifts + 1) }) := by
  obtain ⟨-, -, -, hscore, hstate⟩ := servedBy_kept s c b w head
  have hin : inService (servedBy s c b w head).state = true := by rw [hstate]; obtain e | e := hs <;> rw [e] <;> rfl
  rw [exec_goodServed G hs, State.accumulateDrift_far (h2.trans_lt hd), State.judgeBurst_drift hd hm, State.goodBurst,
    State.put_evidence_raises (.inr (.inr ⟨hin, by rw [hscore]; exact Nat.add_lt_add_right hlow 8⟩)), Home.raiseScore, hscore]
  rfl

/-- R104: a level past the overlap margin is OVERLAP of the tree. -/
theorem exec_served_overlap (G : GoodBurst s c t b w δ head) (hs : (s.home w.home).state = .soaking ∨ (s.home w.home).state = .online)
    (hm : (s.home w.home).level / 16 + c.overlap < burstLevel b.head0 b.head1) (h2 : 2 < δ.natAbs) (hd : δ.natAbs ≤ c.drift) :
    exec (.burstReceived t b) s = .next ((s.goodBurst t b w head (servedBy s c b w head) (lineOf s t b w head)).overlap t) := by
  rw [exec_goodServed G hs, State.accumulateDrift_far h2, State.judgeBurst_overlap hd hm]

/-- R37: within the drift limit the burst leaves what the accumulator makes of it. -/
theorem exec_served_near (G : GoodBurst s c t b w δ head) (hs : (s.home w.home).state = .soaking ∨ (s.home w.home).state = .online)
    (hm : burstLevel b.head0 b.head1 ≤ (s.home w.home).level / 16 + c.overlap) (hlim : δ.natAbs ≤ c.drift) :
    exec (.burstReceived t b) s =
      .next ((s.goodBurst t b w head (servedBy s c b w head) (lineOf s t b w head)).accumulateDrift t w.home δ) := by
  rw [exec_goodServed G hs, State.judgeBurst_none hlim hm]

section Accumulated

variable (G : GoodBurst s c t b w δ head) (hs : (s.home w.home).state = .soaking ∨ (s.home w.home).state = .online)
  (hm : burstLevel b.head0 b.head1 ≤ (s.home w.home).level / 16 + c.overlap) (hlim : δ.natAbs ≤ c.drift) (hd : δ.natAbs ≤ 2)

include G hs hm hlim hd

theorem exec_served_sum (hsum : ((s.home w.home).drift + δ).natAbs < 16) :
    exec (.burstReceived t b) s = .next (s.goodBurst t b w head
      { servedBy s c b w head with drift := (s.home w.home).drift + δ } (lineOf s t b w head)) := by
  obtain ⟨hdrift, -⟩ := servedBy_kept s c b w head
  rw [exec_served_near G hs hm hlim, State.goodBurst, State.accumulateDrift_sum hd (by rw [State.put_home, hdrift]; exact hsum), State.put_home,
    State.put_setHome, hdrift]
  rfl

variable {eq tag : Nat} (hsum : 16 ≤ ((s.home w.home).drift + δ).natAbs) (heq : (s.home w.home).eq = some eq) (htag : (s.home w.home).tag = some tag)

include hsum heq htag

theorem exec_served_limit (hl : driftedEq eq (decide (0 < (s.home w.home).drift + δ)) = none) :
    exec (.burstReceived t b) s = .next (s.goodBurst t b w head (servedBy s c b w head) (lineOf s t b w head)) := by
  obtain ⟨hdrift, heq', htag', -⟩ := servedBy_kept s c b w head
  rw [exec_served_near G hs hm hlim, State.goodBurst, State.accumulateDrift_limit hd (by rw [State.put_home, hdrift]; exact hsum)
    (by rw [State.put_home, heq']; exact heq) (by rw [State.put_home, htag']; exact htag) (by rw [State.put_home, hdrift]; exact hl)]

theorem exec_served_moved {eq' : Nat} (hl : driftedEq eq (decide (0 < (s.home w.home).drift + δ)) = some eq') (hr : (s.tree t).delayRoom tag = true) :
    exec (.burstReceived t b) s = .next (s.goodBurst t b w head
      { servedBy s c b w head with eq := some eq', drift := 0 } ((lineOf s t b w head).offer ⟨.delaySet eq' .drift, tag, 0, false⟩)) := by
  obtain ⟨hdrift, heq', htag', -⟩ := servedBy_kept s c b w head
  rw [exec_served_near G hs hm hlim, State.goodBurst, State.accumulateDrift_moved hd (by rw [State.put_home, hdrift]; exact hsum)
    (by rw [State.put_home, heq']; exact heq) (by rw [State.put_home, htag']; exact htag) (by rw [State.put_home, hdrift]; exact hl)
    (by rw [State.put_tree]; exact hr), State.put_home, State.put_setHome, State.put_onTree]
  rfl

theorem exec_served_held {eq' : Nat} (hl : driftedEq eq (decide (0 < (s.home w.home).drift + δ)) = some eq') (hr : (s.tree t).delayRoom tag = false) :
    exec (.burstReceived t b) s = .next (s.goodBurst t b w head
      { servedBy s c b w head with drift := if 0 < (s.home w.home).drift + δ then 15 else -15 } (lineOf s t b w head)) := by
  obtain ⟨hdrift, heq', htag', -⟩ := servedBy_kept s c b w head
  rw [exec_served_near G hs hm hlim, State.goodBurst, State.accumulateDrift_held hd (by rw [State.put_home, hdrift]; exact hsum)
    (by rw [State.put_home, heq']; exact heq) (by rw [State.put_home, htag']; exact htag) (by rw [State.put_home, hdrift]; exact hl)
    (by rw [State.put_tree]; exact hr), State.put_home, State.put_setHome, hdrift]
  rfl

end Accumulated

/-- R39: a LOST home beyond the drift limit goes to MEASURING, any other back to ONLINE. -/
theorem State.put_lostReturn {s : State} {h : HomeIndex} {x : Home} {t : Tree} {u : TreeLine} (c : Config) (δ : Int) (hs : x.state = .lost) :
    (s.put h x t u).lostReturn c h δ =
      s.put h (if beyond δ c.drift then x.toMeasuring .sampling else { x with state := .online, lostTimer := 0 }) t u := by
  rw [State.lostReturn, State.put_home, if_pos hs, State.put_onHome, State.put_onHome]
  exact (apply_ite (fun y => s.put h y t u) _ _ _).symm

/-- R39: the LOST home of a good burst within the drift limit. -/
def returnedBy (s : State) (c : Config) (b : BurstRx) (w : Window) (head : Head) : Home :=
  { (s.home w.home).served s.cal.band (burstPackets b head.bytes w.payload) head.report (burstLevel b.head0 b.head1) c.kOnline with
    state := .online, lostTimer := 0 }

/-- R36, R39: a LOST home within the drift limit returns to ONLINE. -/
theorem exec_lost_returns (G : GoodBurst s c t b w δ head) (hs : (s.home w.home).state = .lost)
    (hm : burstLevel b.head0 b.head1 ≤ (s.home w.home).level / 16 + c.overlap) (hd : δ.natAbs ≤ c.drift) :
    exec (.burstReceived t b) s = .next (s.goodBurst t b w head (returnedBy s c b w head) (lineOf s t b w head)) := by
  have hb : beyond δ c.drift = false := decide_eq_false (Nat.not_lt.2 hd)
  have hlevel : ∀ z : Home, ∀ packets, (paid z s.cal.band packets).level = z.level := fun z packets => by rw [paid_frame]
  have hserved : ((s.home w.home).served s.cal.band (burstPackets b head.bytes w.payload) head.report (burstLevel b.head0 b.head1) c.kOnline).state =
      .lost := (Home.served_kept _ _ _ _ _ _).2.2.2.2.trans hs
  have hreturn := fun z t u => State.put_lostReturn (s := z) (h := w.home) (t := t) (u := u) c δ hserved
  rw [exec_goodBurst G, if_pos hs]
  simp only [State.goodLost, State.put_home, State.put_onHome, hb, Bool.false_eq_true, if_false, State.recordReport, State.put_deliverPayload,
    State.begin_cal, hlevel]
  rw [Home.served] at hreturn
  rw [hreturn, hb, State.judgeBurst_none hd hm]
  rfl

/-- R39, R102: the LOST home of a good burst beyond the drift limit has what the burst delivered, but neither its report nor its level. -/
def deliveredBy (s : State) (b : BurstRx) (w : Window) (head : Head) : Home :=
  paid { s.home w.home with missed := 0 } s.cal.band (burstPackets b head.bytes w.payload)

theorem deliveredBy_kept (s : State) (b : BurstRx) (w : Window) (head : Head) :
    (deliveredBy s b w head).state = (s.home w.home).state ∧ (deliveredBy s b w head).score = (s.home w.home).score ∧
      (deliveredBy s b w head).missed = 0 := by
  rw [deliveredBy, paid_frame]
  exact ⟨rfl, rfl, rfl⟩

/-- R39, R102: a LOST home beyond the drift limit goes to MEASURING in SAMPLING and is charged DRIFT, in either order. -/
theorem exec_lost_measures (G : GoodBurst s c t b w δ head) (hs : (s.home w.home).state = .lost)
    (hm : burstLevel b.head0 b.head1 ≤ (s.home w.home).level / 16 + c.overlap) (hd : c.drift < δ.natAbs) (hlow : (s.home w.home).score < 184) :
    exec (.burstReceived t b) s = .next (s.goodBurst t b w head (((deliveredBy s b w head).raiseScore 8).toMeasuring .sampling)
      { lineOf s t b w head with drifts := min 65535 ((s.tree t).drifts + 1) }) := by
  have hb : beyond δ c.drift = true := decide_eq_true hd
  obtain ⟨hst, hscore, -⟩ := deliveredBy_kept s b w head
  have hlost : (deliveredBy s b w head).state = .lost := hst.trans hs
  have hin : inService (deliveredBy s b w head).state = true := by rw [hlost]; rfl
  have hweight : (deliveredBy s b w head).score + Evidence.drift.weight < 192 := by rw [hscore]; exact Nat.add_lt_add_right hlow 8
  have hraised : ((deliveredBy s b w head).raiseScore Evidence.drift.weight).state = .lost := hlost
  rw [exec_goodBurst G, if_pos hs]
  simp only [State.goodLost, State.put_home, State.put_onHome, hb, if_true, State.put_deliverPayload, State.begin_cal]
  change Host.Outcome.next (if b.chargeFirst then
      (((s.goodBurst t b w head (deliveredBy s b w head) (lineOf s t b w head)).judgeBurst c t w.home δ _ _).lostReturn c w.home δ)
    else ((s.goodBurst t b w head (deliveredBy s b w head) (lineOf s t b w head)).lostReturn c w.home δ).judgeBurst c t w.home δ _ _) = _
  simp only [State.goodBurst]
  cases b.chargeFirst
  · rw [if_neg Bool.false_ne_true, State.put_lostReturn c δ hlost, hb, if_pos rfl, State.judgeBurst_drift hd hm, State.put_evidence_raises (.inl rfl)]
    rfl
  · rw [if_pos rfl, State.judgeBurst_drift hd hm, State.put_evidence_raises (.inr (.inr ⟨hin, hweight⟩)), State.put_lostReturn c δ hraised, hb,
      if_pos rfl]
    rfl

end Good

/-- Settles O55: with a dark guard block the burst is judged alone, and each judgement has its one effect. -/
theorem burstsJudged : Obligations.BurstsJudged := by
  intro s c t b w hc hw hg
  refine ⟨fun hl hs hq => ?_, fun hl hh => ?_, fun bytes head hl hh hr ht hbytes hs hq hlo hhi hm => ?_⟩
  · rw [exec_burst_dark hc hw hg, s.taken_eq_put t b w.home,
      State.takeBurst_noLight c t hl (by rw [State.put_home]; exact hs) (by rw [State.put_home]; exact hq), State.put_missWindow]
    rfl
  · rw [exec_burst_dark hc hw hg, State.takeBurst_bad _ c t hl hh, State.onTree_onTree]
    rfl
  · have G : GoodBurst s c t b w 0 head := ⟨hc, hw, hg, hl, ⟨bytes, hh, hr⟩, by decide, ht, by rw [hs]; rfl, hq⟩
    have hnone : burstPackets b head.bytes w.payload = some [] := if_pos hbytes
    have hnot : (s.home w.home).state ≠ .soaking := by rw [hs]; decide
    obtain ⟨hdrift, -⟩ := servedBy_kept s c b w head
    have hy : { servedBy s c b w head with drift := (s.home w.home).drift } =
        ({ s.home w.home with
          missed := 0, report := head.report, since := 0
          level := moveLevel (s.home w.home).level (burstLevel b.head0 b.head1) c.kOnline } : Home).deliver s.cal.band 0 := by
      rw [← hdrift, servedBy, if_neg hnot, hnone]
      exact (Home.deliver_level _ _ _ _).symm
    rw [exec_served_sum G (.inr hs) hm (Nat.zero_le _) (Nat.zero_le 2) (by omega), Int.add_zero, hy, lineOf, State.goodBurst, hnone]
    rfl

end Sys2Proof.Machine
end

section
/-! SUPPORT. The packets of a burst in the meters (R107, R149, R150), and the evidence of a lit guard block (R35, R100, R108). -/

namespace Sys2Proof.Machine

/-! ### Upstream bytes in the meters -/

/-- R150: the bytes of an unwatched home go into its open bank. -/
theorem Home.deliver_unwatched {x : Home} (band : Band) (n : Nat) (h : x.score < 32) : x.deliver band n = x.onOpen fun k => k.countUp band n := by
  have hw : x.watched = false := decide_eq_false (Nat.not_le.2 h)
  rw [Home.deliver, hw]
  rfl

/-- R107: the bytes of a watched home wait in pending while its limit allows. -/
theorem Home.deliver_watched {x : Home} (band : Band) {n : Nat} (h : 32 ≤ x.score) (hn : x.pending.sum + x.discarded + n ≤ 2 ^ 40 - 1) :
    x.deliver band n = { x with pending := x.pending.set band (x.pending.get band + n) } := by
  have hw : x.watched = true := decide_eq_true h
  have hheld : min n (pendingLimit - (x.pending.sum + x.discarded)) = n := by unfold pendingLimit; omega
  rw [Home.deliver, hw]
  dsimp only
  rw [hheld, if_pos rfl, if_neg (Nat.lt_irrefl n)]

section Meter

variable {k : Bank} {band : Band} {n : Nat}

theorem Bank.countUp_within (h : k.up.get band + (k.upResidue.get band + n) / 1000 ≤ 9999999999) :
    k.countUp band n = { k with
      up := k.up.set band (k.up.get band + (k.upResidue.get band + n) / 1000)
      upResidue := k.upResidue.set band ((k.upResidue.get band + n) % 1000) } := by
  rw [Bank.countUp]
  dsimp only
  rw [if_pos (by exact h), Nat.min_eq_right (by exact h)]

theorem Bank.countUp_past (h : 9999999999 < k.up.get band + (k.upResidue.get band + n) / 1000) :
    k.countUp band n = { k with
      up := k.up.set band 9999999999
      upResidue := k.upResidue.set band ((k.upResidue.get band + n) % 1000)
      saturated := true
      overUp := min (2 ^ 48 - 1) (k.overUp + (k.up.get band + (k.upResidue.get band + n) / 1000 - 9999999999)) } := by
  rw [Bank.countUp]
  dsimp only
  rw [if_neg (by exact Nat.not_le.2 h), Nat.min_eq_left (by exact h.le)]
  rfl

end Meter

/-! ### OVERLAP -/

/-- R104, R113: OVERLAP during a search adds nothing to the dark counter. -/
theorem State.overlap_searching {s : State} {t : Tree} (hr : (s.tree t).search.running = true) :
    s.overlap t = s.onTree t fun y => { y with overlaps := min 65535 (y.overlaps + 1) } := by
  rw [State.overlap, State.addDark_searching]
  · rfl
  · rw [State.onTree_tree, if_pos rfl]
    exact hr

/-- R104, R113: OVERLAP with no search adds 2 to the dark counter, and starts none below 16 or within the hold-off. -/
theorem State.overlap_counts {s : State} {t : Tree} (hr : (s.tree t).search.running = false) (hb : (s.tree t).darkCounter < 14 ∨ 0 < (s.tree t).holdOff) :
    s.overlap t = s.onTree t fun y => { y with overlaps := min 65535 (y.overlaps + 1), darkCounter := min 255 (y.darkCounter + 2) } := by
  have hcounts := State.addDark_counts (s := s.onTree t fun y => { y with overlaps := bump y.overlaps }) (t := t) (w := 2)
    (by rw [State.onTree_tree, if_pos rfl]; exact hr) (by rw [State.onTree_tree, if_pos rfl]; exact hb.imp (Nat.add_lt_add_right (m := 14) · 2) id)
  rw [State.overlap, hcounts, State.onTree_onTree]
  rfl

/-! ### A lit guard block (R35) -/

/-- R35: whose guard light it is. -/
theorem guardOwner_overrun {w v : Window} {lit runsOn : Bool} (h : v.start + v.length = w.start ∧ lit = true ∧ runsOn = true) :
    guardOwner (some v) lit w runsOn = (v.home, .overrun) := if_pos h

theorem guardOwner_early {w : Window} {before : Option Window} {lit runsOn : Bool}
    (h : ∀ v, before = some v → v.start + v.length = w.start → lit = true → runsOn = false) : guardOwner before lit w runsOn = (w.home, .early) := by
  cases before with
  | none => rfl
  | some v =>
    refine if_neg fun ⟨hadj, hlit, hon⟩ => ?_
    rw [h v rfl hadj hlit] at hon
    exact Bool.false_ne_true hon

theorem TreeLine.windowBefore_eq {x : TreeLine} {v : Window} :
    x.windowBefore = some v ↔ 0 < x.windowsTaken ∧ x.active.windows[x.windowsTaken - 1]? = some v := by
  unfold TreeLine.windowBefore
  split <;> simp_all [Nat.pos_iff_ne_zero]

/-- A bad burst on a tree (R32). -/
def TreeLine.badBurst (y : TreeLine) : TreeLine := { y with badBursts := min 65535 (y.badBursts + 1) }

/-- A tree whose next window gave a bad burst and evidence from its guard block. -/
def TreeLine.badGuard (y : TreeLine) (b : BurstRx) (kind : Evidence) : TreeLine := (windowTaken y b).badBurst.countEvidence kind

theorem TreeLine.badGuard_kept (y : TreeLine) (b : BurstRx) (kind : Evidence) :
    (y.badGuard b kind).isolations = y.isolations ∧ (y.badGuard b kind).queue = y.queue := by
  cases kind <;> exact ⟨rfl, rfl⟩

theorem TreeLine.countEvidence_badBurst (y : TreeLine) (kind : Evidence) : (y.countEvidence kind).badBurst = y.badBurst.countEvidence kind := by
  cases kind <;> rfl

/-- A change of a tree that leaves its control queue and its isolations as they stand. -/
def QueueKept (f : TreeLine → TreeLine) : Prop := ∀ y, (f y).queue = y.queue ∧ (f y).isolations = y.isolations

/-- A tree on which a home is isolated while its control queue has room (R109). -/
def TreeLine.shut (y : TreeLine) (tag : Nat) : TreeLine :=
  { y with isolations := min 65535 (y.isolations + 1), queue := insertCtl ⟨.laserOff, tag, 0, false⟩ y.queue }

/-- The part when the score of a home isolates it while there is room for its LASER-OFF and its event (R109). -/
def State.scoredOut (s : State) (h : HomeIndex) (x : Home) (u : Tree) (tag : Nat) (kind : Evidence) : State :=
  ((s.setHome h x.toIsolated).onTree u fun y => y.shut tag).onLink fun l =>
    l.take ⟨31, .event (.isolated h x.identity x.account (some u) (some tag) x.score .score (some kind)), false⟩

theorem State.charge_scoredOut {s : State} {h : HomeIndex} {u : Tree} {tag : Nat} {kind : Evidence} (hs : inService (s.home h).state = true)
    (h192 : 192 ≤ (s.home h).score + kind.weight) (hu : (s.home h).tree = some u) (htag : (s.home h).tag = some tag)
    (hq : (s.tree u).queue.length < 16) (hl : s.link.total < 12) :
    s.charge h kind = s.scoredOut h ((s.home h).raiseScore kind.weight) u tag kind := by
  have hx : (s.onHome h fun x => x.raiseScore kind.weight).home h = (s.home h).raiseScore kind.weight := by rw [State.onHome_home, if_pos rfl]
  rw [State.charge_isolates hs h192, State.isolate_scored (u := u) (tag := tag) (some kind) (by rw [hx]; exact hu) (by rw [hx]; exact htag) (by exact hq) (by exact hl), hx, State.onHome_onHome]
  rfl

theorem State.scoredOut_onTree (s : State) (h : HomeIndex) (x : Home) (t u : Tree) (tag : Nat) (kind : Evidence) :
    (s.scoredOut h x u tag kind).onTree t TreeLine.badBurst = (s.onTree t TreeLine.badBurst).scoredOut h x u tag kind :=
  congrArg (State.onLink · fun l =>
      l.take ⟨31, .event (.isolated h x.identity x.account (some u) (some tag) x.score .score (some kind)), false⟩)
    (State.onTree_comm (s.setHome h x.toIsolated) u t (f := fun y => y.shut tag) (g := TreeLine.badBurst) fun _ => rfl)

section Guard

variable {s : State} {c : Config} {t : Tree} {b : BurstRx} {w : Window} {owner : HomeIndex} {kind : Evidence}

/-- R30, R35: a bad burst with a lit guard block is counted and its evidence charged, in either order, where the charge does `E` and `E` does not meet the burst's counter. -/
theorem exec_litGuard (hc : s.config = some c) (hw : (s.tree t).active.windows[(s.tree t).windowsTaken]? = some w)
    (hlit : 8 ≤ (b.levels.getD 0 0).toNat) (hh : b.head = none)
    (ho : guardOwner (s.tree t).windowBefore (s.tree t).lastBlockLit w b.runsOn = (owner, kind)) {E : State → State}
    (hE : ∀ f : TreeLine → TreeLine, QueueKept f → (s.begin.onTree t f).charge owner kind = E (s.begin.onTree t f))
    (hcomm : ∀ v : State, (E v).onTree t TreeLine.badBurst = E (v.onTree t TreeLine.badBurst)) :
    exec (.burstReceived t b) s = .next (E (s.begin.onTree t fun y => y.badGuard b kind)) := by
  have hlitAt : litAt (b.levels.getD 0 0) = true := decide_eq_true hlit
  have hlen : 0 < b.levels.length := by
    cases hl : b.levels with
    | nil => rw [hl] at hlit; exact absurd hlit (by decide)
    | cons x xs => exact Nat.succ_pos _
  have hblock : ∃ l ∈ b.levels, 8 ≤ l.toNat := ⟨_, List.getElem_mem hlen, by rwa [List.getD_eq_getElem _ _ hlen] at hlit⟩
  have hguard : ∀ v : State, v.takeGuard t (s.tree t).windowBefore (s.tree t).lastBlockLit w b = v.evidence t owner kind := fun v => by
    rw [State.takeGuard, hlitAt, ho]
    rfl
  have hbad : ∀ v : State, v.takeBurst c t w b = v.onTree t TreeLine.badBurst := fun v => v.takeBurst_bad c t hblock hh
  have hcount : QueueKept fun y => (windowTaken y b).countEvidence kind := fun y => by cases kind <;> exact ⟨rfl, rfl⟩
  have hcountBad : QueueKept fun y => y.badGuard b kind := fun y => by cases kind <;> exact ⟨rfl, rfl⟩
  have hfirst : (((s.begin.onTree t fun y => windowTaken y b).evidence t owner kind).onTree t TreeLine.badBurst) =
      E (s.begin.onTree t fun y => y.badGuard b kind) := by
    rw [State.evidence, State.onTree_onTree]
    refine (congrArg (State.onTree · t TreeLine.badBurst) (hE _ hcount)).trans ?_
    rw [hcomm, State.onTree_onTree]
    exact congrArg (fun f => E (s.begin.onTree t f)) (funext fun y => (windowTaken y b).countEvidence_badBurst kind)
  have hlast : ((s.begin.onTree t fun y => windowTaken y b).onTree t TreeLine.badBurst).evidence t owner kind =
      E (s.begin.onTree t fun y => y.badGuard b kind) := by
    rw [State.evidence, State.onTree_onTree, State.onTree_onTree]
    exact hE _ hcountBad
  rw [exec_burst hc hw]
  simp only [hguard, hbad, hfirst, hlast, ite_self]

variable (hc : s.config = some c) (hw : (s.tree t).active.windows[(s.tree t).windowsTaken]? = some w) (hlit : 8 ≤ (b.levels.getD 0 0).toNat)
  (hh : b.head = none) (ho : guardOwner (s.tree t).windowBefore (s.tree t).lastBlockLit w b.runsOn = (owner, kind))

include hc hw hlit hh ho

/-- R100: the score rises where the charge does not isolate. -/
theorem exec_guard_raises (hs : (s.home owner).state = .measuring ∨ (s.home owner).state = .isolated ∨
      (inService (s.home owner).state = true ∧ (s.home owner).score + kind.weight < 192)) :
    exec (.burstReceived t b) s = .next ((s.begin.onTree t fun y => y.badGuard b kind).onHome owner fun x => x.raiseScore kind.weight) :=
  exec_litGuard hc hw hlit hh ho (E := fun v => v.onHome owner fun x => x.raiseScore kind.weight) (fun _ _ => State.charge_raises hs) fun _ => rfl

/-- R100: evidence against an entry with no home behind it. -/
theorem exec_guard_discards (hs : (s.home owner).state = .free ∨ (s.home owner).state = .claiming ∨ (s.home owner).state = .closing ∨
      (s.home owner).state = .forward) :
    exec (.burstReceived t b) s = .next { s.begin.onTree t fun y => y.badGuard b kind with
      discardedEvidence := min 65535 (s.discardedEvidence + 1) } :=
  exec_litGuard hc hw hlit hh ho (E := fun v => { v with discardedEvidence := min 65535 (s.discardedEvidence + 1) })
    (fun _ _ => State.charge_discards kind hs) fun _ => rfl

/-- R108, R109: at a score of 192 the home is isolated. -/
theorem exec_guard_isolates {u : Tree} {tag : Nat} (hs : inService (s.home owner).state = true) (h192 : 192 ≤ (s.home owner).score + kind.weight)
    (hu : (s.home owner).tree = some u) (htag : (s.home owner).tag = some tag) (hq : (s.tree u).queue.length < 16) (hl : s.link.total < 12) :
    exec (.burstReceived t b) s = .next
      ((s.begin.onTree t fun y => y.badGuard b kind).scoredOut owner ((s.home owner).raiseScore kind.weight) u tag kind) := by
  refine exec_litGuard hc hw hlit hh ho (E := fun v => v.scoredOut owner ((s.home owner).raiseScore kind.weight) u tag kind) (fun f hf => ?_)
    fun v => v.scoredOut_onTree _ _ _ _ _ _
  refine State.charge_scoredOut hs h192 hu htag ?_ hl
  rw [State.onTree_tree, State.begin_tree, State.begin_tree]
  split
  · rename_i e
    rw [(hf _).1, ← e]
    exact hq
  · exact hq

end Guard

/-- R39, R102: the record of a LOST home that a burst beyond the drift limit sends to MEASURING. -/
theorem deliveredBy_measures (s : State) (b : BurstRx) (w : Window) (head : Head) :
    ((deliveredBy s b w head).raiseScore 8).toMeasuring .sampling =
      { deliveredBy s b w head with
        score := min 255 ((s.home w.home).score + 8), state := .measuring, phase := some .sampling, attempts := 0, samples := [], report := 0, since := 0
        deferred := false, soak := 0, lostTimer := 0, claim := none, refresh := none, refreshDue := false } := by
  obtain ⟨-, hscore, hmissed⟩ := deliveredBy_kept s b w head
  rw [← hscore]
  exact congrArg (fun n => ({ ((deliveredBy s b w head).raiseScore 8).toMeasuring .sampling with missed := n } : Home)) hmissed.symm

/-! ### EQ moved by a full drift accumulator (R37) -/

theorem driftedEq_late {sum : Int} {eq : Nat} (h : 0 < sum) (h0 : 0 < eq) : driftedEq eq (decide (0 < sum)) = some (eq - 1) := by
  rw [decide_eq_true h]
  exact if_neg (Nat.ne_of_gt h0)

theorem driftedEq_late_limit {sum : Int} {eq : Nat} (h : 0 < sum) (h0 : eq = 0) : driftedEq eq (decide (0 < sum)) = none := by
  rw [decide_eq_true h]
  exact if_pos h0

theorem driftedEq_early {sum : Int} {eq : Nat} (h : sum ≤ 0) (h0 : eq < 7920) : driftedEq eq (decide (0 < sum)) = some (eq + 1) := by
  rw [decide_eq_false (Int.not_lt.2 h)]
  exact if_pos h0

theorem driftedEq_early_limit {sum : Int} {eq : Nat} (h : sum ≤ 0) (h0 : 7920 ≤ eq) : driftedEq eq (decide (0 < sum)) = none := by
  rw [decide_eq_false (Int.not_lt.2 h)]
  exact if_neg (Nat.not_lt.2 h0)

/-! ### BURST_RECEIVED: good bursts and evidence -/

/-- Settles O56: a good burst by the state of its home, its offset and its level; the meters; a bad burst with a lit guard block by what the charge does. -/
theorem goodBurstsAndEvidence : Obligations.GoodBurstsAndEvidence := by
  refine ⟨fun s c t b w δ head G h2 => ⟨fun hs => ⟨fun hm => ⟨fun hfar hlim => ?_, fun hd hsum => ?_, fun eq tag hd heq htag =>
      ⟨fun hlate => ⟨fun h0 => ?_, fun h0 hr => ?_, fun h0 hr => ?_⟩, fun hearly => ⟨fun h0 => ?_, fun h0 hr => ?_, fun h0 hr => ?_⟩⟩, fun hd hlow => ?_⟩,
        fun hm hfar hd => ⟨fun hr => ?_, fun hr hb => ?_⟩⟩, fun hs hm => ⟨fun hd => ?_, fun hd hlow => ?_⟩⟩,
    fun x band n => ⟨Home.deliver_unwatched band n, Home.deliver_watched band⟩, fun k band n => ⟨Bank.countUp_within, Bank.countUp_past⟩, ?_⟩
  · exact exec_served_far G hs hm hfar hlim
  · rw [exec_served_sum G hs hm (hd.trans h2) hd hsum]
    rfl
  · exact exec_served_limit G hs hm (hd.trans h2) hd (by omega) heq htag (driftedEq_late_limit (by omega) h0)
  · exact exec_served_moved G hs hm (hd.trans h2) hd (by omega) heq htag (driftedEq_late (by omega) h0) hr
  · rw [exec_served_held G hs hm (hd.trans h2) hd (by omega) heq htag (driftedEq_late (by omega) h0) hr, if_pos (by omega)]
    rfl
  · exact exec_served_limit G hs hm (hd.trans h2) hd (by omega) heq htag (driftedEq_early_limit (by omega) h0)
  · exact exec_served_moved G hs hm (hd.trans h2) hd (by omega) heq htag (driftedEq_early (by omega) h0) hr
  · rw [exec_served_held G hs hm (hd.trans h2) hd (by omega) heq htag (driftedEq_early (by omega) h0) hr, if_neg (by omega)]
    rfl
  · exact exec_served_drift G hs hm h2 hd hlow
  · rw [exec_served_overlap G hs hm hfar hd, State.goodBurst, State.overlap_searching (by rw [State.put_tree]; exact hr), State.put_onTree]
    rfl
  · rw [exec_served_overlap G hs hm hfar hd, State.goodBurst, State.overlap_counts (by rw [State.put_tree]; exact hr) (by rw [State.put_tree]; exact hb),
      State.put_onTree]
    rfl
  · exact exec_lost_returns G hs hm hd
  · rw [exec_lost_measures G hs hm hd hlow, deliveredBy_measures]
    rfl
  · intro s c t b w owner kind weight hc hw hlit _ hh before hcase x raised line judged
    have ho : guardOwner (s.tree t).windowBefore (s.tree t).lastBlockLit w b.runsOn = (owner, kind) := by
      obtain ⟨⟨v, htaken, hv, hadj, hlast, hon, rfl⟩, rfl, -⟩ | ⟨hnone, rfl, rfl, -⟩ := hcase
      · rw [TreeLine.windowBefore_eq.2 ⟨htaken, hv⟩]
        exact guardOwner_overrun ⟨hadj, hlast, hon⟩
      · exact guardOwner_early fun v e => hnone v (TreeLine.windowBefore_eq.1 e).2 (TreeLine.windowBefore_eq.1 e).1
    have hweight : kind.weight = weight := by
      obtain ⟨-, rfl, rfl⟩ | ⟨-, -, rfl, rfl⟩ := hcase <;> rfl
    have hjudged : (s.begin.onTree t fun y => y.badGuard b kind) = judged := by
      obtain ⟨-, rfl, rfl⟩ | ⟨-, -, rfl, rfl⟩ := hcase <;> rfl
    have hkept : ∀ u, (judged.tree u).isolations = (s.tree u).isolations ∧ (judged.tree u).queue = (s.tree u).queue := fun u => by
      rw [← hjudged, State.onTree_tree, State.begin_tree, State.begin_tree]
      split
      · rename_i e
        rw [e]
        exact TreeLine.badGuard_kept _ _ _
      · exact ⟨rfl, rfl⟩
    subst hweight
    refine ⟨fun hs => ?_, fun hs => ?_, fun u tag hs h192 hu htag hq hl => ?_⟩
    · rw [exec_guard_raises hc hw hlit hh ho hs, hjudged]
      rfl
    · rw [exec_guard_discards hc hw hlit hh ho hs, hjudged]
    · rw [exec_guard_isolates hc hw hlit hh ho hs h192 hu htag hq hl, hjudged, ← (hkept u).1, ← (hkept u).2]
      rfl

end Sys2Proof.Machine
end

section
/-! SUPPORT. Zones: what a DISCOVER zone brings to the capture list and the search queue (R46, R47, R20), and what a MEASURE zone's sample does with its
candidate (R63 to R65). -/

namespace Sys2Proof.Machine

/-! ### The capture list of a DISCOVER zone (R46) -/

/-- The members of a list at their first places, in order. -/
def firstSeen (ids : List Identity) : List Identity := ids.reverse.dedup.reverse

theorem mem_firstSeen {ids : List Identity} {id : Identity} : id ∈ firstSeen ids ↔ id ∈ ids := by
  simp [firstSeen]

theorem firstSeen_append_of_mem {ids : List Identity} {id : Identity} (h : id ∈ ids) : firstSeen (ids ++ [id]) = firstSeen ids := by
  rw [firstSeen, List.reverse_append, List.reverse_singleton, List.singleton_append, List.dedup_cons_of_mem (List.mem_reverse.2 h), firstSeen]

theorem firstSeen_append_of_not_mem {ids : List Identity} {id : Identity} (h : id ∉ ids) : firstSeen (ids ++ [id]) = firstSeen ids ++ [id] := by
  rw [firstSeen, List.reverse_append, List.reverse_singleton, List.singleton_append, List.dedup_cons_of_notMem (mt List.mem_reverse.1 h),
    List.reverse_cons, firstSeen]

/-- R46: a clean burst whose identity is listed, or that finds four listed, adds none to the four first seen. -/
theorem take_firstSeen_append (ids : List Identity) (id : Identity) :
    (firstSeen (ids ++ [id])).take 4 =
      if id ∈ (firstSeen ids).take 4 ∨ 4 ≤ ((firstSeen ids).take 4).length then (firstSeen ids).take 4 else (firstSeen ids).take 4 ++ [id] := by
  by_cases hlong : 4 ≤ (firstSeen ids).length
  · have hfull : 4 ≤ ((firstSeen ids).take 4).length := by rw [List.length_take]; omega
    rw [if_pos (.inr hfull)]
    by_cases hm : id ∈ ids
    · rw [firstSeen_append_of_mem hm]
    · rw [firstSeen_append_of_not_mem hm, List.take_append_of_le_length hlong]
  · have hall : (firstSeen ids).take 4 = firstSeen ids := List.take_of_length_le (by omega)
    rw [hall]
    by_cases hm : id ∈ ids
    · rw [firstSeen_append_of_mem hm, if_pos (.inl (mem_firstSeen.2 hm)), hall]
    · rw [firstSeen_append_of_not_mem hm, if_neg (by rw [mem_firstSeen]; exact not_or.2 ⟨hm, hlong⟩),
        List.take_of_length_le (by rw [List.length_append, List.length_singleton]; omega)]

/-- What a list of bursts fills the capture list with (R46). -/
theorem captureFill (bursts : List (List Byte)) :
    let f := bursts.foldl CaptureFill.burst ⟨[], 0, 0⟩
    let clean := bursts.filterMap zoneIdentity
    f.list = (firstSeen clean).take 4 ∧ f.list.length + f.extra = clean.length ∧ clean.length + f.garbled = bursts.length := by
  induction bursts using List.reverseRecOn with
  | nil => exact ⟨rfl, rfl, rfl⟩
  | append_singleton bs b ih =>
    dsimp only at ih ⊢
    obtain ⟨hlist, hextra, hgarbled⟩ := ih
    rw [List.foldl_append, List.filterMap_append, List.foldl_cons, List.foldl_nil, CaptureFill.burst]
    cases hid : zoneIdentity b with
    | none =>
      rw [List.filterMap_cons_none hid, List.filterMap_nil, List.append_nil]
      refine ⟨hlist, hextra, ?_⟩
      rw [List.length_append, List.length_singleton]
      dsimp only
      omega
    | some id =>
      rw [List.filterMap_cons_some hid, List.filterMap_nil, take_firstSeen_append, ← hlist]
      simp only [List.length_append, List.length_singleton]
      split <;> refine ⟨rfl, ?_, ?_⟩ <;> simp only [List.length_append, List.length_singleton] <;> omega

theorem foldl_captureFill (bursts : List (List Byte)) :
    let clean := bursts.filterMap zoneIdentity
    let captures := (firstSeen clean).take 4
    bursts.foldl CaptureFill.burst ⟨[], 0, 0⟩ = ⟨captures, clean.length - captures.length, bursts.length - clean.length⟩ := by
  obtain ⟨hlist, hextra, hgarbled⟩ := captureFill bursts
  rw [CaptureFill.mk.injEq, ← hlist]
  exact ⟨rfl, Nat.eq_sub_of_add_eq' hextra, Nat.eq_sub_of_add_eq' hgarbled⟩

/-! ### The captures dealt with (R47, R20) -/

/-- A 16-bit counter that saturates, raised n times. -/
def raised (c n : Nat) : Nat := if n = 0 then c else min 65535 (c + n)

theorem raised_succ (c n : Nat) : raised (bump c) n = raised c (n + 1) := by
  unfold raised bump satAdd
  split <;> simp <;> omega

/-- The captures of a list that are not barred. -/
def State.openCaptures (s : State) (ids : List Identity) : List Identity := ids.filter fun id => id ∉ s.enrol.barred

/-- The part when the captures of a list have been dealt with. -/
def State.dealt (s : State) (t : Tree) (ids : List Identity) : State :=
  { s with
    enrol := { s.enrol with barredCaptures := raised s.enrol.barredCaptures (ids.length - (s.openCaptures ids).length) }
    walks := s.walks ++ ((s.openCaptures ids).take (6 - s.walks.length)).map fun id => ⟨.capture t, id, 0, 128⟩
    walkDrops := raised s.walkDrops ((s.openCaptures ids).length - (6 - s.walks.length)) }

section Deal

variable {s : State} {id : Identity} (t : Tree)

theorem State.dealCapture_barred (h : id ∈ s.enrol.barred) :
    State.dealCapture t s id = { s with enrol := { s.enrol with barredCaptures := bump s.enrol.barredCaptures } } := by
  rw [State.dealCapture, if_pos (by simpa [Enrollment.isBarred] using h)]
  rfl

theorem State.dealCapture_queued (h : id ∉ s.enrol.barred) (hroom : s.walks.length < 6) :
    State.dealCapture t s id = { s with walks := s.walks ++ [⟨.capture t, id, 0, 128⟩] } := by
  rw [State.dealCapture, if_neg (by simpa [Enrollment.isBarred] using h), State.queueWalk, if_pos hroom]
  rfl

theorem State.dealCapture_dropped (h : id ∉ s.enrol.barred) (hroom : 6 ≤ s.walks.length) :
    State.dealCapture t s id = { s with walkDrops := bump s.walkDrops } := by
  rw [State.dealCapture, if_neg (by simpa [Enrollment.isBarred] using h), State.queueWalk, if_neg (Nat.not_lt.2 hroom)]

theorem State.foldl_dealCapture (ids : List Identity) (s : State) : ids.foldl (State.dealCapture t) s = s.dealt t ids := by
  induction ids generalizing s with
  | nil => simp [State.dealt, State.openCaptures, raised]
  | cons id ids ih =>
    have hle : (s.openCaptures ids).length ≤ ids.length := List.length_filter_le _ _
    rw [List.foldl_cons, ih]
    by_cases hb : id ∈ s.enrol.barred
    · have hopen : s.openCaptures (id :: ids) = s.openCaptures ids := List.filter_cons_of_neg (by simpa using hb)
      rw [State.dealCapture_barred t hb, State.dealt, State.dealt, hopen]
      have hcount : (id :: ids).length - (s.openCaptures ids).length = ids.length - (s.openCaptures ids).length + 1 := by
        rw [List.length_cons]; omega
      rw [hcount, ← raised_succ]
      rfl
    · have hopen : s.openCaptures (id :: ids) = id :: s.openCaptures ids := List.filter_cons_of_pos (by simpa using hb)
      have hcount : (id :: ids).length - (id :: s.openCaptures ids).length = ids.length - (s.openCaptures ids).length := by
        simp
      by_cases hroom : s.walks.length < 6
      · have hwalks : 6 - s.walks.length = 6 - (s.walks ++ [(⟨.capture t, id, 0, 128⟩ : WalkRequest)]).length + 1 := by
          rw [List.length_append, List.length_singleton]; omega
        rw [State.dealCapture_queued t hb hroom, State.dealt, State.dealt, hopen, hcount, hwalks, List.take_succ_cons, List.map_cons, List.length_cons,
          Nat.add_sub_add_right, ← List.singleton_append (l := List.map _ _), ← List.append_assoc]
        rfl
      · have hnone : 6 - s.walks.length = 0 := by omega
        rw [State.dealCapture_dropped t hb (Nat.not_lt.1 hroom), State.dealt, State.dealt, hopen, hcount, List.length_cons]
        simp only [hnone, List.take_zero, Nat.sub_zero, ← raised_succ]
        rfl

end Deal

theorem raised_eq_ite {c n : Nat} {P : Prop} [Decidable P] (h : P ↔ n = 0) : (if P then c else min 65535 (c + n)) = raised c n := by
  rw [raised]
  simp only [h]

theorem State.openCaptures_eq_iff (s : State) (ids : List Identity) :
    s.openCaptures ids = ids ↔ ids.length - (s.openCaptures ids).length = 0 := by
  have hle : (s.openCaptures ids).length ≤ ids.length := List.length_filter_le _ _
  have hsub : (s.openCaptures ids).Sublist ids := List.filter_sublist
  refine ⟨fun e => by rw [e]; exact Nat.sub_self _, fun e => hsub.eq_of_length (by omega)⟩

/-! ### The zone of a round -/

/-- The part when a tree's zone of the round has been taken (R33). -/
def State.zoned (s : State) (t : Tree) : State := s.begin.onTree t fun y => { y with zoneTaken := true }

@[simp] theorem State.zoned_home (s : State) (t : Tree) (h : HomeIndex) : (s.zoned t).home h = s.home h := rfl
@[simp] theorem State.zoned_tree (s : State) (t : Tree) : (s.zoned t).tree t = { s.tree t with zoneTaken := true } := by
  rw [State.zoned, State.onTree_tree, if_pos rfl, State.begin_tree]

/-- R33: a zone is taken once in its round, and is handed on by its purpose. -/
theorem exec_zone {s : State} {t : Tree} {zone : Zone} (z : ZoneRx) (hn : (s.tree t).zoneTaken = false) (hz : (s.tree t).active.zone = some zone) :
    exec (.zoneReceived t z) s =
      .next (match zone.purpose with
        | .discover => (s.zoned t).capture t z.bursts
        | .measure h tag => (s.zoned t).measureZone t h tag zone.length z.heads) := by
  refine congrArg Host.Outcome.next ?_
  simp only [State.zone, State.begin_tree, hz, hn, Bool.false_eq_true, if_false]
  rfl

/-- R46, R47: a DISCOVER zone fills the capture list and each capture is dealt with. -/
theorem exec_discoverZone {s : State} {t : Tree} {len : Nat} (z : ZoneRx) (hn : (s.tree t).zoneTaken = false)
    (hz : (s.tree t).active.zone = some ⟨.discover, len⟩) :
    let clean := z.bursts.filterMap zoneIdentity
    let captures := (firstSeen clean).take 4
    exec (.zoneReceived t z) s =
      .next (State.dealt { s with
        trees := s.trees.set t.idx { s.tree t with zoneTaken := true, captures := captures }
        enrol := { s.enrol with
          collisions := min 65535 (s.enrol.collisions + (z.bursts.length - clean.length))
          extraCaptures := min 65535 (s.enrol.extraCaptures + (clean.length - captures.length)) }
        out := [] } t captures) := by
  intro clean captures
  rw [exec_zone z hn hz]
  dsimp only
  rw [State.capture, foldl_captureFill, State.foldl_dealCapture, State.zoned, State.onTree_onTree]
  rfl

/-! ### The sample of a MEASURE zone (R63 to R65) -/

section Measure

variable {s : State} {h : HomeIndex} {t : Tree} {tag len : Nat}

/-- R45: a zone whose candidate is no longer in SAMPLING is discarded. -/
theorem State.measureZone_stale (heads : List ZoneHead) (hp : (s.home h).phase ≠ some .sampling) : s.measureZone t h tag len heads = s :=
  if_neg fun e => hp e.2.1

theorem State.measureZone_sampling (heads : List ZoneHead) (hs : (s.home h).state = .measuring) (ht : (s.home h).tree = some t)
    (hp : (s.home h).phase = some .sampling) (htag : (s.home h).tag = some tag) :
    s.measureZone t h tag len heads = s.takeSample h t len (zoneSample heads tag len) :=
  if_pos ⟨by rw [Home.standsOn_iff]; exact ⟨hs, ht⟩, hp, htag⟩

/-- R63: an attempt fails and another follows. -/
theorem State.failAttempt_again (ha : (s.home h).attempts < 3) :
    s.failAttempt h = s.setHome h { s.home h with samples := [], attempts := (s.home h).attempts + 1 } := by
  rw [State.failAttempt]
  refine if_neg ?_
  rw [State.onHome_home, if_pos rfl]
  exact Nat.not_le.2 (Nat.succ_lt_succ ha)

/-- R63: the fourth attempt's failure ends the measurement. -/
theorem State.failAttempt_last (ha : (s.home h).attempts = 3) :
    s.failAttempt h = (s.setHome h { s.home h with samples := [], attempts := 4 }).failMeasurement h .noReply := by
  have hfail : (s.onHome h fun x => { x with samples := [], attempts := x.attempts + 1 }) = s.setHome h { s.home h with samples := [], attempts := 4 } := by
    rw [State.onHome, ha]
  rw [State.failAttempt]
  dsimp only
  rw [hfail, State.setHome_home, if_pos rfl]
  exact if_pos (Nat.le_refl 4)

/-- R65: a home with meters is LOST. -/
theorem State.failMeasurement_lost (reason : UnknownReason) (he : (s.home h).eq.isSome = true) :
    s.failMeasurement h reason = s.setHome h { s.home h with state := .lost, lostTimer := 0, phase := none } := if_pos he

/-- R1, R6, R8, R16: an entry with its pool's share and its tag is freed. -/
theorem State.freeEntry_pooled (hs : inPool (s.home h).state = true) (ht : (s.home h).tree = some t) (htag : (s.home h).tag = some tag) :
    s.freeEntry h =
      { s with
        homes := s.homes.set h Home.free
        trees := s.trees.set t.idx (({ s.tree t with pool := (s.tree t).pool - (s.home h).g } : TreeLine).drain tag)
        forwardList := s.forwardList.filter fun i => i ≠ h } := by
  simp only [State.freeEntry, State.leavePool, State.drainTag, ht, htag, hs, if_true, State.poolSub, State.onTree_onTree, ne_eq, decide_not]
  rfl

/-- R65: a new home is freed, its identity unknown and offered to the admission list again. -/
theorem State.failMeasurement_new {id : Identity} (reason : UnknownReason) (hs : inPool (s.home h).state = true) (ht : (s.home h).tree = some t)
    (htag : (s.home h).tag = some tag) (he : (s.home h).eq = none) (hid : (s.home h).identity = some id) :
    s.failMeasurement h reason =
      { s with
        homes := s.homes.set h Home.free
        trees := s.trees.set t.idx (({ s.tree t with pool := (s.tree t).pool - (s.home h).g } : TreeLine).drain tag)
        forwardList := s.forwardList.filter fun i => i ≠ h
        enrol := { s.enrol.takeUnknown id t reason with admission :=
          if s.enrol.admission.length < 32 ∧ ∀ a ∈ s.enrol.admission, a.identity ≠ id
          then s.enrol.admission ++ [⟨id, (s.home h).account.getD 0, (s.home h).g, (s.home h).p⟩] else s.enrol.admission } } := by
  have hnone : (s.enrol.admissionOf id).isNone = true ↔ ∀ a ∈ s.enrol.admission, a.identity ≠ id := by simp [Enrollment.admissionOf]
  rw [State.failMeasurement, he]
  simp only [Option.isSome_none, Bool.false_eq_true, if_false, hid, ht]
  rw [State.freeEntry_pooled hs ht htag]
  simp only [State.noteUnknown, State.onEnrol, Enrollment.takeUnknown]
  simp only [Enrollment.admissionOf] at hnone
  simp only [Enrollment.admissionOf, hnone]
  split <;> rfl

/-- R63: a sample within reach that is not the third joins the others. -/
theorem State.takeSample_joins {x : Sample} (hr : x.offset ≤ (len - 8) * 8) (hn : (s.home h).samples.length < 2) :
    s.takeSample h t len (some x) = s.setHome h { s.home h with samples := (s.home h).samples ++ [x] } := by
  have hshort : ((s.home h).samples ++ [x]).length < 3 := by rw [List.length_append, List.length_singleton]; omega
  rw [State.takeSample]
  dsimp only
  rw [if_neg (Nat.not_lt.2 hr), if_pos hshort, State.onHome]

theorem State.takeSample_none : s.takeSample h t len none = s.failAttempt h := rfl

theorem State.takeSample_far {x : Sample} (hr : (len - 8) * 8 < x.offset) : s.takeSample h t len (some x) = s.failMeasurement h .outOfReach := if_pos hr

theorem samplesAgree_iff (xs : List Sample) : samplesAgree xs = true ↔ ∀ p ∈ xs, ∀ q ∈ xs, p.offset ≤ q.offset + 2 := by
  simp [samplesAgree]

section Third

variable {a b x : Sample} (hr : x.offset ≤ (len - 8) * 8) (hab : (s.home h).samples = [a, b])

include hr hab

theorem State.takeSample_third :
    s.takeSample h t len (some x) =
      if samplesAgree [a, b, x] then
        match medianSample [a, b, x] with
        | some m => (s.setHome h { s.home h with samples := [a, b, x] }).acceptAttempt h t ((len - 8) * 8) m
        | none => s.setHome h { s.home h with samples := [a, b, x] }
      else (s.setHome h { s.home h with samples := [a, b, x] }).failAttempt h := by
  rw [State.takeSample]
  dsimp only
  rw [if_neg (Nat.not_lt.2 hr), State.onHome, hab]
  rfl

/-- R63: three samples that do not agree fail the attempt. -/
theorem State.takeSample_disagrees (hd : ∃ p ∈ [a, b, x], ∃ q ∈ [a, b, x], q.offset + 2 < p.offset) (ha : (s.home h).attempts < 3) :
    s.takeSample h t len (some x) = s.setHome h { s.home h with samples := [], attempts := (s.home h).attempts + 1 } := by
  obtain ⟨p, hp, q, hq, hlt⟩ := hd
  have hno : ¬ samplesAgree [a, b, x] = true := fun e => Nat.not_le.2 hlt ((samplesAgree_iff _).1 e p hp q hq)
  rw [State.takeSample_third hr hab, if_neg hno, State.failAttempt_again (by rw [State.setHome_home, if_pos rfl]; exact ha), State.setHome_home,
    if_pos rfl]
  simp only [State.setHome, Vector.set_set]

/-- R64: three samples that agree give EQ and the level estimate, and the entry is SETTING behind its DELAY-SET. -/
theorem State.takeSample_agrees {med : Sample} (hall : ∀ p ∈ [a, b, x], ∀ q ∈ [a, b, x], p.offset ≤ q.offset + 2)
    (hmed : medianSample [a, b, x] = some med) (htag : (s.home h).tag = some tag) :
    s.takeSample h t len (some x) =
      (s.setHome h { s.home h with
        eq := some ((len - 8) * 8 - med.offset), level := 16 * med.level, drift := 0, attempts := 0, samples := [], phase := some .setting }).onTree t
        fun y => y.offer ⟨.delaySet ((len - 8) * 8 - med.offset) .enrollment, tag, 0, false⟩ := by
  rw [State.takeSample_third hr hab, if_pos ((samplesAgree_iff _).2 hall), hmed]
  dsimp only
  rw [State.acceptAttempt, State.setHome_home, if_pos rfl]
  dsimp only
  rw [htag]
  simp only [State.setHome, Vector.set_set]
  rfl

end Third

end Measure

/-- R26: with room and no DELAY-SET of its tag in the queue, a DELAY-SET joins the tail. -/
theorem TreeLine.offer_delay {u : TreeLine} {n tag : Nat} (src : DelaySource) (hq : u.queue.length < 16)
    (hd : ∀ m ∈ u.queue, m.delaySetFor tag = false) :
    u.offer ⟨.delaySet n src, tag, 0, false⟩ = { u with queue := u.queue ++ [⟨.delaySet n src, tag, 0, false⟩] } := by
  have hfresh : u.hasFreshDelay tag = false := List.any_eq_false.2 fun m hm => by rw [hd m hm]; exact Bool.false_ne_true
  have htail : ∀ q : List CtlMsg, insertCtl ⟨.delaySet n src, tag, 0, false⟩ q = q ++ [⟨.delaySet n src, tag, 0, false⟩] := fun q => by
    induction q with
    | nil => rfl
    | cons y ys ih => rw [insertCtl, ih]; rfl
  simp only [TreeLine.offer, hfresh, Bool.false_eq_true, if_false, TreeLine.place16, hq, if_true, htail]

theorem State.zoned_setHome_onTree (s : State) (t : Tree) (h : HomeIndex) (x : Home) (f : TreeLine → TreeLine) :
    ((s.zoned t).setHome h x).onTree t f =
      { s with out := [], homes := s.homes.set h x, trees := s.trees.set t.idx (f { s.tree t with zoneTaken := true }) } := by
  have htree : ((s.zoned t).setHome h x).tree t = { s.tree t with zoneTaken := true } := s.zoned_tree t
  rw [State.onTree, htree]
  simp only [State.setTree, State.setHome, State.zoned, State.onTree, Quad_set_set]
  rfl

/-! ### A new home whose measurement fails (R65) -/

/-- The part when a new home's measurement has failed in the zone of its tree: the home freed, its tag drained, its identity unknown and offered to the admission list. -/
def State.zoneFreed (s : State) (t : Tree) (h : HomeIndex) (x : Home) (tag : Nat) (id : Identity) (reason : UnknownReason) : State :=
  { s with
    homes := s.homes.set h Home.free
    trees := s.trees.set t.idx (({ s.tree t with zoneTaken := true, pool := (s.tree t).pool - x.g } : TreeLine).drain tag)
    forwardList := s.forwardList.filter fun i => i ≠ h
    enrol := { s.enrol.takeUnknown id t reason with admission :=
      if s.enrol.admission.length < 32 ∧ ∀ a ∈ s.enrol.admission, a.identity ≠ id
      then s.enrol.admission ++ [⟨id, x.account.getD 0, x.g, x.p⟩] else s.enrol.admission }
    out := [] }

theorem State.zoned_failMeasurement {s : State} {t : Tree} {h : HomeIndex} {x : Home} {tag : Nat} {id : Identity} (reason : UnknownReason)
    (hs : inPool x.state = true) (ht : x.tree = some t) (htag : x.tag = some tag) (he : x.eq = none) (hid : x.identity = some id) :
    ((s.zoned t).setHome h x).failMeasurement h reason = s.zoneFreed t h x tag id reason := by
  have hx : ((s.zoned t).setHome h x).home h = x := by rw [State.setHome_home, if_pos rfl]
  have htree : ((s.zoned t).setHome h x).tree t = { s.tree t with zoneTaken := true } := s.zoned_tree t
  rw [State.failMeasurement_new reason (by rw [hx]; exact hs) (by rw [hx]; exact ht) (by rw [hx]; exact htag) (by rw [hx]; exact he)
    (by rw [hx]; exact hid), hx, htree]
  simp only [State.setHome, Vector.set_set, State.zoned, State.onTree, State.setTree, Quad_set_set]
  rfl

theorem State.zoneFreed_tree (s : State) (t : Tree) (h : HomeIndex) (x : Home) (tag : Nat) (id : Identity) (reason : UnknownReason) :
    (s.zoneFreed t h x tag id reason).tree t = ({ s.tree t with zoneTaken := true, pool := (s.tree t).pool - x.g } : TreeLine).drain tag := by
  simp [State.tree, State.zoneFreed]

theorem State.zoneFreed_tree_off {s : State} {t u : Tree} (hu : u ≠ t) (h : HomeIndex) (x : Home) (tag : Nat) (id : Identity) (reason : UnknownReason) :
    (s.zoneFreed t h x tag id reason).tree u = s.tree u := by
  have hidx : u.idx ≠ t.idx := fun e => hu (Tree_idx_inj.1 e)
  simp [State.tree, State.zoneFreed, Quad_get_set, hidx]

/-! ### ZONE_RECEIVED -/

/-- Settles O57: a DISCOVER zone's captures dealt with in order, and a MEASURE zone's sample by what it does with its candidate. -/
theorem zonesReceived : Obligations.ZonesReceived := by
  intro s t z len hn
  refine ⟨fun hz => ?_, fun h tag hz => ⟨fun hp => ?_, fun hs ht hp htag => ?_⟩⟩
  · intro clean captures open' room
    have hbarred : (if open' = captures then s.enrol.barredCaptures
          else min 65535 (s.enrol.barredCaptures + (captures.length - open'.length))) =
        raised s.enrol.barredCaptures (captures.length - open'.length) := raised_eq_ite (s.openCaptures_eq_iff captures)
    have hdrops : (if open'.length ≤ room then s.walkDrops else min 65535 (s.walkDrops + (open'.length - room))) =
        raised s.walkDrops (open'.length - room) := raised_eq_ite (Nat.sub_eq_zero_iff_le.symm)
    rw [hbarred, hdrops]
    exact exec_discoverZone z hn hz
  · rw [exec_zone z hn hz]
    exact congrArg Host.Outcome.next (State.measureZone_stale z.heads hp)
  · have hexec : exec (.zoneReceived t z) s = .next ((s.zoned t).takeSample h t len (zoneSample z.heads tag len)) := by
      rw [exec_zone z hn hz]
      exact congrArg Host.Outcome.next (State.measureZone_sampling z.heads hs ht hp htag)
    have hpool : inPool (s.home h).state = true := by rw [hs]; rfl
    rw [hexec]
    refine ⟨fun hnone ha => ?_, fun id reason he hid hplace hcause => ?_, fun hnone ha he => ?_, fun x hx =>
      ⟨fun hr he => ?_, fun hr hlen => ?_, fun a b hr hab => ⟨fun hd ha => ?_, fun med hall hmed hq hnodelay => ?_⟩⟩⟩
    · rw [hnone]
      exact congrArg Host.Outcome.next (State.failAttempt_again ha)
    · refine ⟨s.zoneFreed t h (s.home h) tag id reason, ?_, ?_, ?_, fun u hu => State.zoneFreed_tree_off hu _ _ _ _ _, rfl⟩
      · obtain ⟨hnone, ha, rfl⟩ | ⟨⟨x, hx, hr⟩, rfl⟩ := hcause
        · rw [hnone, State.takeSample_none, State.failAttempt_last (by rw [State.zoned_home]; exact ha), State.zoned_home,
            State.zoned_failMeasurement (tag := tag) (id := id) .noReply (by exact hpool) (by exact ht) (by exact htag) (by exact he) (by exact hid)]
          rfl
        · have hself : (s.zoned t).setHome h (s.home h) = s.zoned t :=
            congrArg (fun v => { s.zoned t with homes := v }) (Vector.set_getElem_self h.isLt)
          rw [hx, State.takeSample_far hr, ← State.zoned_failMeasurement .outOfReach hpool ht htag he hid, hself]
      · have hdrained := TreeLine.drain_tagDrained (x := { s.tree t with zoneTaken := true, pool := (s.tree t).pool - (s.home h).g }) hplace
        rw [State.zoneFreed_tree]
        exact ⟨hdrained.places, hdrained.queue, hdrained.held⟩
      · rw [State.zoneFreed_tree]
        exact TreeLine.drain_keeps _ tag
    · rw [hnone, State.takeSample_none, State.failAttempt_last (by rw [State.zoned_home]; exact ha),
        State.failMeasurement_lost _ (by rw [State.setHome_home, if_pos rfl]; exact he), State.setHome_home, if_pos rfl]
      simp only [State.setHome, Vector.set_set]
      rfl
    · rw [hx, State.takeSample_far hr]
      exact congrArg Host.Outcome.next (State.failMeasurement_lost .outOfReach he)
    · rw [hx]
      exact congrArg Host.Outcome.next (State.takeSample_joins hr hlen)
    · rw [hx, State.takeSample_disagrees (s := s.zoned t) hr hab hd ha]
      rfl
    · rw [hx, State.takeSample_agrees (s := s.zoned t) hr hab hall hmed htag,
        State.zoned_setHome_onTree, TreeLine.offer_delay .enrollment (by exact hq) (by exact hnodelay)]
      rfl

end Sys2Proof.Machine
end

section
/-! SUPPORT. START-TREE (R42, R43, R111): what an offered control message leaves in the queue and among the kept messages, and the homes and the tree it leaves. -/

namespace Sys2Proof.Machine

/-! ### Messages that an offer never loses (R26, R28) -/

theorem mem_insertCtl {m x : CtlMsg} {q : List CtlMsg} : x ∈ insertCtl m q ↔ x = m ∨ x ∈ q := by
  induction q with
  | nil => exact List.mem_singleton.trans (or_iff_left List.not_mem_nil).symm
  | cons y ys ih =>
    rw [insertCtl]
    split
    · exact List.mem_cons
    · rw [List.mem_cons, ih, List.mem_cons]
      exact or_left_comm

/-- R28: a kept message stands among the kept ones, a LASER-OFF for its tag perhaps in the place of another, and none of those is lost. -/
theorem TreeLine.mem_keep_held (y : TreeLine) {m x : CtlMsg} (hx : x ∈ y.held ∨ x = m) : ∃ x' ∈ (y.keep m).held, x'.kind = x.kind ∧ x'.tag = x.tag := by
  have hjoin : ∃ x' ∈ y.held ++ [m], x'.kind = x.kind ∧ x'.tag = x.tag :=
    ⟨x, List.mem_append.2 (hx.imp_right fun e => List.mem_singleton.2 e), rfl, rfl⟩
  unfold TreeLine.keep
  split
  · rename_i hk
    split
    · rename_i hany
      have hsame : ∀ z ∈ y.held, ∃ x' ∈ y.held.map fun x => if x.laserOffFor m.tag then { x with awaited := x.awaited || m.awaited } else x,
          x'.kind = z.kind ∧ x'.tag = z.tag := fun z hz => by
        refine ⟨_, List.mem_map_of_mem hz, ?_⟩
        split <;> exact ⟨rfl, rfl⟩
      obtain hx | rfl := hx
      · exact hsame x hx
      · obtain ⟨z, hz, hoff⟩ := List.any_eq_true.1 hany
        obtain ⟨hkind, htag⟩ : z.kind = .laserOff ∧ z.tag = x.tag := by simpa [CtlMsg.laserOffFor] using hoff
        obtain ⟨x', hx', hkind', htag'⟩ := hsame z hz
        exact ⟨x', hx', hkind'.trans (hkind.trans hk.symm), htag'.trans htag⟩
    · exact hjoin
  all_goals exact hjoin

/-- A message of a kind and a tag is queued on the tree or kept by its producer. -/
def TreeLine.carries (y : TreeLine) (P : CtlKind → Nat → Prop) : Prop := ∃ m ∈ y.queue ++ y.held, P m.kind m.tag

section Carries

variable {P : CtlKind → Nat → Prop} {y : TreeLine} {m : CtlMsg}

theorem TreeLine.carries_iff : y.carries P ↔ (∃ x ∈ y.queue, P x.kind x.tag) ∨ ∃ x ∈ y.held, P x.kind x.tag := by
  simp only [TreeLine.carries, List.mem_append, or_and_right, exists_or]

theorem TreeLine.keep_carries (h : y.carries P ∨ P m.kind m.tag) : (y.keep m).carries P := by
  have hkept : ∀ x, x ∈ y.held ∨ x = m → P x.kind x.tag → ∃ x' ∈ (y.keep m).held, P x'.kind x'.tag := fun x hx hp => by
    obtain ⟨x', hx', hkind, htag⟩ := y.mem_keep_held hx
    exact ⟨x', hx', by rw [hkind, htag]; exact hp⟩
  rw [TreeLine.carries_iff] at h ⊢
  obtain (hq | ⟨x, hx, hp⟩) | hp := h
  · rw [TreeLine.keep_frame]
    exact .inl hq
  · exact .inr (hkept x (.inl hx) hp)
  · exact .inr (hkept m (.inr rfl) hp)

theorem TreeLine.freeTag_carries {tag : Nat} (h : y.carries P) : (y.freeTag tag).carries P := by
  rw [TreeLine.carries, TreeLine.freeTag_frame]
  exact h

variable (hdrop : ∀ tag, ¬ P .drop tag)

include hdrop

/-- R28: a displaced message that is no DROP is kept. -/
theorem TreeLine.lose_carries (h : y.carries P ∨ P m.kind m.tag) : (y.lose m).carries P := by
  rw [TreeLine.lose]
  split
  · rename_i hd
    have hk : m.kind = .drop := of_decide_eq_true hd
    exact TreeLine.freeTag_carries (h.resolve_right fun hp => hdrop m.tag (hk ▸ hp))
  · exact TreeLine.keep_carries h

theorem TreeLine.place16_carries (h : y.carries P ∨ P m.kind m.tag) : (y.place16 m).carries P := by
  have hinsert : ∀ q : List CtlMsg, (∃ x ∈ q, P x.kind x.tag) ∨ P m.kind m.tag → ∃ x ∈ insertCtl m q, P x.kind x.tag := fun q hq => by
    obtain ⟨x, hx, hp⟩ | hp := hq
    · exact ⟨x, mem_insertCtl.2 (.inr hx), hp⟩
    · exact ⟨m, mem_insertCtl.2 (.inl rfl), hp⟩
  unfold TreeLine.place16
  split
  · rw [TreeLine.carries_iff] at h ⊢
    obtain (hq | hheld) | hp := h
    · exact .inl (hinsert _ (.inl hq))
    · exact .inr hheld
    · exact .inl (hinsert _ (.inr hp))
  · split
    · split
      · rename_i x hlast
        split
        · exact TreeLine.keep_carries h
        · refine TreeLine.lose_carries hdrop ?_
          have hq : y.queue = y.queue.dropLast ++ [x] := (List.dropLast_append_getLast? x hlast).symm
          rw [TreeLine.carries_iff] at h ⊢
          rw [hq] at h
          simp only [List.mem_append, List.mem_singleton, or_and_right, exists_or, exists_eq_left] at h
          obtain ((hq | hp) | hheld) | hp := h
          · exact .inl (.inl (hinsert _ (.inl hq)))
          · exact .inr hp
          · exact .inl (.inr hheld)
          · exact .inl (.inl (hinsert _ (.inr hp)))
      · exact TreeLine.keep_carries h
    · exact TreeLine.keep_carries h

/-- R26, R28: an offer of anything but a DELAY-SET loses no message but a DROP, and the offered one is queued or kept. -/
theorem TreeLine.offer_carries (hm : ∀ n src, m.kind ≠ .delaySet n src) (h : y.carries P ∨ P m.kind m.tag) : (y.offer m).carries P := by
  unfold TreeLine.offer
  split
  · rename_i n src hk; exact absurd hk (hm n src)
  all_goals exact TreeLine.place16_carries hdrop h

end Carries

/-! ### What a run over the homes of a started tree leaves as it stands -/

/-- The state is another with homes and one tree changed, that tree in its control messages, its lost messages and its tag table alone. -/
structure State.OffersOn (s : State) (t : Tree) (s' : State) : Prop where
  frame : s' = { s with homes := s'.homes, trees := s'.trees }
  off : ∀ u, u ≠ t → s'.tree u = s.tree u
  on : s'.tree t = { s.tree t with
    queue := (s'.tree t).queue, held := (s'.tree t).held, lostMessages := (s'.tree t).lostMessages, tags := (s'.tree t).tags }

theorem State.OffersOn.refl (s : State) (t : Tree) : s.OffersOn t s := ⟨rfl, fun _ _ => rfl, rfl⟩

theorem State.OffersOn.setHome {s s' : State} {t : Tree} (o : s.OffersOn t s') (h : HomeIndex) (x : Home) : s.OffersOn t (s'.setHome h x) where
  frame := congrArg (fun v => ({ v with homes := s'.homes.set h x } : State)) o.frame
  off := o.off
  on := o.on

theorem State.OffersOn.offerCtl {s s' : State} {t : Tree} (o : s.OffersOn t s') (m : CtlMsg) : s.OffersOn t (s'.offerCtl t m) where
  frame := congrArg (fun v => ({ v with trees := (s'.offerCtl t m).trees } : State)) o.frame
  off u hu := by rw [State.offerCtl, State.onTree_tree, if_neg hu]; exact o.off u hu
  on := by
    rw [State.offerCtl, State.onTree_tree, if_pos rfl, TreeLine.offer_frame]
    exact congrArg (fun y : TreeLine => { y with
      queue := ((s'.tree t).offer m).queue, held := ((s'.tree t).offer m).held, lostMessages := ((s'.tree t).offer m).lostMessages
      tags := ((s'.tree t).offer m).tags }) o.on

section Again

variable {s : State} {t : Tree}

/-- R42: what is queued or kept for a MEASURING home with a tag. -/
theorem State.assignAgain_cases (s : State) (t : Tree) (k : HomeIndex) :
    (State.assignAgain t s k = s) ∨ ∃ id tag, State.assignAgain t s k = s.offerCtl t ⟨.tagAssign id, tag, 0, false⟩ := by
  unfold State.assignAgain
  dsimp only
  split
  · split
    · split
      · exact .inl rfl
      · exact .inr ⟨_, _, rfl⟩
    · exact .inl rfl
  · exact .inl rfl

theorem State.OffersOn.assignAgain {s s' : State} (o : s.OffersOn t s') (k : HomeIndex) : s.OffersOn t (State.assignAgain t s' k) := by
  obtain e | ⟨id, tag, e⟩ := s'.assignAgain_cases t k <;> rw [e]
  · exact o
  · exact o.offerCtl _

theorem State.assignAgain_home (s : State) (k h : HomeIndex) : (State.assignAgain t s k).home h = s.home h := by
  obtain e | ⟨id, tag, e⟩ := s.assignAgain_cases t k <;> rw [e]
  rfl

theorem State.assignAgain_carries {P : CtlKind → Nat → Prop} (hdrop : ∀ tag, ¬ P .drop tag) (k : HomeIndex) (h : (s.tree t).carries P) :
    ((State.assignAgain t s k).tree t).carries P := by
  obtain e | ⟨id, tag, e⟩ := s.assignAgain_cases t k <;> rw [e]
  · exact h
  · rw [State.offerCtl, State.onTree_tree, if_pos rfl]
    exact TreeLine.offer_carries hdrop (fun n src e => by cases e) (.inl h)

/-- R42: a MEASURING home with its identity and its tag has a TAG-ASSIGN waiting. -/
theorem State.assignAgain_assigns {h : HomeIndex} {id : Identity} {tag : Nat} (hs : (s.home h).state = .measuring) (ht : (s.home h).tree = some t)
    (hid : (s.home h).identity = some id) (htag : (s.home h).tag = some tag) :
    ((State.assignAgain t s h).tree t).carries fun kind k => (∃ id', kind = .tagAssign id') ∧ k = tag := by
  have hon : (s.home h).standsOn .measuring t = true := by rw [Home.standsOn_iff]; exact ⟨hs, ht⟩
  simp only [State.assignAgain, hon, if_true, hid, htag]
  split
  · rename_i hany
    obtain ⟨m, hm, ha⟩ := List.any_eq_true.1 hany
    refine ⟨m, hm, ?_⟩
    obtain ⟨hmtag, hkind⟩ := Bool.and_eq_true_iff.1 ha
    refine ⟨?_, of_decide_eq_true hmtag⟩
    revert hkind
    cases m.kind with
    | tagAssign id' => exact fun _ => ⟨id', rfl⟩
    | _ => exact fun e => absurd e Bool.false_ne_true
  · rw [State.offerCtl, State.onTree_tree, if_pos rfl]
    exact TreeLine.offer_carries (fun _ e => by cases e.1.choose_spec) (fun n src e => by cases e) (.inr ⟨⟨id, rfl⟩, rfl⟩)

/-- R42, R111: a home's record when its tree has been started: an ISOLATED one refreshes anew. -/
def Home.refreshedOn (t : Tree) (x : Home) : Home := if x.standsOn .isolated t then { x with refresh := some 0, refreshDue := false } else x

theorem Home.refreshedOn_twice (t : Tree) (x : Home) : (x.refreshedOn t).refreshedOn t = x.refreshedOn t := by
  unfold Home.refreshedOn
  split
  · rename_i h
    exact if_pos h
  · rfl

theorem State.laserOffAgain_cases (s : State) (t : Tree) (k : HomeIndex) :
    State.laserOffAgain t s k = s.setHome k ((s.home k).refreshedOn t) ∨
      ∃ tag, State.laserOffAgain t s k = (s.setHome k ((s.home k).refreshedOn t)).offerCtl t ⟨.laserOff, tag, 0, false⟩ := by
  unfold State.laserOffAgain Home.refreshedOn
  dsimp only
  split
  · split
    · exact .inr ⟨_, rfl⟩
    · exact .inl rfl
  · exact .inl (congrArg (fun v => { s with homes := v }) (Vector.set_getElem_self k.isLt).symm)

theorem State.OffersOn.laserOffAgain {s s' : State} (o : s.OffersOn t s') (k : HomeIndex) : s.OffersOn t (State.laserOffAgain t s' k) := by
  obtain e | ⟨tag, e⟩ := s'.laserOffAgain_cases t k <;> rw [e]
  · exact o.setHome _ _
  · exact (o.setHome _ _).offerCtl _

theorem State.laserOffAgain_home (s : State) (k h : HomeIndex) :
    (State.laserOffAgain t s k).home h = if h = k then (s.home h).refreshedOn t else s.home h := by
  have hset : (s.setHome k ((s.home k).refreshedOn t)).home h = if h = k then (s.home h).refreshedOn t else s.home h := by
    rw [State.setHome_home]
    split
    · rename_i e; rw [e]
    · rfl
  obtain e | ⟨tag, e⟩ := s.laserOffAgain_cases t k <;> rw [e] <;> exact hset

theorem State.laserOffAgain_carries {P : CtlKind → Nat → Prop} (hdrop : ∀ tag, ¬ P .drop tag) (k : HomeIndex) (h : (s.tree t).carries P) :
    ((State.laserOffAgain t s k).tree t).carries P := by
  obtain e | ⟨tag, e⟩ := s.laserOffAgain_cases t k <;> rw [e]
  · exact h
  · rw [State.offerCtl, State.onTree_tree, if_pos rfl]
    exact TreeLine.offer_carries hdrop (fun n src e => by cases e) (.inl h)

/-- R42: an ISOLATED home with a tag has a LASER-OFF waiting. -/
theorem State.laserOffAgain_laserOff {h : HomeIndex} {tag : Nat} (hs : (s.home h).state = .isolated) (ht : (s.home h).tree = some t)
    (htag : (s.home h).tag = some tag) :
    ((State.laserOffAgain t s h).tree t).carries fun kind k => kind = .laserOff ∧ k = tag := by
  have hon : (s.home h).standsOn .isolated t = true := by rw [Home.standsOn_iff]; exact ⟨hs, ht⟩
  simp only [State.laserOffAgain, hon, if_true, htag]
  rw [State.offerCtl, State.onTree_tree, if_pos rfl]
  exact TreeLine.offer_carries (fun _ e => by cases e.1) (fun n src e => by cases e) (.inr ⟨rfl, rfl⟩)

end Again

/-! ### A tree started (R42) -/

/-- The part when a tree runs and its homes in service are MEASURING, before anything is sent to them. -/
def State.restarted (s : State) (c : Config) (t : Tree) : State :=
  (s.onTree t fun x => x.start c).mapHomes fun _ x => if x.servedOn t then x.toMeasuring .announcing else x

theorem mem_homeIndexes (h : HomeIndex) : h ∈ homeIndexes := List.mem_finRange h

section Start

variable (s : State) (c : Config) (t : Tree)

theorem State.startTree_eq :
    s.startTree c t = homeIndexes.foldl (State.laserOffAgain t) (homeIndexes.foldl (State.assignAgain t) (s.restarted c t)) := rfl

theorem State.startTree_offersOn : (s.restarted c t).OffersOn t (s.startTree c t) := by
  rw [State.startTree_eq]
  exact foldl_keeps (fun _ k o => o.laserOffAgain k) _ (foldl_keeps (fun _ k o => o.assignAgain k) _ (.refl _ _))

theorem State.foldl_assignAgain_home (z : State) (h : HomeIndex) : (homeIndexes.foldl (State.assignAgain t) z).home h = z.home h :=
  foldl_keeps (A := fun v => v.home h = z.home h) (fun _ _ e => (State.assignAgain_home _ _ _).trans e) _ rfl

theorem State.foldl_laserOffAgain_home (z : State) (h : HomeIndex) :
    (homeIndexes.foldl (State.laserOffAgain t) z).home h = (z.home h).refreshedOn t := by
  refine foldl_reaches (A := fun v => v.home h = z.home h ∨ v.home h = (z.home h).refreshedOn t) (B := fun v => v.home h = (z.home h).refreshedOn t)
    (mem_homeIndexes h) (fun v k hv => ?_) (fun v hv => ?_)
    (fun v k hv => ?_) (.inl rfl)
  · rw [State.laserOffAgain_home]
    split
    · obtain e | e := hv <;> rw [e]
      · exact .inr rfl
      · exact .inr (Home.refreshedOn_twice _ _)
    · exact hv
  · rw [State.laserOffAgain_home, if_pos rfl]
    obtain e | e := hv <;> rw [e]
    exact Home.refreshedOn_twice _ _
  · rw [State.laserOffAgain_home, hv]
    split
    · exact Home.refreshedOn_twice _ _
    · rfl

theorem State.startTree_home (h : HomeIndex) :
    (s.startTree c t).home h = (if (s.home h).servedOn t then (s.home h).toMeasuring .announcing else s.home h).refreshedOn t := by
  rw [State.startTree_eq, State.foldl_laserOffAgain_home, State.foldl_assignAgain_home, State.restarted, State.mapHomes_home]
  rfl

/-- R42: a home in service is MEASURING in ANNOUNCING. -/
theorem State.startTree_served {h : HomeIndex} (hs : inService (s.home h).state = true) (ht : (s.home h).tree = some t) :
    (s.startTree c t).home h = (s.home h).toMeasuring .announcing := by
  rw [State.startTree_home, if_pos ((Home.servedOn_iff _ _).2 ⟨hs, ht⟩)]
  rfl

/-- R42, R111: an ISOLATED home refreshes anew. -/
theorem State.startTree_isolated {h : HomeIndex} (hs : (s.home h).state = .isolated) (ht : (s.home h).tree = some t) :
    (s.startTree c t).home h = { s.home h with refresh := some 0, refreshDue := false } := by
  have hno : ¬ (s.home h).servedOn t = true := fun e => by
    obtain ⟨hin, -⟩ := (Home.servedOn_iff _ _).1 e
    rw [hs] at hin
    exact Bool.false_ne_true hin
  rw [State.startTree_home, if_neg hno]
  exact if_pos ((Home.standsOn_iff _ _ _).2 ⟨hs, ht⟩)

theorem State.startTree_others {h : HomeIndex}
    (ho : (s.home h).tree ≠ some t ∨ (inService (s.home h).state = false ∧ (s.home h).state ≠ .isolated)) :
    (s.startTree c t).home h = s.home h := by
  have hno : ¬ (s.home h).servedOn t = true := fun e => by
    obtain ⟨hin, ht⟩ := (Home.servedOn_iff _ _).1 e
    obtain hne | ⟨hout, -⟩ := ho
    · exact hne ht
    · rw [hout] at hin
      exact Bool.false_ne_true hin
  have hoff : ¬ (s.home h).standsOn .isolated t = true := fun e => by
    obtain ⟨hiso, ht⟩ := (Home.standsOn_iff _ _ _).1 e
    exact ho.elim (fun hne => hne ht) fun hne => hne.2 hiso
  rw [State.startTree_home, if_neg hno]
  exact if_neg hoff

/-- R42: every MEASURING home of the started tree with a tag has a TAG-ASSIGN queued or kept. -/
theorem State.startTree_assigned {h : HomeIndex} {id : Identity} {tag : Nat} (hs : ((s.startTree c t).home h).state = .measuring)
    (ht : ((s.startTree c t).home h).tree = some t) (hid : ((s.startTree c t).home h).identity = some id)
    (htag : ((s.startTree c t).home h).tag = some tag) :
    ((s.startTree c t).tree t).carries fun kind k => (∃ id', kind = .tagAssign id') ∧ k = tag := by
  have hhome : (s.startTree c t).home h = ((s.restarted c t).home h).refreshedOn t := by
    rw [State.startTree_eq, State.foldl_laserOffAgain_home, State.foldl_assignAgain_home]
  have hsame : (((s.restarted c t).home h).refreshedOn t).state = ((s.restarted c t).home h).state ∧
      (((s.restarted c t).home h).refreshedOn t).tree = ((s.restarted c t).home h).tree ∧
      (((s.restarted c t).home h).refreshedOn t).identity = ((s.restarted c t).home h).identity ∧
      (((s.restarted c t).home h).refreshedOn t).tag = ((s.restarted c t).home h).tag := by
    unfold Home.refreshedOn
    split <;> exact ⟨rfl, rfl, rfl, rfl⟩
  obtain ⟨estate, etree, eid, etag⟩ := hsame
  rw [hhome] at hs ht hid htag
  rw [estate] at hs
  rw [etree] at ht
  rw [eid] at hid
  rw [etag] at htag
  have hdrop : ∀ k, ¬ ((∃ id', CtlKind.drop = .tagAssign id') ∧ k = tag) := fun _ e => by cases e.1.choose_spec
  rw [State.startTree_eq]
  refine foldl_keeps (A := fun v : State => (v.tree t).carries fun kind k => (∃ id', kind = .tagAssign id') ∧ k = tag)
    (fun v k hv => State.laserOffAgain_carries hdrop k hv) _ ?_
  refine foldl_reaches (A := fun v => v.home h = (s.restarted c t).home h)
    (B := fun v : State => (v.tree t).carries fun kind k => (∃ id', kind = .tagAssign id') ∧ k = tag) (mem_homeIndexes h) (fun v k hv => (State.assignAgain_home _ _ _).trans hv)
    (fun v hv => ?_) (fun v k hv => State.assignAgain_carries hdrop k hv) rfl
  exact State.assignAgain_assigns (by rw [hv]; exact hs) (by rw [hv]; exact ht) (by rw [hv]; exact hid) (by rw [hv]; exact htag)

/-- R42: every ISOLATED home of the started tree with a tag has a LASER-OFF queued or kept. -/
theorem State.startTree_laserOff {h : HomeIndex} {tag : Nat} (hs : (s.home h).state = .isolated) (ht : (s.home h).tree = some t)
    (htag : (s.home h).tag = some tag) :
    ((s.startTree c t).tree t).carries fun kind k => kind = .laserOff ∧ k = tag := by
  have hdrop : ∀ k, ¬ (CtlKind.drop = .laserOff ∧ k = tag) := fun _ e => by cases e.1
  have hno : ¬ (s.home h).servedOn t = true := fun e => by
    obtain ⟨hin, -⟩ := (Home.servedOn_iff _ _).1 e
    rw [hs] at hin
    exact Bool.false_ne_true hin
  have hstart : (homeIndexes.foldl (State.assignAgain t) (s.restarted c t)).home h = s.home h := by
    rw [State.foldl_assignAgain_home, State.restarted, State.mapHomes_home]
    exact if_neg hno
  rw [State.startTree_eq]
  refine foldl_reaches (A := fun v => (v.home h).state = .isolated ∧ (v.home h).tree = some t ∧ (v.home h).tag = some tag)
    (B := fun v : State => (v.tree t).carries fun kind k => kind = .laserOff ∧ k = tag) (mem_homeIndexes h)
    (fun v k hv => ?_) (fun v hv => State.laserOffAgain_laserOff hv.1 hv.2.1 hv.2.2) (fun v k hv => State.laserOffAgain_carries hdrop k hv)
    (by rw [hstart]; exact ⟨hs, ht, htag⟩)
  rw [State.laserOffAgain_home]
  split
  · unfold Home.refreshedOn
    split <;> exact hv
  · exact hv

end Start

/-- Settles O37: the run over the homes of the tree leaves each as R42 and R111 say, and no message it queues or keeps is lost to a later one. -/
theorem treeStarted : Obligations.TreeStarted := by
  intro s c rx num args t ha hroom harg
  have hconfig : s.heard.config = some c := ha.1
  refine ⟨fun hstop hmask => ?_, fun hno => ?_⟩
  · have hf : s.heard.ranged (treeArg args) s.heard.startRequest = (s.heard.startTree c t).accept := by
      rw [State.ranged_some _ harg, State.startRequest]
      simp only [hconfig, State.heard_tree, hstop, hmask]
      rfl
    have hlink := s.heard.startTree_link c t
    have hoffers := s.heard.startTree_offersOn c t
    have hserved := fun h hs ht => s.heard.startTree_served c t (h := h) hs ht
    have hisolated := fun h hs ht => s.heard.startTree_isolated c t (h := h) hs ht
    have hlaserOff := fun h tag hs ht htag => s.heard.startTree_laserOff c t (h := h) (tag := tag) hs ht htag
    have hothers := fun h ho => s.heard.startTree_others c t (h := h) ho
    have hassigned := fun h id tag hs ht hid htag => s.heard.startTree_assigned c t (h := h) (id := id) (tag := tag) hs ht hid htag
    generalize s.heard.startTree c t = z at hf hlink hoffers hserved hisolated hlaserOff hothers hassigned
    have hon : z.tree t = { s.tree t with
        running := true, discovery := c.discovery
        queue := (z.tree t).queue, held := (z.tree t).held, lostMessages := (z.tree t).lostMessages, tags := (z.tree t).tags } := by
      refine hoffers.on.trans ?_
      rw [State.restarted, State.mapHomes_tree, State.onTree_tree, if_pos rfl]
      rfl
    refine ⟨{ z with link := s.link.answered rx num 13 .ok [] }, congrArg Host.Outcome.next (State.request_taken ha hroom hf rfl hlink rfl),
      congrArg (fun v => ({ v with link := s.link.answered rx num 13 .ok [] } : State)) hoffers.frame, ?_, ?_, fun u hu => ?_, hon,
      hserved, fun h hs ht => ⟨hisolated h hs ht, fun tag htag => hlaserOff h tag hs ht htag⟩, hothers, hassigned⟩
    · exact congrArg TreeLine.running hon
    · exact congrArg TreeLine.discovery hon
    · refine (hoffers.off u hu).trans ?_
      rw [State.restarted, State.mapHomes_tree, State.onTree_tree, if_neg hu]
      rfl
  · have hf : s.heard.ranged (treeArg args) s.heard.startRequest = s.heard.refuse .state := by
      rw [State.ranged_some _ harg, State.startRequest]
      simp only [hconfig, State.heard_tree]
      refine if_pos ?_
      obtain h | h := hno <;> simp [h]
    exact congrArg Host.Outcome.next (State.request_refused ha hroom hf rfl)

end Sys2Proof.Machine
end

section
/-! SUPPORT. The headers a round boundary sends (R25, R27): their order, what they carry and the queues they leave. -/

namespace Sys2Proof.Machine

/-! ### What goes out -/

/-- The states send the same and stand in the same round. -/
def State.SameRound (s s' : State) : Prop := s'.clock = s.clock ∧ s'.out = s.out

theorem State.SameRound.trans {a b c : State} (h : a.SameRound b) (k : b.SameRound c) : a.SameRound c := ⟨k.1.trans h.1, k.2.trans h.2⟩

theorem State.announced_sameRound (s : State) (t : Tree) (tag : Nat) : s.SameRound (s.announced t tag) := by
  unfold State.announced
  dsimp only
  split
  · exact ⟨rfl, rfl⟩
  · split <;> exact ⟨rfl, rfl⟩

theorem State.delaySent_sameRound (s : State) (t : Tree) (tag : Nat) : s.SameRound (s.delaySent t tag) := by
  unfold State.delaySent
  split
  · exact ⟨rfl, rfl⟩
  · split <;> exact ⟨rfl, rfl⟩

theorem State.reportSent_sameRound (t : Tree) (s : State) (m : CtlMsg) : s.SameRound (State.reportSent t s m) := by
  unfold State.reportSent
  split
  · exact ⟨rfl, rfl⟩
  · exact s.announced_sameRound t m.tag
  · exact s.announced_sameRound t m.tag
  · exact s.delaySent_sameRound t m.tag
  all_goals exact ⟨rfl, rfl⟩

/-- The header of a tree in a round (R25). -/
def TreeLine.header (y : TreeLine) (number : BitVec 32) (t : Tree) : Output := .header t (headerBytes number y.active (chosenMessages y.queue))

/-- R25: a RUNNING tree's header goes out, and a STOPPED one has none. -/
theorem State.sendHeader_out (s : State) (t : Tree) :
    (s.sendHeader t).out = s.out ++ (if (s.tree t).running then [(s.tree t).header s.clock.number t] else []) ∧
      (s.sendHeader t).clock = s.clock := by
  cases hr : (s.tree t).running
  · rw [State.sendHeader_stopped hr]
    exact ⟨(List.append_nil _).symm, rfl⟩
  · rw [State.sendHeader_running hr]
    exact (foldl_keeps (A := fun u => (s.headerSent t).SameRound u) (fun u m hu => hu.trans (State.reportSent_sameRound t u m)) _ ⟨rfl, rfl⟩).symm

/-- R25: the headers of a list of trees go out in its order. -/
theorem foldl_sendHeader_out (ts : List Tree) (hts : ts.Nodup) (s : State) :
    (ts.foldl State.sendHeader s).out = s.out ++ (ts.filter fun t => (s.tree t).running).map fun t => (s.tree t).header s.clock.number t := by
  induction ts generalizing s with
  | nil => exact (List.append_nil _).symm
  | cons t ts ih =>
    obtain ⟨hnot, hts⟩ := List.nodup_cons.1 hts
    obtain ⟨hout, hclock⟩ := s.sendHeader_out t
    have htree : ∀ u ∈ ts, (s.sendHeader t).tree u = s.tree u := fun u hu => s.sendHeader_off fun e => hnot (e ▸ hu)
    have hfilter : (ts.filter fun u => ((s.sendHeader t).tree u).running) = ts.filter fun u => (s.tree u).running :=
      List.filter_congr fun u hu => by rw [htree u hu]
    rw [List.foldl_cons, ih hts, hout, hclock, hfilter, List.append_assoc]
    have hmap : ((ts.filter fun u => (s.tree u).running).map fun u => ((s.sendHeader t).tree u).header s.clock.number u) =
        (ts.filter fun u => (s.tree u).running).map fun u => (s.tree u).header s.clock.number u :=
      List.map_congr_left fun u hu => by rw [htree u (List.mem_filter.1 hu).1]
    rw [hmap, List.filter_cons]
    split <;> rfl

theorem State.swapTree_sameRound (s : State) (t : Tree) : s.SameRound (s.swapTree t) := by
  cases hr : (s.tree t).running
  · rw [State.swapTree_stopped hr]; exact ⟨rfl, rfl⟩
  · rw [State.swapTree_running hr]
    exact foldl_keeps (f := State.addSince) (A := fun u => s.SameRound u) (fun u w hu => hu.trans ⟨rfl, rfl⟩) _ ⟨rfl, rfl⟩

theorem State.swapTrees_sameRound (s : State) : s.SameRound s.swapTrees :=
  foldl_keeps (A := fun u => s.SameRound u) (fun u t hu => hu.trans (u.swapTree_sameRound t)) _ ⟨rfl, rfl⟩

/-! ### The queue a header leaves (R27) -/

theorem filter_chosen (q : List CtlMsg) :
    ((chosenMessages q).filter fun m => m.count = 0) = (q.filter fun m => m.count = 0).take (4 - (q.filter fun m => m.count = 1).length) := by
  have hsecond : ((q.filter fun m => decide (m.count = 1)).filter fun m => decide (m.count = 0)) = [] :=
    List.filter_eq_nil_iff.2 fun m hm => by
      have h1 : m.count = 1 := of_decide_eq_true (List.mem_filter.1 hm).2
      simp [h1]
  rw [chosenMessages, List.filter_append, hsecond, List.nil_append]
  exact List.filter_eq_self.2 fun m hm => (List.mem_filter.1 (List.mem_of_mem_take hm)).2

theorem afterHeader_first (q : List CtlMsg) (room : Nat) :
    ((afterHeader room q).filter fun m => m.count = 1).map (fun m => (m.kind, m.tag)) =
      ((q.filter fun m => m.count = 0).take room).map fun m => (m.kind, m.tag) := by
  induction q generalizing room with
  | nil => simp [afterHeader]
  | cons m ms ih =>
    rw [afterHeader.eq_def]
    dsimp only
    by_cases h0 : m.count = 0
    · rw [if_pos h0]
      cases room with
      | zero => simpa [h0] using ih 0
      | succ r => simpa [h0] using ih r
    · rw [if_neg h0]
      simpa [h0] using ih room

theorem afterHeader_waiting (q : List CtlMsg) (room : Nat) :
    ((afterHeader room q).filter fun m => m.count = 0) = (q.filter fun m => m.count = 0).drop room := by
  induction q generalizing room with
  | nil => simp [afterHeader]
  | cons m ms ih =>
    rw [afterHeader.eq_def]
    dsimp only
    by_cases h0 : m.count = 0
    · rw [if_pos h0]
      cases room with
      | zero => simpa [h0] using ih 0
      | succ r => simpa [h0] using ih r
    · rw [if_neg h0]
      simpa [h0] using ih room

theorem TreeLine.headed_queue {x : TreeLine} (h : x.running = true) :
    x.headed.queue = afterHeader (4 - (x.queue.filter fun m => m.count = 1).length) x.queue := by
  rw [TreeLine.headed_running h, TreeLine.dropsReported_frame, TreeLine.sendHeader_settle_frame]
  rfl

theorem TreeLine.headed_active (x : TreeLine) : x.headed.active = x.active := by
  cases h : x.running
  · rw [TreeLine.headed_stopped h]
  · rw [TreeLine.headed_eq h]

/-- Settles O49: the headers go out in tree order from the trees as the swap leaves them, whose queues the swap does not touch. -/
theorem headersSent : Obligations.HeadersSent := by
  intro s
  have hcontrol : ∀ t, (s.begin.ticked.swapTrees.tree t).running = (s.tree t).running ∧ (s.begin.ticked.swapTrees.tree t).queue = (s.tree t).queue := fun t =>
    ⟨(s.begin.swapTrees_control t).1, (s.begin.swapTrees_control t).2.1⟩
  refine ⟨_, exec_roundBoundary s, ?_, fun t hr hfew hcounts => ⟨?_, ?_, ?_, ?_⟩⟩
  · obtain ⟨hclock, hout⟩ := s.begin.ticked.swapTrees_sameRound
    rw [State.sendHeaders, foldl_sendHeader_out _ (by decide), ← State.sendHeaders, hout, hclock]
    simp only [hcontrol]
    refine List.map_congr_left fun t _ => ?_
    rw [State.sendHeaders_tree, TreeLine.headed_active, TreeLine.header, (hcontrol t).2]
    rfl
  · rw [List.countP_eq_length_filter]
    rfl
  · rw [List.countP_eq_length_filter] at hfew
    rw [chosenMessages, List.length_append, List.length_take]
    omega
  · rw [filter_chosen, State.sendHeaders_tree, TreeLine.headed_queue (by rw [(hcontrol t).1]; exact hr), (hcontrol t).2]
    exact afterHeader_first _ _
  · rw [List.countP_eq_length_filter, State.sendHeaders_tree, TreeLine.headed_queue (by rw [(hcontrol t).1]; exact hr), (hcontrol t).2]
    exact afterHeader_waiting _ _

end Sys2Proof.Machine
end

section
/-! SUPPORT. The round clock and the calendar clock: each change of theirs keeps the ranges of R23 and the valid dates and times of R137, and no other
operation touches them. -/

namespace Sys2Proof.Machine

/-! ### Valid moments (R137, R138, R144) -/

theorem Moment.valid_iff (m : Moment) :
    m.valid = true ↔ m.year ≤ 99 ∧ 1 ≤ m.month ∧ m.month ≤ 12 ∧ 1 ≤ m.day ∧ m.day ≤ monthLength m.year m.month ∧ timeValid m.time = true := by
  simp only [Moment.valid, Bool.and_eq_true, decide_eq_true_eq, and_assoc]

theorem timeValid_iff (t : TimeOfDay) : timeValid t = true ↔ t.hh ≤ 23 ∧ t.mm ≤ 59 ∧ t.ss ≤ 59 := by
  simp only [timeValid, Bool.and_eq_true, decide_eq_true_eq, and_assoc]

theorem monthLength_pos (year month : Nat) : 1 ≤ monthLength year month := by
  unfold monthLength
  split
  · split <;> decide
  all_goals decide

/-- R138: the date after a valid one is valid. -/
theorem Moment.nextDate_valid {m : Moment} (h : m.valid = true) : m.nextDate.valid = true := by
  rw [Moment.valid_iff] at h
  obtain ⟨hyear, hlo, hhi, hday, hlen, htime⟩ := h
  rw [Moment.valid_iff, Moment.nextDate]
  split
  · exact ⟨hyear, hlo, hhi, Nat.le_add_left _ _, by assumption, htime⟩
  · split
    · exact ⟨hyear, Nat.le_add_left _ _, by assumption, Nat.le_refl _, monthLength_pos _ _, htime⟩
    · refine ⟨?_, Nat.le_refl _, Nat.le_add_left 1 11, Nat.le_refl _, monthLength_pos _ _, htime⟩
      dsimp only
      split <;> omega

theorem Moment.valid_at {m : Moment} {t : TimeOfDay} (h : m.valid = true) (ht : timeValid t = true) : ({ m with time := t } : Moment).valid = true := by
  rw [Moment.valid_iff] at h ⊢
  obtain ⟨hyear, hlo, hhi, hday, hlen, -⟩ := h
  exact ⟨hyear, hlo, hhi, hday, hlen, ht⟩

theorem timeAdvance_valid {t : TimeOfDay} (h : timeValid t = true) : timeValid (timeAdvance t).1 = true := by
  rw [timeValid_iff] at h
  obtain ⟨hhh, hmm, hss⟩ := h
  unfold timeAdvance
  split
  · exact (timeValid_iff _).2 ⟨hhh, hmm, by assumption⟩
  · split
    · exact (timeValid_iff _).2 ⟨hhh, by assumption, Nat.zero_le _⟩
    · split
      · exact (timeValid_iff _).2 ⟨by assumption, Nat.zero_le _, Nat.zero_le _⟩
      · rfl

/-- R138: the moment one second after a valid one is valid. -/
theorem Moment.advance_valid {m : Moment} (h : m.valid = true) : m.advance.valid = true := by
  have htime : timeValid (timeAdvance m.time).1 = true := timeAdvance_valid ((Moment.valid_iff m).1 h).2.2.2.2.2
  unfold Moment.advance
  split
  · rename_i t e
    rw [e] at htime
    exact Moment.valid_at h htime
  · rename_i t e
    rw [e] at htime
    exact Moment.valid_at (Moment.nextDate_valid h) htime

theorem weekdayAdvance_le {m : Moment} {weekday : Nat} (h : weekday ≤ 6) : weekdayAdvance m weekday ≤ 6 := by
  unfold weekdayAdvance
  split
  · split <;> omega
  · exact h

/-- R144: the close moment after a valid one is valid. -/
theorem closeAfter_valid {m : Moment} {close : TimeOfDay} (h : m.valid = true) (hc : timeValid close = true) : (closeAfter m close).valid = true := by
  unfold closeAfter
  split
  · exact Moment.valid_at h hc
  · exact Moment.valid_at (Moment.nextDate_valid h) hc

/-! ### The calendar clock's operations (R138, R140, R144, R145) -/

namespace Calendar

variable {c : Calendar}

theorem sound.computeClose (h : c.sound) (hset : c.set = true) : c.computeClose.sound := by
  obtain ⟨hnow, hweek, hclose, -, hfired, -⟩ := h
  refine ⟨hnow, hweek, hclose, fun m hm => ?_, hfired, fun e => absurd (hset.symm.trans e) (by decide)⟩
  rw [← Option.some.inj hm]
  exact closeAfter_valid hnow hclose

theorem sound.closeTest (h : c.sound) (hset : c.set = true) : c.closeTest.sound ∧ c.closeTest.set = true := by
  unfold Calendar.closeTest
  split
  · exact ⟨h, hset⟩
  · split
    · refine ⟨sound.computeClose ?_ hset, hset⟩
      obtain ⟨hnow, hweek, hclose, hnext, hfired, -⟩ := h
      refine ⟨hnow, hweek, hclose, hnext, fun m hm => ?_, fun e => absurd (hset.symm.trans e) (by decide)⟩
      obtain hm | hm := List.mem_append.1 hm
      · exact hfired m hm
      · rw [List.mem_singleton.1 hm]
        exact hnow
    · exact ⟨h, hset⟩

/-- R140: the clock set to a valid moment. -/
theorem sound.setTo {m : Moment} {weekday : Nat} (h : c.sound) (hm : m.valid = true) (hw : weekday ≤ 6) :
    ({ c with now := m, weekday := weekday, set := true } : Calendar).sound := by
  obtain ⟨-, -, hclose, hnext, hfired, -⟩ := h
  exact ⟨hm, hw, hclose, hnext, hfired, fun e => Bool.noConfusion e⟩

theorem sound.installTable (h : c.sound) : c.installTable.sound := by
  unfold Calendar.installTable
  split
  · exact h
  · exact h

/-- R138: a second tick. -/
theorem sound.tick (h : c.sound) : c.tick.sound := by
  have hi := h.installTable
  unfold Calendar.tick
  dsimp only
  generalize c.installTable = d at hi
  split
  · rename_i hset
    obtain ⟨hnow, hweek, -⟩ := id hi
    have hmoved : ({ d with now := d.now.advance, weekday := weekdayAdvance d.now d.weekday, set := true } : Calendar).sound :=
      hi.setTo (Moment.advance_valid hnow) (weekdayAdvance_le hweek)
    rw [← hset] at hmoved
    exact (sound.closeTest (c := ({ d with now := d.now.advance, weekday := weekdayAdvance d.now d.weekday } : Calendar).evaluate) hmoved hset).1
  · exact hi

theorem sound.markStep (h : c.sound) (m : Moment) : (c.markStep m).sound := by
  unfold Calendar.markStep
  split
  · exact h
  · exact h

/-- R140: an accepted TIME. -/
theorem sound.apply {m : Moment} {weekday : Nat} (h : c.sound) (hm : m.valid = true) (hw : weekday ≤ 6) : (c.apply m weekday).sound := by
  have hset := sound.setTo (h.markStep m) hm hw
  obtain ⟨htest, hon⟩ := sound.closeTest (c := ({ c.markStep m with now := m, weekday := weekday, set := true } : Calendar).evaluate) hset rfl
  exact htest.computeClose hon

/-- R145: a close taken. -/
theorem sound.closed {m : Moment} {rest : List Moment} (h : c.sound) (hf : c.closesFired = m :: rest) :
    ({ c with closesFired := c.closesFired.tail } : Calendar).computeClose.sound := by
  obtain ⟨hnow, hweek, hclose, hnext, hfired, hunset⟩ := h
  have hset : c.set = true := by
    cases hc : c.set with
    | true => rfl
    | false => rw [(hunset hc).2] at hf; cases hf
  exact sound.computeClose (c := { c with closesFired := c.closesFired.tail })
    ⟨hnow, hweek, hclose, hnext, fun x hx => hfired x (List.mem_of_mem_tail hx), fun e => absurd (hset.symm.trans e) (by decide)⟩ hset

end Calendar

/-! ### The round clock's operation (R23) -/

theorem RoundClock.sound.boundary {c : RoundClock} (h : c.sound) : c.boundary.sound := by
  obtain ⟨hround, hshare, hsecond⟩ := h
  simp only [RoundClock.sound, RoundClock.boundary, Bool.and_eq_true, decide_eq_true_eq]
  refine ⟨?_, ?_, ?_⟩
  · split_ifs <;> omega
  · split_ifs <;> omega
  · split_ifs <;> omega

/-! ### What leaves both clocks alone -/

/-- The round clock and the calendar clock stand as they stood. -/
def State.SameClocks (s s' : State) : Prop := s'.clock = s.clock ∧ s'.cal = s.cal

theorem State.SameClocks.refl (s : State) : s.SameClocks s := ⟨rfl, rfl⟩

theorem State.SameClocks.trans {a b c : State} (h : a.SameClocks b) (k : b.SameClocks c) : a.SameClocks c := ⟨k.1.trans h.1, k.2.trans h.2⟩

theorem State.SameClocks.ite {s a b : State} {P : Prop} [Decidable P] (ha : s.SameClocks a) (hb : s.SameClocks b) :
    s.SameClocks (if P then a else b) := by
  split
  · exact ha
  · exact hb

theorem State.Fixed.sameClocks {s s' : State} (h : s.Fixed s') : s.SameClocks s' := ⟨h.clock, h.cal⟩

theorem State.offerOvercommit_sameClocks (s : State) (c f n : Nat) : s.SameClocks (s.offerOvercommit c f n) := by
  unfold State.offerOvercommit
  dsimp only
  split <;> split <;> exact ⟨rfl, rfl⟩

theorem State.offerHoldFull_sameClocks (s : State) (depth : Nat) (head tail : BitVec 16) : s.SameClocks (s.offerHoldFull depth head tail) := by
  unfold State.offerHoldFull
  dsimp only
  split <;> split <;> exact ⟨rfl, rfl⟩

theorem State.reofferFrame_sameClocks (s : State) (f : HeldFrame) : s.SameClocks (s.reofferFrame f) := by
  cases f with
  | claim h => exact (s.reofferClaim_fixed h).sameClocks
  | share =>
    dsimp only [State.reofferFrame]
    split <;> exact ⟨rfl, rfl⟩
  | overcommit =>
    dsimp only [State.reofferFrame]
    split
    · exact State.SameClocks.trans (b := s.onShare fun x => { x with heldOvercommit := none }) ⟨rfl, rfl⟩ (State.offerOvercommit_sameClocks _ _ _ _)
    · exact .refl s
  | holdFull =>
    dsimp only [State.reofferFrame]
    split
    · exact State.SameClocks.trans (b := s.onMeter fun x => { x with heldFull := none }) ⟨rfl, rfl⟩ (State.offerHoldFull_sameClocks _ _ _ _)
    · exact .refl s

theorem State.computeShare_sameClocks (s : State) (c : Nat) : s.SameClocks (s.computeShare c) := by
  unfold State.computeShare
  dsimp only
  split
  · exact State.SameClocks.trans (b := s.onShare fun x => x.compute c) ⟨rfl, rfl⟩ (State.offerOvercommit_sameClocks _ _ _ _)
  · exact ⟨rfl, rfl⟩

theorem State.shareEnd_sameClocks (s : State) : s.SameClocks s.shareEnd := by
  have hcompute : ∀ (v : State) (f d c : Nat), v.SameClocks ((v.offerShare f d).computeShare c) := fun v f d c =>
    State.SameClocks.trans (b := v.offerShare f d) ⟨rfl, rfl⟩ (State.computeShare_sameClocks _ _)
  unfold State.shareEnd
  dsimp only
  split
  · exact hcompute { s with share := _, demandSum := 0 } _ _ _
  · exact ⟨rfl, rfl⟩

theorem State.downstream_sameClocks (s : State) (home : Nat) (packet : List Byte) : s.SameClocks (s.downstream home packet) := by
  unfold State.downstream
  split
  · dsimp only
    split
    · split <;> exact ⟨rfl, rfl⟩
    · exact ⟨rfl, rfl⟩
  · exact ⟨rfl, rfl⟩

theorem State.enqueue_sameClocks (s : State) (r : Record) : s.SameClocks (s.enqueue r) := by
  have hmeter : ∀ (v : State) (f : Metering → Metering), v.SameClocks (v.onMeter f) := fun _ _ => ⟨rfl, rfl⟩
  exact .ite ((hmeter _ _).trans ((hmeter _ _).trans (State.offerHoldFull_sameClocks _ _ _ _))) (hmeter _ _)

theorem State.walkStep_sameClocks (s : State) : s.SameClocks s.walkStep := by
  have hordinary : ∀ (v : State) (h : HomeIndex), v.SameClocks (v.emitOrdinary h) := fun v h =>
    (v.enqueue_sameClocks _).trans (State.setHome_fixed _ _ _).sameClocks
  have hfinal : ∀ (v : State) (h : HomeIndex), v.SameClocks (v.emitFinal h) := fun v h =>
    (v.enqueue_sameClocks _).trans (State.endClosing_fixed _ _).sameClocks
  unfold State.walkStep
  dsimp only
  split
  · split
    · split
      · exact hordinary { s with emission := _ } _
      · exact hfinal { s with emission := _ } _
    · exact ⟨rfl, rfl⟩
  · exact ⟨rfl, rfl⟩

theorem State.claimSent_sameClocks (s : State) (f : Frame) : s.SameClocks (s.claimSent f) := by
  unfold State.claimSent
  split
  · split <;> exact ⟨rfl, rfl⟩
  all_goals exact .refl s

theorem State.dropped_sameClocks (s : State) (f : Frame) : s.SameClocks (s.dropped f) := by
  unfold State.dropped
  split
  · split
    · exact ((s.onHome_fixed _ _).trans (State.offerClaim_fixed _ _)).sameClocks
    · exact .refl s
  · exact ⟨rfl, rfl⟩
  all_goals exact .refl s

theorem State.hearRelease_sameClocks (s : State) (src : Station) (id : Identity) (r c i : Byte) : s.SameClocks (s.hearRelease src id r c i) := by
  unfold State.hearRelease
  split
  · exact .refl s
  · split
    · exact (s.takeRelease_fixed _ _ _).sameClocks
    · exact (s.queueWalk_fixed _).sameClocks

theorem State.takeShare_sameClocks (s : State) (st : Station) (f d : Nat) : s.SameClocks (s.takeShare st f d) := by
  unfold State.takeShare
  split
  · exact ⟨rfl, rfl⟩
  · split <;> exact ⟨rfl, rfl⟩

theorem State.takeAdmission_sameClocks (s : State) (rx : Rx) (a : Admission) : s.SameClocks (s.takeAdmission rx a).state := by
  unfold State.takeAdmission
  split
  · exact ⟨rfl, rfl⟩
  · split <;> exact ⟨rfl, rfl⟩

theorem State.retire_sameClocks (s : State) (h : HomeIndex) : s.SameClocks (s.retire h).state := by
  unfold State.retire
  split
  case h_2 => exact (s.freeEntry_fixed h).sameClocks
  case h_6 | h_7 | h_8 | h_9 => exact (s.closeEntry_fixed h _ _).sameClocks
  all_goals exact .refl s

theorem State.pardon_sameClocks (s : State) (h : HomeIndex) : s.SameClocks (s.pardon h).state := by
  unfold State.pardon
  split
  case h_9 => exact (s.pardonHome_fixed h).sameClocks
  all_goals exact .refl s

theorem State.setClass_sameClocks (s : State) (h : HomeIndex) (g p : Nat) : s.SameClocks (s.setClass h g p).state := by
  unfold State.setClass
  split
  case h_6 | h_7 | h_8 | h_9 =>
    split
    · exact .refl s
    · exact (s.writeClass_fixed h g p).sameClocks
  all_goals exact .refl s

theorem State.searchRequest_sameClocks (s : State) (t : Tree) : s.SameClocks (s.searchRequest t).state := by
  unfold State.searchRequest
  split
  · exact .refl s
  · split
    · exact .refl s
    · exact (s.startSearch_fixed t _).sameClocks

theorem State.abortRequest_sameClocks (s : State) (t : Tree) : s.SameClocks (s.abortRequest t).state := by
  unfold State.abortRequest
  dsimp only
  split
  · exact .refl s
  · exact (s.endSearch_fixed t _ _).sameClocks

theorem State.stopRequest_sameClocks (s : State) (t : Tree) : s.SameClocks (s.stopRequest t).state := by
  unfold State.stopRequest
  split
  · exact (s.stopTree_fixed t).sameClocks
  · exact .refl s

theorem State.startRequest_sameClocks (s : State) (t : Tree) : s.SameClocks (s.startRequest t).state := by
  unfold State.startRequest
  split
  · exact .refl s
  · split
    · exact .refl s
    · rw [State.accept_state]
      exact (s.startTree_fixed _ t).sameClocks

theorem State.queryHome_sameClocks (s : State) (h : HomeIndex) : s.SameClocks (s.queryHome h).state := by
  unfold State.queryHome
  split <;> exact .refl s

theorem State.releaseRecord_sameClocks (s : State) (number : BitVec 16) : s.SameClocks (s.releaseRecord number).state := by
  have hdrop : s.SameClocks s.dropHead := by
    unfold State.dropHead
    dsimp only
    split <;> exact ⟨rfl, rfl⟩
  unfold State.releaseRecord
  split
  · exact .refl s
  · split
    · exact hdrop
    · exact .refl s

theorem State.find_sameClocks (s : State) (rx : Rx) (num : BitVec 16) (args : List Byte) : s.SameClocks (s.find rx num args) := by
  unfold State.find
  split
  · exact (s.conclude_fixed rx num 15 (s.refuse .range)).sameClocks
  · rename_i id start count _
    have hq := (s.queueWalk_fixed ⟨.find rx.src num, id, start, count⟩).sameClocks
    split
    · rename_i s' e
      rw [e] at hq
      exact hq
    · rename_i s' e
      rw [e] at hq
      exact hq.trans (s'.conclude_fixed rx num 15 (s'.refuse .busy)).sameClocks

theorem State.collect_sameClocks (s : State) (rx : Rx) (num : BitVec 16) : s.SameClocks (s.collect rx num) := by
  unfold State.collect
  split
  · exact (s.conclude_fixed rx num 18 (s.refuse .empty)).sameClocks
  · exact (s.respondTwo_fixed _ _ _ _ _).sameClocks

theorem State.unknownKind_sameClocks (s : State) (rx : Rx) (payload : List Byte) : s.SameClocks (s.unknownKind rx payload) := by
  unfold State.unknownKind
  split
  · exact (s.conclude_fixed rx _ _ (s.refuse .range)).sameClocks
  · split
    · exact (s.conclude_fixed rx _ _ (s.refuse .notReady)).sameClocks
    · exact .refl s

/-! ### What moves a clock within its ranges -/

/-- Both clocks are sound after what they were sound before. -/
def State.ClockSteps (s s' : State) : Prop := (s.clock.sound → s'.clock.sound) ∧ (s.cal.sound → s'.cal.sound)

theorem State.ClockSteps.refl (s : State) : s.ClockSteps s := ⟨id, id⟩

theorem State.ClockSteps.trans {a b c : State} (h : a.ClockSteps b) (k : b.ClockSteps c) : a.ClockSteps c := ⟨k.1 ∘ h.1, k.2 ∘ h.2⟩

theorem State.ClockSteps.ite {s a b : State} {P : Prop} [Decidable P] (ha : s.ClockSteps a) (hb : s.ClockSteps b) :
    s.ClockSteps (if P then a else b) := by
  split
  · exact ha
  · exact hb

theorem State.SameClocks.steps {s s' : State} (h : s.SameClocks s') : s.ClockSteps s' := by
  obtain ⟨hclock, hcal⟩ := h
  rw [State.ClockSteps, hclock, hcal]
  exact ⟨id, id⟩

theorem State.Fixed.steps {s s' : State} (h : s.Fixed s') : s.ClockSteps s' := h.sameClocks.steps

/-- R23: the round boundary moves the round clock alone. -/
theorem State.roundBoundary_steps (s : State) : s.ClockSteps s.roundBoundary := by
  refine State.ClockSteps.trans (b := s.onClock RoundClock.boundary) ⟨RoundClock.sound.boundary, id⟩ (State.Fixed.steps ?_)
  exact (State.mapHomes_fixed _ _).trans ((State.Fixed.foldl (fun s t => s.swapTree_fixed t) _ _).trans
    (State.Fixed.foldl (fun s t => s.sendHeader_fixed t) _ _))

theorem State.mapPoint_steps (s : State) : s.ClockSteps s.mapPoint := by
  unfold State.mapPoint
  dsimp only
  split
  · exact ⟨id, id⟩
  · exact State.ClockSteps.trans (b := { s with eUsed := s.share.e, clock := { s.clock with mapPassed := true } }) ⟨id, id⟩
      (State.Fixed.foldl (fun v (b : Tree × Stage1) => (v.onTree_fixed b.1 _).trans (State.mapHomes_fixed _ _)) _ _).steps

/-- R144, R145: a close taken computes the next. -/
theorem State.periodClose_steps {s : State} {m : Moment} {rest : List Moment} (hf : s.cal.closesFired = m :: rest) : s.ClockSteps (s.periodClose m) := by
  have hw : s.SameClocks ((State.onMeter (s.mapHomes fun _ x => x.atClose m) fun x =>
      { x with skippedSwaps := satAdd 65535 x.skippedSwaps (homeIndexes.countP fun h => (s.home h).swapSkipped) }).wakeWalk) :=
    State.SameClocks.trans ⟨rfl, rfl⟩ (State.wakeWalk_fixed _).sameClocks
  exact hw.steps.trans ⟨id, fun h => h.closed (by rw [hw.2]; exact hf)⟩

/-- R138: a second tick moves the calendar clock alone. -/
theorem State.onCal_tick_steps (s : State) : s.ClockSteps (s.onCal Calendar.tick) := ⟨id, Calendar.sound.tick⟩

/-- R140: an accepted TIME sets the calendar clock to a valid moment and restarts the second phase. -/
theorem State.applyTime_steps (s : State) {m : Moment} {weekday : Nat} (hm : m.valid = true) (hw : weekday ≤ 6) : s.ClockSteps (s.applyTime m weekday) := by
  have hmark : s.SameClocks (if s.cal.isStep m then s.mapHomes fun _ x => x.markStep else s) := .ite ⟨rfl, rfl⟩ (.refl s)
  exact hmark.steps.trans ⟨fun h => ⟨h.1, h.2.1, Nat.zero_le _⟩, fun h => h.apply hm hw⟩

theorem timeArgs_valid {args : List Byte} {m : Moment} {weekday : Nat} (h : timeArgs args = some (m, weekday)) : m.valid = true ∧ weekday ≤ 6 := by
  unfold timeArgs at h
  dsimp only at h
  split at h
  · cases h
  · split at h
    · rename_i hv
      cases h
      exact hv
    · cases h

theorem configArgs_close {args : List Byte} {mgt : Station} {c : Config} (h : configArgs args mgt = some c) : timeValid c.close = true := by
  unfold configArgs at h
  dsimp only at h
  split at h
  · cases h
  · split at h
    · rename_i hv
      cases h
      simp only [configInRange, Bool.and_eq_true] at hv
      exact hv.2
    · cases h

/-- R137: an accepted CONFIGURE sets the close time. -/
theorem State.applyConfig_steps (s : State) {c : Config} (hc : timeValid c.close = true) : s.ClockSteps (s.applyConfig c) :=
  State.ClockSteps.trans (b := { s with config := some c, share := s.share.purge c.ranks, cal := { s.cal with closeTime := c.close } })
    ⟨id, fun ⟨hnow, hweek, _, hnext, hfired, hunset⟩ => ⟨hnow, hweek, hc, hnext, hfired, hunset⟩⟩
    (State.Fixed.foldl (fun v t => v.onTree_fixed t _) _ _).steps

theorem State.configure_steps (s : State) (rx : Rx) (args : List Byte) : s.ClockSteps (s.configure rx args).state := by
  unfold State.configure State.ranged
  split
  · exact .refl s
  · split
    · exact .refl s
    · rename_i c hc
      split
      · exact .refl s
      · exact s.applyConfig_steps (configArgs_close hc)

/-! ### Frames received and requests -/

section Heard

variable {s : State} {rx : Rx}

theorem State.ClockSteps.received {f : State → State} (hf : ∀ v : State, v.ClockSteps (f v)) : s.ClockSteps (s.receive rx f) := by
  unfold State.receive
  split
  · exact s.countReceived_fixed.steps.trans (hf _)
  · exact .refl s

theorem State.ClockSteps.receivedPeer {f : State → State} (hf : ∀ v : State, v.ClockSteps (f v)) : s.ClockSteps (s.receivePeer rx f) := by
  refine State.ClockSteps.received fun v => ?_
  split
  · exact .refl v
  · split
    · exact hf v
    · exact (v.onLink_fixed _).steps

theorem State.ClockSteps.requested {num : BitVec 16} {kind : Byte} {top : Nat} {b : Bool} {act : State → State}
    (ha : ∀ v : State, v.ClockSteps (act v)) : s.ClockSteps (s.request rx num kind top b act) := by
  refine State.ClockSteps.received fun v => ?_
  have hrefuse : ∀ st : Status, v.ClockSteps (v.conclude rx num kind (v.refuse st)) := fun st => (v.conclude_fixed rx num kind (v.refuse st)).steps
  split
  · split
    · exact hrefuse _
    · exact .refl v
  · split
    · exact .refl v
    · split
      · exact hrefuse _
      · exact ha v

/-- A request answered by its owning block moves the clocks as the block does. -/
theorem State.ClockSteps.ranged {α : Type} {num : BitVec 16} {kind : Byte} {top : Nat} {b : Bool} {read : Option α} {f : State → α → Answer}
    (hf : ∀ (v : State) (a : α), read = some a → v.ClockSteps (f v a).state) :
    s.ClockSteps (s.request rx num kind top b (State.answer rx num kind fun v => v.ranged read (f v))) := by
  refine State.ClockSteps.requested fun v => State.ClockSteps.trans ?_ (v.conclude_fixed rx num kind _).steps
  cases hr : read with
  | none => exact .refl v
  | some a => exact hf v a hr

end Heard

/-! ### Every command -/

/-- The commands that move a clock move it within its ranges, and the others leave both clocks alone. -/
theorem exec_clockSteps {c : Instr} {s s' : State} (hc : ∀ stn mgt, c ≠ .pinReset stn mgt) (hx : exec c s = .next s') : s.ClockSteps s' := by
  have does : ∀ {f : State → State}, s.does f = .next s' → (∀ v : State, v.ClockSteps (f v)) → s.ClockSteps s' := fun hd hf => by
    rw [State.does_next] at hd
    exact hd ▸ s.begin_fixed.steps.trans (hf _)
  cases c
  case pinReset stn mgt => exact absurd rfl (hc stn mgt)
  all_goals dsimp only [Machine.exec, execRoundBoundary, execControlMessageReoffer, execHeldFrameReoffer, execSoakEnd, execClaimHoldExpiry, execProbeSettled, execEpochEnd,
    execLaserOffRefresh, execSharePeriodEnd, execSecondTick, execLostTimeout, execPeriodClose, execForwardRetentionExpiry, execMapPoint,
    execBurstReceived, execZoneReceived, execQuietWindowMeasured, execDownstreamPacket, execCaptureCheckComplete, execClaimCheckComplete,
    execReleaseCheckComplete, execFindWalkComplete, execEmissionWalk, execIdleGapElapsed, execFrameSent, execLinkCollision, execJamEnd,
    execBackoffEnd, execBadFrame, execClaim, execObject, execRelease, execShare, execEvent, execResponse, execConfigure, execTime,
    execTariff, execAdmit, execWithdraw, execUnbar, execRetire, execPardon, execSetClass, execSearch, execAbortSearch, execStopTree,
    execStartTree, execQueryHome, execFind, execReadLists, execQueryStation, execCollect, execReleaseRecord, execUnknownClass,
    execUnknownRequestKind] at hx
  case roundBoundary => exact does hx State.roundBoundary_steps
  case mapPoint =>
    refine does hx fun v => ?_
    split
    · exact .refl v
    · exact v.mapPoint_steps
  case secondTick =>
    refine does hx fun v => ?_
    split
    · exact State.ClockSteps.trans ⟨id, id⟩ (State.onCal_tick_steps _)
    · exact .refl v
  case periodClose =>
    refine does hx fun v => ?_
    split
    · rename_i hf
      exact State.periodClose_steps hf
    · exact .refl v
  case time rx num args =>
    refine does hx fun v => State.ClockSteps.ranged fun v a ha => ?_
    obtain ⟨hm, hw⟩ := timeArgs_valid ha
    exact v.applyTime_steps hm hw
  case configure rx num args =>
    exact does hx fun v => State.ClockSteps.received fun v => (v.configure_steps rx args).trans (v.conclude_fixed _ _ _ _).steps
  case controlMessageReoffer t place => exact does hx fun v => (v.reoffer_fixed t place).steps
  case heldFrameReoffer f => exact does hx fun v => (v.reofferFrame_sameClocks f).steps
  case sharePeriodEnd => exact does hx fun v => .ite (State.ClockSteps.trans (b := v.onClock fun c => { c with shareDue := false }) ⟨id, id⟩ (State.shareEnd_sameClocks _).steps) (.refl v)
  case epochEnd => exact does hx fun v => .ite ⟨id, id⟩ (.refl v)
  case soakEnd h => exact does hx fun v => .ite (v.onHome_fixed h _).steps (.refl v)
  case probeSettled t => exact does hx fun v => .ite (v.onSearch_fixed t _).steps (.refl v)
  case forwardRetentionExpiry h => exact does hx fun v => .ite (v.freeEntry_fixed h).steps (.refl v)
  case claimHoldExpiry h =>
    refine does hx fun v => ?_
    split
    · exact .ite (v.succeedClaim_fixed h none).steps (.refl v)
    · exact .refl v
  case laserOffRefresh h =>
    refine does hx fun v => .ite ?_ (.refl v)
    have hset : ∀ x, v.ClockSteps (v.setHome h x) := fun x => (v.setHome_fixed h x).steps
    split
    · exact .ite (hset _) ((hset _).trans (State.offerCtl_fixed _ _ _).steps)
    · exact hset _
  case lostTimeout h =>
    refine does hx fun v => ?_
    split
    · exact .ite (v.closeEntry_fixed h _ _).steps (.refl v)
    · exact .refl v
  case burstReceived t b =>
    refine does hx fun v => ?_
    split
    · exact (v.burst_fixed _ t b).steps
    · exact .refl v
  case quietWindowMeasured t level =>
    refine does hx fun v => ?_
    split
    · exact (v.quietWindow_fixed _ t level).steps
    · exact .refl v
  case zoneReceived t z => exact does hx fun v => (v.zone_fixed t z).steps
  case downstreamPacket home packet => exact does hx fun v => (v.downstream_sameClocks home packet).steps
  case captureCheckComplete =>
    refine does hx fun v => ?_
    split
    · exact (v.endWalk_fixed.trans (State.actCapture_fixed _ _ _)).steps
    · exact .refl v
  case claimCheckComplete =>
    refine does hx fun v => ?_
    split
    · exact (v.endWalk_fixed.trans (State.actClaim_fixed _ _ _ _)).steps
    · exact .refl v
  case releaseCheckComplete =>
    refine does hx fun v => ?_
    split
    · exact (v.endWalk_fixed.trans (State.actRelease_fixed _ _ _)).steps
    · exact .refl v
  case findWalkComplete r =>
    refine does hx fun v => ?_
    split
    · split <;> exact ⟨id, id⟩
    · exact .refl v
  case emissionWalk =>
    refine does hx fun v => ?_
    split
    · exact v.walkStep_sameClocks.steps
    · exact .refl v
  case idleGapElapsed | linkCollision =>
    refine does hx fun v => ?_
    split
    · exact ⟨id, id⟩
    all_goals exact .refl v
  case frameSent =>
    refine does hx fun v => ?_
    split
    · exact (((v.onLink_fixed _).trans (State.emit_fixed _ _)).sameClocks.trans (State.claimSent_sameClocks _ _)).steps
    · exact .refl v
  case jamEnd =>
    refine does hx fun v => ?_
    split
    · exact (v.onLink_fixed _).steps.trans
        (.ite ((State.onLink_fixed _ _).sameClocks.trans (State.dropped_sameClocks _ _)).steps (State.onLink_fixed _ _).steps)
    · exact .refl v
  case backoffEnd | badFrame bytes | unknownClass rx cls payload =>
    refine does hx fun v => ?_
    split
    · exact (v.onLink_fixed _).steps
    · exact .refl v
  case claim rx payload =>
    refine does hx fun _ => State.ClockSteps.receivedPeer fun v => ?_
    split
    · exact (v.hearClaim_fixed _ _ _).steps
    · exact .refl v
  case object rx payload =>
    refine does hx fun _ => State.ClockSteps.receivedPeer fun v => ?_
    split
    · split
      · exact (v.takeObject_fixed _ _ _ _).steps
      · exact v.unmatched_fixed.steps
    · exact .refl v
  case release rx payload =>
    refine does hx fun _ => State.ClockSteps.receivedPeer fun v => ?_
    split
    · exact (v.hearRelease_sameClocks _ _ _ _ _).steps
    · exact .refl v
  case share rx payload =>
    refine does hx fun _ => State.ClockSteps.received fun v => ?_
    split
    · exact (v.takeShare_sameClocks _ _ _).steps
    · exact .refl v
  case event rx payload | response rx payload => exact does hx fun _ => State.ClockSteps.received .refl
  case tariff rx num args => exact does hx fun _ => State.ClockSteps.ranged fun _ _ _ => ⟨id, id⟩
  case admitHome rx num args => exact does hx fun _ => State.ClockSteps.ranged fun v a _ => (v.takeAdmission_sameClocks rx a).steps
  case withdraw rx num args | unbar rx num args =>
    refine does hx fun _ => State.ClockSteps.ranged fun v a _ => ?_
    split
    · exact (v.onEnrol_fixed _).steps
    · exact .refl v
  case retire rx num args => exact does hx fun _ => State.ClockSteps.ranged fun v h _ => (v.retire_sameClocks h).steps
  case pardon rx num args => exact does hx fun _ => State.ClockSteps.ranged fun v h _ => (v.pardon_sameClocks h).steps
  case setClass rx num args => exact does hx fun _ => State.ClockSteps.ranged fun v a _ => (v.setClass_sameClocks _ _ _).steps
  case search rx num args => exact does hx fun _ => State.ClockSteps.ranged fun v t _ => (v.searchRequest_sameClocks t).steps
  case abortSearch rx num args => exact does hx fun _ => State.ClockSteps.ranged fun v t _ => (v.abortRequest_sameClocks t).steps
  case stopTree rx num args => exact does hx fun _ => State.ClockSteps.ranged fun v t _ => (v.stopRequest_sameClocks t).steps
  case startTree rx num args => exact does hx fun _ => State.ClockSteps.ranged fun v t _ => (v.startRequest_sameClocks t).steps
  case queryHome rx num args => exact does hx fun _ => State.ClockSteps.ranged fun v h _ => (v.queryHome_sameClocks h).steps
  case readLists rx num args => exact does hx fun _ => State.ClockSteps.ranged fun v _ _ => .refl v
  case queryStation rx num args =>
    refine does hx fun _ => State.ClockSteps.ranged fun v a _ => ?_
    split <;> exact .refl v
  case releaseRecord rx num args => exact does hx fun _ => State.ClockSteps.ranged fun v n _ => (v.releaseRecord_sameClocks n).steps
  case find rx num args => exact does hx fun _ => State.ClockSteps.requested fun v => (v.find_sameClocks rx num args).steps
  case collect rx num args => exact does hx fun _ => State.ClockSteps.requested fun v => (v.collect_sameClocks rx num).steps
  case unknownRequestKind rx payload =>
    exact does hx fun v => .ite (State.ClockSteps.received fun v => (v.unknownKind_sameClocks rx payload).steps) (.refl v)

/-- What holds after a reset and passes along with the clocks' soundness every step keeps. -/
theorem KeptByEveryStep.of_clockSteps {inv : State → Prop} (hq : ∀ s q, inv s → inv { s with pending := q })
    (hreset : ∀ (stn mgt : Station) (q : List Instr), inv { State.afterReset stn mgt with pending := q })
    (hsteps : ∀ s s' : State, s.ClockSteps s' → inv s → inv s') : KeptByEveryStep inv := by
  refine KeptByEveryStep.of_exec hq fun c s s' hs hx => ?_
  by_cases hc : ∃ stn mgt, c = .pinReset stn mgt
  · obtain ⟨stn, mgt, rfl⟩ := hc
    simp only [Machine.exec, execPinReset, Host.Outcome.next.injEq] at hx
    exact hx ▸ hreset stn mgt _
  · exact hsteps s s' (exec_clockSteps (fun stn mgt e => hc ⟨stn, mgt, e⟩) hx) hs

/-- Settles O6: after a reset both clocks are sound, and every other command moves them within their ranges. -/
theorem clocksKept : Obligations.ClocksKept :=
  ⟨KeptByEveryStep.of_clockSteps (fun _ _ hs => hs) (fun stn mgt _ => RoundClock.sound_afterReset stn mgt) fun _ _ h => h.1,
    KeptByEveryStep.of_clockSteps (fun _ _ hs => hs) (fun stn mgt _ => Calendar.sound_afterReset stn mgt) fun _ _ h => h.2⟩

end Sys2Proof.Machine
end

section
/-! SUPPORT. Frames of the claim protocol on the link: how a peer frame reaches the Enrollment Engine (R171), what an urgent frame finds in the transmit queue (R168),
and the lists that a claim changes (R52, R59). -/

namespace Sys2Proof.Machine

/-! ### Frames heard and frames offered -/

/-- R171: a peer frame of rank 0 to 2 reaches its block after it has been counted. -/
theorem State.receivePeer_heard {s : State} {rx : Rx} {c : Config} (f : State → State) (hc : s.config = some c) (hh : s.hears rx = true)
    (hr : (c.ranks[rx.src]).val ≤ 2) : s.begin.receivePeer rx f = f s.heard :=
  State.receivePeer_ranked (s := s.begin) f hc hh hr

theorem Link.roomFor_urgent (l : Link) : l.roomFor true = decide (l.total < 12) := by simp [Link.roomFor]

/-- R168: an urgent frame that finds room joins the queue. -/
theorem State.offerUrgent_room {s : State} (dest : Byte) (x : Content) (hl : s.link.total < 12) :
    s.offerUrgent dest x = { s with link := s.link.take ⟨dest, x, false⟩ } :=
  congrArg (fun l => { s with link := l }) (if_pos (by rw [Link.roomFor_urgent]; exact decide_eq_true hl))

/-- R168: an urgent frame other than an event that finds no room is dropped and counted. -/
theorem State.offerUrgent_full {s : State} (dest : Byte) {x : Content} (hx : x.isEvent = false) (hl : 12 ≤ s.link.total) :
    s.offerUrgent dest x = { s with link := { s.link with urgentDrops := min 65535 (s.link.urgentDrops + 1) } } := by
  have hr : s.link.roomFor true = false := by rw [Link.roomFor_urgent]; exact decide_eq_false (Nat.not_lt.2 hl)
  simp only [State.offerUrgent, State.onLink, Link.offerUrgent, hr, hx, Bool.false_eq_true, if_false, bump_eq]

/-- R168, R175: an urgent event that finds no room is dropped, and counted as an urgent frame and as an event. -/
theorem State.event_full {s : State} (e : EventKind) (hl : 12 ≤ s.link.total) :
    s.event e = { s with link := { s.link with urgentDrops := min 65535 (s.link.urgentDrops + 1)
                                               eventsDropped := min 65535 (s.link.eventsDropped + 1) } } := by
  have hr : s.link.roomFor true = false := by rw [Link.roomFor_urgent]; exact decide_eq_false (Nat.not_lt.2 hl)
  simp only [State.event, State.offerUrgent, State.onLink, Link.offerUrgent, hr, Bool.false_eq_true, if_false]
  rfl

/-! ### The lists -/

theorem Enrollment.forget_eq (e : Enrollment) (id : Identity) :
    e.forget id = { e with admission := e.admission.filter fun a => a.identity ≠ id } := by
  simp only [Enrollment.forget, ne_eq, decide_not]

/-- R52: the barred list without the identity, its oldest gone when 8 are left, and the identity as newest. -/
theorem Enrollment.bar_eq (e : Enrollment) (id : Identity) :
    e.bar id =
      { e with barred :=
          (if 8 ≤ (e.barred.filter fun i => i ≠ id).length then (e.barred.filter fun i => i ≠ id).tail
            else e.barred.filter fun i => i ≠ id) ++ [id] } := by
  simp only [Enrollment.bar, ne_eq, decide_not]

/-! ### A CLAIM heard (R59) -/

theorem State.queueWalk_room {s : State} (r : WalkRequest) (hw : s.walks.length < 6) : s.queueWalk r = ({ s with walks := s.walks ++ [r] }, true) :=
  if_pos hw

theorem State.queueWalk_full {s : State} (r : WalkRequest) (hw : 6 ≤ s.walks.length) : s.queueWalk r = (s, false) := if_neg (Nat.not_lt.2 hw)

/-- R59, R20: with room in the search queue a claim check joins it. -/
theorem State.hearClaim_queued {s : State} (claimant : Station) (id : Identity) (index : Byte) (hw : s.walks.length < 6) :
    s.hearClaim claimant id index =
      { s with enrol := s.enrol.forget id, walks := s.walks ++ [⟨.claim claimant index, id, 0, 128⟩] } := by
  rw [State.hearClaim, State.queueWalk_room _ (by exact hw)]
  rfl

/-- R59: with 6 walks waiting the claimant is sent an OBJECT WAIT. -/
theorem State.hearClaim_full {s : State} (claimant : Station) (id : Identity) (index : Byte) (hw : 6 ≤ s.walks.length) :
    s.hearClaim claimant id index =
      (s.onEnrol fun e => e.forget id).offerUrgent (toStation claimant) (.object id index .wait) := by
  rw [State.hearClaim, State.queueWalk_full _ (by exact hw)]
  rfl

/-- Settles O41: the CLAIM reaches the Enrollment Engine by its rank, and the search queue and the transmit queue say what becomes of it. -/
theorem claimHeard : Obligations.ClaimHeard := by
  intro s c rx p id index hc hh hp
  have heard : (c.ranks[rx.src]).val ≤ 2 → exec (.claim rx p) s = .next (s.heard.hearClaim rx.src id index) := fun hr => by
    refine congrArg Host.Outcome.next ((State.receivePeer_heard _ hc hh hr).trans ?_)
    simp only [hp]
  refine ⟨fun hr hw => ?_, fun hr hw hl => ?_, fun hr hw hl => ?_, fun hr => ?_⟩
  · rw [heard hr, State.hearClaim_queued _ _ _ (by exact hw), Enrollment.forget_eq]
    rfl
  · rw [heard hr, State.hearClaim_full _ _ _ (by exact hw), State.offerUrgent_room _ _ (by exact hl)]
    simp only [State.onEnrol, Enrollment.forget_eq]
    rfl
  · rw [heard hr, State.hearClaim_full _ _ _ (by exact hw), State.offerUrgent_full _ rfl (by exact hl)]
    simp only [State.onEnrol, Enrollment.forget_eq]
    rfl
  · exact congrArg Host.Outcome.next (State.receivePeer_ordinary (s := s.begin) _ hc hh hr)

end Sys2Proof.Machine
end

section
/-! SUPPORT. A claim that stands (R4, R6, R19, R56): its entry takes the lowest free tag, a TAG-ASSIGN is queued, and its CLAIM is withdrawn. -/

namespace Sys2Proof.Machine

/-! ### The CLAIM withdrawn (R55, R169) -/

theorem Link.mem_choose_waiting {l : Link} {f : Frame} (h : f ∈ l.choose.waiting) : f ∈ l.waiting := by
  unfold Link.choose at h
  split at h
  case h_1 g rest _ hw => rw [hw]; exact List.mem_cons_of_mem g h
  case h_2 => exact h

theorem Link.mem_take_waiting {l : Link} {f g : Frame} (h : g ∈ (l.take f).waiting) : g = f ∨ g ∈ l.waiting :=
  (insertFrame_mem f g l.waiting).1 (Link.mem_choose_waiting h)

/-- R55: no frame that waits is the CLAIM of the entry any more. -/
theorem Link.withdrawClaim_waiting {l : Link} {h : HomeIndex} {f : Frame} (hf : f ∈ (l.withdrawClaim h).waiting) : f.claims h = false := by
  have filtered : f ∈ l.waiting.filter (fun g => !g.claims h) → f.claims h = false := fun hm => by simpa using (List.mem_filter.1 hm).2
  unfold Link.withdrawClaim at hf
  dsimp only at hf
  split at hf
  · split at hf
    · split at hf
      · exact filtered hf
      · exact filtered (Link.mem_choose_waiting hf)
    · exact filtered hf
  · exact filtered hf

/-! ### What a frame of the claim protocol names (R56 to R58) -/

theorem stationOf_eq {b : Byte} {st : Station} (h : b.toNat = st.val) : stationOf b = some st := by
  have hlt : b.toNat < 16 := h ▸ st.isLt
  rw [stationOf, dif_pos hlt]
  exact congrArg some (Fin.ext h)

theorem claimedIndex_eq {b : Byte} {h : HomeIndex} (hb : b.toNat = h.val) : claimedIndex b = some h := by
  have hlt : b.toNat < 128 := hb ▸ h.isLt
  rw [claimedIndex, dif_pos hlt]
  exact congrArg some (Fin.ext hb)

/-- R57: a frame whose claim index names an entry with its identity is about that entry. -/
theorem State.claimedEntry_eq {s : State} {b : Byte} {h : HomeIndex} {id : Identity} (hb : b.toNat = h.val) (hs : (s.home h).state ≠ .free)
    (hid : (s.home h).identity = some id) : s.claimedEntry b id = some h := by
  simp [State.claimedEntry, claimedIndex_eq hb, hs, hid]

/-- R58: a frame that names no entry with its identity is about none. -/
theorem State.claimedEntry_none {s : State} {b : Byte} {id : Identity}
    (hn : ∀ i : HomeIndex, b.toNat = i.val → (s.home i).state = .free ∨ (s.home i).identity ≠ some id) : s.claimedEntry b id = none := by
  refine Option.filter_eq_none_iff.2 fun i hi hp => ?_
  have hb : b.toNat = i.val := by
    rw [claimedIndex] at hi
    split at hi
    · exact congrArg Fin.val (Option.some.inj hi)
    · cases hi
  simp only [Bool.and_eq_true, decide_eq_true_eq] at hp
  exact (hn i hb).elim hp.1 fun h => h hp.2

/-- A RELEASE for this station reaches the Enrollment Engine with its releaser (R56, R58). -/
theorem exec_release_taken {s : State} {c : Config} {rx : Rx} {p : List Byte} {id : Identity} {rb cb ib : Byte} {releaser : Station}
    (hc : s.config = some c) (hh : s.hears rx = true) (hr : (c.ranks[rx.src]).val ≤ 2) (hp : releaseFields p = some (id, rb, cb, ib))
    (hrb : rb.toNat = releaser.val) (hcb : cb.toNat = s.own.val) : exec (.release rx p) s = .next (s.heard.takeRelease releaser id ib) := by
  refine congrArg Host.Outcome.next ((State.receivePeer_heard _ hc hh hr).trans ?_)
  simp only [hp, State.hearRelease, stationOf_eq hrb, stationOf_eq hcb]
  exact if_pos rfl

/-! ### The claim stands (R56) -/

/-- R26, R28: a TAG-ASSIGN joins the tail of the queue, or is kept while the queue has no room. -/
theorem TreeLine.offer_tagAssign (x : TreeLine) (id : Identity) (tag : Nat) :
    x.offer (.new (.tagAssign id) tag) =
      { x with queue := x.queue ++ (if x.queue.length < 16 then [⟨.tagAssign id, tag, 0, false⟩] else [])
               held := x.held ++ (if x.queue.length < 16 then [] else [⟨.tagAssign id, tag, 0, false⟩]) } := by
  by_cases hr : x.queue.length < 16
  · rw [TreeLine.offer_routine _ _ (fun n src e => by cases e) rfl hr]
    simp only [hr, if_true, List.append_nil, CtlMsg.new]
  · have hkept : x.offer (.new (.tagAssign id) tag) = x.keep (.new (.tagAssign id) tag) := if_neg hr
    rw [hkept]
    simp only [hr, if_false, List.append_nil]
    rfl

/-- The tree of a claim that stands: the tag is the entry's, and its TAG-ASSIGN is queued or kept (R6, R28, R56). -/
def TreeLine.assigned (x : TreeLine) (tag : Nat) (h : HomeIndex) (id : Identity) : TreeLine :=
  (x.setPlace tag (.held h)).offer (.new (.tagAssign id) tag)

theorem TreeLine.assigned_eq (x : TreeLine) (tag : Nat) (h : HomeIndex) (id : Identity) :
    x.assigned tag h id =
      { x with
        tags := (x.setPlace tag (.held h)).tags
        queue := x.queue ++ (if x.queue.length < 16 then [⟨.tagAssign id, tag, 0, false⟩] else [])
        held := x.held ++ (if x.queue.length < 16 then [] else [⟨.tagAssign id, tag, 0, false⟩]) } := by
  rw [TreeLine.assigned, TreeLine.offer_tagAssign, TreeLine.setPlace_frame]

theorem TreeLine.assigned_place {x : TreeLine} {tag : Nat} (h : HomeIndex) (id : Identity) (hf : x.place tag = some .free) (k : Nat) :
    (x.assigned tag h id).place k = if k = tag then some (.held h) else x.place k := by
  rw [TreeLine.assigned_eq]
  refine (x.setPlace_place tag k (.held h)).trans ?_
  split
  · rename_i e; rw [e, hf]; rfl
  · rfl

/-- R4, R6, R56: a claim that finds its tree a free tag stands. -/
theorem State.succeedClaim_eq {s : State} {h : HomeIndex} {t : Tree} {id : Identity} {tag : Nat} (m : Option Station) (ht : (s.home h).tree = some t)
    (hid : (s.home h).identity = some id) (hfree : (s.tree t).lowestFree = some tag) :
    s.succeedClaim h m =
      { s with
        homes := s.homes.set h ((s.home h).tagged tag m s.cal.reading)
        trees := s.trees.set t.idx ((s.tree t).assigned tag h id)
        enrol := s.enrol.forget id
        link := s.link.withdrawClaim h } := by
  unfold State.succeedClaim
  dsimp only
  split
  case h_1 t' id' ht' hid' =>
    obtain rfl : t = t' := Option.some.inj (ht.symm.trans ht')
    obtain rfl : id = id' := Option.some.inj (hid.symm.trans hid')
    simp only [hfree, State.giveTag, State.offerCtl, State.onTree_onTree]
    rfl
  case h_2 hn => exact (hn t id ht hid).elim

/-- The record of a claim that stands: MEASURING in ANNOUNCING with its tag, its banks but for the open one's period start as they were (R4, R56). -/
theorem Home.tagged_eq (x : Home) (tag : Nat) (m : Option Station) (start : Option Moment) :
    x.tagged tag m start =
      { x with
        state := .measuring, phase := some .announcing, tag := some tag, claim := none, movedFrom := m, attempts := 0, samples := []
        report := 0, since := 0, missed := 0, deferred := false, soak := 0, lostTimer := 0, refresh := none, refreshDue := false
        bankA := (x.tagged tag m start).bankA, bankB := (x.tagged tag m start).bankB } :=
  Home.onOpen_frame _ _

theorem Home.tagged_banks (x : Home) (tag : Nat) (m : Option Station) (start : Option Moment) :
    (x.tagged tag m start).openBank = { x.openBank with periodStart := start } ∧ (x.tagged tag m start).otherBank = x.otherBank :=
  ⟨Home.onOpen_openBank _ _, Home.onOpen_otherBank _ _⟩

/-- R56: the claim of a CLAIMING entry stands, the link controller as the command finds it. -/
theorem State.succeedClaim_stands {s : State} {l : Link} {h : HomeIndex} {t : Tree} {id : Identity} {tag : Nat} (m : Option Station)
    (ht : (s.home h).tree = some t) (hid : (s.home h).identity = some id) (hf : (s.tree t).place tag = some .free)
    (hlow : ∀ j, 1 ≤ j → j < tag → (s.tree t).place j ≠ some .free) :
    ClaimStands s (State.succeedClaim { s with link := l, out := [] } h m) l h t id tag m := by
  have heq := State.succeedClaim_eq (s := { s with link := l, out := [] }) m ht hid (TreeLine.lowestFree_eq hf hlow)
  have hhome : ∀ k, (State.succeedClaim { s with link := l, out := [] } h m).home k =
      if k = h then (s.home h).tagged tag m s.cal.reading else s.home k := fun k => by rw [heq]; exact s.setHome_home h k _
  have htree : ∀ u, (State.succeedClaim { s with link := l, out := [] } h m).tree u = if u = t then (s.tree t).assigned tag h id else s.tree u :=
    fun u => by rw [heq]; exact s.setTree_tree t u _
  have hh := (hhome h).trans (if_pos rfl)
  have hself := (htree t).trans (if_pos rfl)
  refine ⟨?_, ?_, ?_, ?_, ?_, ?_, ?_, fun k hk => (hhome k).trans (if_neg hk), fun u hu => (htree u).trans (if_neg hu), ?_⟩
  · rw [hh]; exact (s.home h).tagged_eq tag m s.cal.reading
  · rw [hh]; exact (s.home h).tagged_banks tag m s.cal.reading
  · rw [hself]
    exact ⟨(TreeLine.assigned_place h id hf tag).trans (if_pos rfl), fun k hk => (TreeLine.assigned_place h id hf k).trans (if_neg hk)⟩
  · rw [hself, TreeLine.assigned_eq]; exact ⟨rfl, rfl⟩
  · rw [hself, TreeLine.assigned_eq]
  · rw [heq]; exact Enrollment.forget_eq _ _
  · rw [heq]; exact ⟨rfl, fun f => Link.withdrawClaim_waiting⟩
  · rw [heq]

/-- Settles O43: the expiry of the hold and the RELEASE meet their conditions, and either way the claim stands. -/
theorem claimSucceeds : Obligations.ClaimSucceeds := by
  intro s h t id tag k hs hk ht hid hf hlow
  refine ⟨fun hsent hhold => ⟨_, ?_, State.succeedClaim_stands (l := s.link) none ht hid hf hlow⟩,
    fun c rx p releaser rb cb ib hc hh hr hp hrb hcb hib => ⟨_, ?_, State.succeedClaim_stands (l := s.link.received) (some releaser) ht hid hf hlow⟩⟩
  · refine congrArg Host.Outcome.next ?_
    simp only [State.begin_home, hs, hk]
    exact if_pos ⟨hsent, hhold⟩
  · have hent : s.heard.claimedEntry ib id = some h := State.claimedEntry_eq hib (by rw [State.heard_home, hs]; decide) hid
    rw [exec_release_taken hc hh hr hp hrb hcb, State.takeRelease, hent]
    exact congrArg Host.Outcome.next (if_pos hs)

end Sys2Proof.Machine
end

section
/-! SUPPORT. Frames that their producers keep offered again (R55, R91, R98, R160, R168), and the requests that write the tariff table and the lists (R52, R143). -/

namespace Sys2Proof.Machine

/-! ### Held frames offered again -/

/-- R55: a kept CLAIM joins the queue when there is room, else it stays kept. -/
theorem State.reofferClaim_eq {s : State} {h : HomeIndex} {id : Identity} {t : Tree} {k : ClaimContext} (hk : (s.home h).claim = some k)
    (hheld : 0 < k.held) (hid : (s.home h).identity = some id) (ht : (s.home h).tree = some t) :
    s.reofferClaim h =
      if s.link.roomFor false = true then
        { s with homes := s.homes.set h { s.home h with claim := some { k with held := k.held - 1 } }
                 link := s.link.take ⟨31, .claim id t h, false⟩ }
      else s := by
  unfold State.reofferClaim
  dsimp only
  split
  case h_1 k' id' t' hk' hid' ht' =>
    obtain rfl : k = k' := Option.some.inj (hk.symm.trans hk')
    obtain rfl : id = id' := Option.some.inj (hid.symm.trans hid')
    obtain rfl : t = t' := Option.some.inj (ht.symm.trans ht')
    simp only [hheld, true_and]
    rfl
  case h_2 hn => exact (hn k id t hk hid ht).elim

/-- R91: with no SHARE of this station in the queue a SHARE joins it when there is room. -/
theorem Link.offerShare_alone {l : Link} (f d : Nat) (hn : ∀ x ∈ l.frames, x.content.isShare = false) :
    l.offerShare f d = if l.roomFor false then (l.take ⟨31, .share f d, false⟩, true) else (l, false) := by
  have hwait : (l.waiting.any fun x => x.content.isShare) = false :=
    List.any_eq_false.2 fun x hx => by rw [hn x (List.mem_append_right _ hx)]; decide
  unfold Link.offerShare
  dsimp only
  split
  · rename_i cur n hcur
    have hfirst : cur.content.isShare = false := hn cur (List.mem_append_left _ (by simp [hcur]))
    rw [hfirst, hwait]
    rfl
  · rw [hwait]
    rfl

theorem State.offerShare_alone {s : State} (f d : Nat) (hn : ∀ x ∈ s.link.frames, x.content.isShare = false) :
    s.offerShare f d =
      if s.link.roomFor false = true then
        { s with share := { s.share with heldNotice := none }, link := s.link.take ⟨31, .share f d, false⟩ }
      else { s with share := { s.share with heldNotice := some (f, d) } } := by
  rw [State.offerShare, Link.offerShare_alone f d hn]
  split <;> rfl

/-- R98: an OVERCOMMIT that is not held joins the queue when there is room, else it is held. -/
theorem State.offerOvercommit_unheld {s : State} (c fSum n : Nat) (hn : s.share.heldOvercommit = none) :
    s.offerOvercommit c fSum n =
      if s.link.roomFor false = true then
        { s with share := { s.share with heldOvercommit := none }, link := s.link.take ⟨31, .event (.overcommit c fSum n), false⟩ }
      else { s with share := { s.share with heldOvercommit := some (c, fSum, n) } } := by
  simp only [State.offerOvercommit, hn]
  rfl

/-- R160: a HOLD_FULL that is not held joins the queue when there is room, else it is held. -/
theorem State.offerHoldFull_unheld {s : State} (depth : Nat) (head tail : BitVec 16) (hn : s.meter.heldFull = none) :
    s.offerHoldFull depth head tail =
      if s.link.roomFor false = true then
        { s with meter := { s.meter with heldFull := none }, link := s.link.take ⟨31, .event (.holdFull depth head tail), false⟩ }
      else { s with meter := { s.meter with heldFull := some (depth, head, tail) } } := by
  simp only [State.offerHoldFull, hn]
  rfl

/-- Settles O52: each kind of kept frame is offered as its producer offers a new one, and the room of the queue decides. -/
theorem heldFramesOfferedAgain : Obligations.HeldFramesOfferedAgain := by
  intro s
  refine ⟨fun h id t k hk hheld hid ht => ?_, fun f d hf hn => ?_, fun c fSum n hf => ?_, fun depth head tail hf => ?_⟩
  · have hx : exec (.heldFrameReoffer (.claim h)) s = .next (s.begin.reofferClaim h) := rfl
    rw [hx, State.reofferClaim_eq (s := s.begin) hk hheld hid ht]
    exact ⟨fun hr => congrArg Host.Outcome.next (if_pos hr), fun hr => congrArg Host.Outcome.next (if_neg (by rw [State.begin_link, hr]; decide))⟩
  · have hx : exec (.heldFrameReoffer .share) s = .next (s.begin.offerShare f d) := by
      refine congrArg Host.Outcome.next ?_
      simp only [State.reofferFrame, State.begin_share, hf]
    rw [hx, State.offerShare_alone (s := s.begin) f d hn]
    refine ⟨fun hr => congrArg Host.Outcome.next (if_pos hr), fun hr => congrArg Host.Outcome.next ?_⟩
    rw [if_neg (by rw [State.begin_link, hr]; decide), ← hf]
    rfl
  · have hx : exec (.heldFrameReoffer .overcommit) s =
        .next ((s.begin.onShare fun x => { x with heldOvercommit := none }).offerOvercommit c fSum n) := by
      refine congrArg Host.Outcome.next ?_
      simp only [State.reofferFrame, State.begin_share, hf]
    rw [hx, State.offerOvercommit_unheld (s := s.begin.onShare _) c fSum n rfl]
    refine ⟨fun hr => congrArg Host.Outcome.next (if_pos hr), fun hr => congrArg Host.Outcome.next ?_⟩
    rw [if_neg (by rw [State.onShare_link, State.begin_link, hr]; decide), ← hf]
    rfl
  · have hx : exec (.heldFrameReoffer .holdFull) s =
        .next ((s.begin.onMeter fun x => { x with heldFull := none }).offerHoldFull depth head tail) := by
      refine congrArg Host.Outcome.next ?_
      simp only [State.reofferFrame, State.begin_meter, hf]
    rw [hx, State.offerHoldFull_unheld (s := s.begin.onMeter _) depth head tail rfl]
    refine ⟨fun hr => congrArg Host.Outcome.next (if_pos hr), fun hr => congrArg Host.Outcome.next ?_⟩
    rw [if_neg (by rw [State.onMeter_link, State.begin_link, hr]; decide), ← hf]
    rfl

/-! ### The tariff table and the lists (R52, R143) -/

theorem Enrollment.admissionOf_none {e : Enrollment} {id : Identity} : e.admissionOf id = none ↔ ∀ a ∈ e.admission, a.identity ≠ id := by
  simp [Enrollment.admissionOf]

theorem Enrollment.admissionOf_isSome {e : Enrollment} {id : Identity} : (e.admissionOf id).isSome = true ↔ ∃ a ∈ e.admission, a.identity = id := by
  simp [Enrollment.admissionOf]

/-- R52: an identity that is listed has its admission replaced in place. -/
theorem Enrollment.admitEntry_listed {e : Enrollment} {a b : Admission} (hb : b ∈ e.admission) (hid : b.identity = a.identity) :
    e.admitEntry a = some { e with admission := e.admission.map fun x => if x.identity = a.identity then a else x } :=
  if_pos (Enrollment.admissionOf_isSome.2 ⟨b, hb, hid⟩)

/-- R52: an identity that is not listed joins the tail of a list that is not full. -/
theorem Enrollment.admitEntry_unlisted {e : Enrollment} {a : Admission} (hn : ∀ b ∈ e.admission, b.identity ≠ a.identity) :
    e.admitEntry a = if e.admission.length < 32 then some { e with admission := e.admission ++ [a] } else none := by
  rw [Enrollment.admitEntry, Enrollment.admissionOf_none.2 hn]
  rfl

section Lists

variable {s : State} {rx : Rx}

/-- R52: ADMIT at an admission list that takes the entry. -/
theorem State.takeAdmission_taken {e : Enrollment} {a : Admission} (he : s.enrol.admitEntry a = some e) :
    s.takeAdmission rx a = State.accept { s with enrol := e } := by
  rw [State.takeAdmission, he]
  rfl

/-- R52: an addressed ADMIT at a full admission list is refused. -/
theorem State.takeAdmission_full {a : Admission} (he : s.enrol.admitEntry a = none) (ha : s.addressed rx = true) :
    s.takeAdmission rx a = s.refuse .full := by
  rw [State.takeAdmission, he]
  exact if_pos ha

end Lists

/-- Settles O28: each request writes its one table or list and is answered, or is refused by what the list holds. -/
theorem tariffAndListRequests : Obligations.TariffAndListRequests := by
  intro s c rx num args ha hroom
  refine ⟨fun table ht => ?_, fun a hargs hn hl => ?_, fun a b hargs hb hid => ?_, fun a hargs hn hl => ?_, fun id a hargs hin hid => ?_,
    fun id hargs hn => ?_, fun id hargs hin => ?_, fun id hargs hn => ?_⟩
  · exact congrArg Host.Outcome.next (State.request_taken ha hroom (State.ranged_some _ ht) rfl rfl rfl)
  · have he : s.heard.enrol.admitEntry a = some { s.enrol with admission := s.enrol.admission ++ [a] } :=
      (Enrollment.admitEntry_unlisted hn).trans (if_pos hl)
    exact congrArg Host.Outcome.next (State.request_taken ha hroom ((State.ranged_some _ hargs).trans (State.takeAdmission_taken he)) rfl rfl rfl)
  · have he := Enrollment.admitEntry_listed hb hid
    exact congrArg Host.Outcome.next
      (State.request_taken ha hroom ((State.ranged_some _ hargs).trans (State.takeAdmission_taken (s := s.heard) he)) rfl rfl rfl)
  · have he : s.heard.enrol.admitEntry a = none := (Enrollment.admitEntry_unlisted hn).trans (if_neg (Nat.not_lt.2 hl))
    exact congrArg Host.Outcome.next
      (State.request_refused ha hroom ((State.ranged_some _ hargs).trans (State.takeAdmission_full he ha.addressed)) rfl)
  · refine congrArg Host.Outcome.next
      (State.request_taken ha hroom ((State.ranged_some _ hargs).trans (if_pos (Enrollment.admissionOf_isSome.2 ⟨a, hin, hid⟩))) rfl rfl ?_)
    simp only [State.onEnrol, Enrollment.forget_eq]
    rfl
  · have hno : (s.heard.enrol.admissionOf id).isSome ≠ true := by rw [Enrollment.admissionOf_none.2 (by exact hn)]; decide
    exact congrArg Host.Outcome.next (State.request_refused ha hroom ((State.ranged_some _ hargs).trans (if_neg hno)) rfl)
  · have hbar : s.heard.enrol.isBarred id = true := List.contains_iff_mem.2 hin
    refine congrArg Host.Outcome.next (State.request_taken ha hroom ((State.ranged_some _ hargs).trans (if_pos hbar)) rfl rfl ?_)
    simp only [State.onEnrol, ne_eq, decide_not]
    rfl
  · have hbar : s.heard.enrol.isBarred id ≠ true := fun e => hn (List.contains_iff_mem.1 e)
    exact congrArg Host.Outcome.next (State.request_refused ha hroom ((State.ranged_some _ hargs).trans (if_neg hbar)) rfl)

end Sys2Proof.Machine
end

section
/-! SUPPORT. The sender's phases: gap, attempt, frame sent, collision, jam and back-off, and the drop after 16 attempts (R55, R165 to R167). -/

namespace Sys2Proof.Machine

/-! ### A frame leaves the queue -/

/-- R165: with nothing waiting the sender is IDLE. -/
theorem Link.finish_empty {l : Link} (h : l.waiting = []) : l.finish = { l with current := none, phase := .idle } := by
  simp only [Link.finish, Link.choose, h]

/-- R165: the frame at the front becomes current on attempt 1. -/
theorem Link.finish_front {l : Link} {g : Frame} {rest : List Frame} (h : l.waiting = g :: rest) :
    l.finish = { l with current := some (g, 1), waiting := rest, phase := .gap } := by
  simp only [Link.finish, Link.choose, h]

theorem Link.finish_eventsDropped (l : Link) : l.finish.eventsDropped = l.eventsDropped := by
  cases hw : l.waiting with
  | nil => rw [Link.finish_empty hw]
  | cons g rest => rw [Link.finish_front hw]

/-! ### What the producer of a frame is told (R55, R167) -/

theorem State.claimSent_other {s : State} {f : Frame} (hn : ∀ id t h, f.content ≠ .claim id t h) : s.claimSent f = s := by
  unfold State.claimSent
  split
  case h_1 id t h hf => exact absurd hf (hn id t h)
  all_goals rfl

/-- R55: the report of a CLAIM of a claim that stands reaches its entry. -/
theorem State.claimSent_claim {s : State} {f : Frame} {id : Identity} {t : Tree} {h : HomeIndex} {k : ClaimContext} (hf : f.content = .claim id t h)
    (ho : f.orphan = false) (hs : (s.home h).state = .claiming) (hid : (s.home h).identity = some id) (hk : (s.home h).claim = some k) :
    s.claimSent f = s.setHome h { s.home h with claim := some k.reportSent } := by
  simp only [State.claimSent, hf, ho, hs, hid, and_self, if_true, State.onHome, hk, Option.map_some]

theorem State.dropped_other {s : State} {f : Frame} (he : f.content.isEvent = false) (hn : ∀ id t h, f.content ≠ .claim id t h) : s.dropped f = s := by
  unfold State.dropped
  split
  case h_1 id t h hf => exact absurd hf (hn id t h)
  case h_2 e hf => rw [hf] at he; cases he
  all_goals rfl

/-- R167, R175: an EVENT is lost and counted. -/
theorem State.dropped_event {s : State} {f : Frame} {e : EventKind} (hf : f.content = .event e) :
    s.dropped f = { s with link := { s.link with eventsDropped := min 65535 (s.link.eventsDropped + 1) } } := by
  rw [State.dropped, hf]
  rfl

/-- R167: the CLAIM of a claim that stands is queued again. -/
theorem State.dropped_claim {s : State} {f : Frame} {id : Identity} {t : Tree} {h : HomeIndex} {k : ClaimContext} (hf : f.content = .claim id t h)
    (ho : f.orphan = false) (hs : (s.home h).state = .claiming) (hid : (s.home h).identity = some id) (hk : (s.home h).claim = some k) :
    s.dropped f = (s.setHome h { s.home h with claim := some { k with again := true } }).offerClaim h := by
  simp only [State.dropped, hf, ho, hs, hid, and_self, if_true, State.onHome, hk, Option.map_some]

/-- R55: a CLAIM offered for an entry just written joins the queue, or is kept while there is no room. -/
theorem State.offerClaim_setHome (s : State) {h : HomeIndex} {x : Home} {id : Identity} {t : Tree} {k : ClaimContext} (hk : x.claim = some k)
    (hid : x.identity = some id) (ht : x.tree = some t) :
    (s.setHome h x).offerClaim h =
      if s.link.roomFor false = true then { s with homes := s.homes.set h x, link := s.link.take ⟨31, .claim id t h, false⟩ }
      else { s with homes := s.homes.set h { x with claim := some { k with held := k.held + 1 } } } := by
  have hx : (s.setHome h x).home h = x := by rw [State.setHome_home, if_pos rfl]
  unfold State.offerClaim
  simp only [hx, hk]
  split
  case h_1 k' id' t' hk' hid' ht' =>
    obtain rfl : k = k' := Option.some.inj hk'
    obtain rfl : id = id' := Option.some.inj (hid.symm.trans hid')
    obtain rfl : t = t' := Option.some.inj (ht.symm.trans ht')
    simp only [State.onHome, hx]
    simp only [State.setHome, Vector.set_set]
    rfl
  case h_2 hn => exact (hn k id t rfl hid ht).elim

/-! ### The events of the sender -/

section Sender

variable {s : State} {f : Frame} {a : Nat}

theorem exec_frameSent (hcur : s.link.current = some (f, a)) (hp : s.link.phase = .sending) :
    exec .frameSent s =
      .next (State.claimSent { s with link := { s.link with framesSent := min 65535 (s.link.framesSent + 1) }.finish, out := [.frame (f.lineBytes s.own)] } f) := by
  refine congrArg Host.Outcome.next ?_
  simp only [State.begin_link, hp, hcur]
  rfl

/-- R166: a collision short of the 16th leads to back-off. -/
theorem exec_jamEnd_backoff (hcur : s.link.current = some (f, a)) (hp : s.link.phase = .jam) (ha : a ≤ 15) :
    exec .jamEnd s =
      .next { s with link := { s.link with phase := .backoff (backoffBits s.own a), collisions := min 65535 (s.link.collisions + 1) }, out := [] } := by
  refine congrArg Host.Outcome.next ?_
  simp only [State.begin_link, hp, hcur]
  rw [if_neg (by omega : ¬ 16 ≤ a), ← hcur]
  rfl

/-- R167: the frame of the 16th collision leaves the queue. -/
theorem exec_jamEnd_drop (hcur : s.link.current = some (f, a)) (hp : s.link.phase = .jam) (ha : 16 ≤ a) :
    exec .jamEnd s =
      .next (State.dropped { s with link := { s.link with collisions := min 65535 (s.link.collisions + 1),
                                                          collisionDrops := min 65535 (s.link.collisionDrops + 1) }.finish, out := [] } f) := by
  refine congrArg Host.Outcome.next ?_
  simp only [State.begin_link, hp, hcur]
  exact if_pos ha

/-- Settles O23: each event finds its phase, and what a sent or dropped frame leads to follows from its class. -/
theorem senderPhases : Obligations.SenderPhases := by
  intro s f a hcur next
  have hnext : ∀ l : Link, l.finish = next l := fun l => by
    cases hw : l.waiting with
    | nil => simp only [next, hw, Link.finish_empty hw]
    | cons g rest => simp only [next, hw, Link.finish_front hw]
  refine ⟨fun hp => ?_, fun hp hn => ?_, fun id t h k hp hf ho hs hid hk => ?_, fun hp => ?_, fun hp ha => ?_, fun hp ha => ?_, fun b hp => ?_⟩
  · refine congrArg Host.Outcome.next ?_
    simp only [State.begin_link, hp]
    rfl
  · rw [exec_frameSent hcur hp, State.claimSent_other hn, hnext]
  · rw [exec_frameSent hcur hp, State.claimSent_claim hf ho (by exact hs) (by exact hid) (by exact hk), hnext]
    rfl
  · refine congrArg Host.Outcome.next ?_
    simp only [State.begin_link, hp]
    rfl
  · exact exec_jamEnd_backoff hcur hp ha
  · rw [exec_jamEnd_drop hcur hp ha, hnext]
    intro after
    refine ⟨fun he hn => ?_, fun e hf => ?_, fun id t u h k hf ho hs hid hu hk => ?_⟩
    · rw [State.dropped_other he hn]
    · have hlost : after.eventsDropped = s.link.eventsDropped := (congrArg Link.eventsDropped (hnext _)).symm.trans (Link.finish_eventsDropped _)
      rw [State.dropped_event hf, ← hlost]
    · rw [State.dropped_claim hf ho (by exact hs) (by exact hid) (by exact hk), State.offerClaim_setHome _ rfl (by exact hid) (by exact hu)]
      exact ⟨fun hr => congrArg Host.Outcome.next (if_pos hr), fun hr => congrArg Host.Outcome.next (if_neg (by rw [hr]; decide))⟩
  · refine congrArg Host.Outcome.next ?_
    simp only [State.begin_link, hp, hcur]
    rfl

end Sender

end Sys2Proof.Machine
end

section
/-! SUPPORT. What a claim or a home of an identity meets in the claim protocol: IDENTITY evidence (R103), a claim abandoned (R50, R57), OBJECT and RELEASE at the claimant
(R57, R58), and the results of claim and release checks (R60, R61). -/

namespace Sys2Proof.Machine

/-! ### How many frames the transmit queue holds (R168) -/

theorem Link.total_eq (l : Link) : l.total = l.current.toList.length + l.waiting.length := by
  rw [Link.total, Link.frames, List.length_append]
  cases l.current <;> rfl

theorem Link.choose_total_le (l : Link) : l.choose.total ≤ l.total := by
  unfold Link.choose
  split
  case h_1 f rest _ hw =>
    simp only [Link.total_eq, hw, List.length_cons, Option.toList_some, List.length_nil]
    omega
  case h_2 => exact le_rfl

/-- A frame taken is one frame more at most. -/
theorem Link.take_total_le (l : Link) (f : Frame) : (l.take f).total ≤ l.total + 1 := by
  refine (Link.choose_total_le _).trans (le_of_eq ?_)
  rw [Link.total_eq, Link.total_eq, insertFrame_length, Nat.add_assoc]

/-- A withdrawn CLAIM leaves no frame more. -/
theorem Link.withdrawClaim_total_le (l : Link) (h : HomeIndex) : (l.withdrawClaim h).total ≤ l.total := by
  have hfilter : (l.waiting.filter fun f => !f.claims h).length ≤ l.waiting.length := List.length_filter_le _ _
  have hkept : ({ l with waiting := l.waiting.filter fun f => !f.claims h } : Link).total ≤ l.total := by
    rw [Link.total_eq, l.total_eq]
    exact Nat.add_le_add_left hfilter _
  unfold Link.withdrawClaim
  dsimp only
  split
  case h_1 f n hcur =>
    split
    · split
      · rw [Link.total_eq, l.total_eq, hcur]
        exact Nat.add_le_add_left hfilter 1
      · refine (Link.choose_total_le _).trans ?_
        rw [Link.total_eq, l.total_eq]
        exact Nat.add_le_add (Nat.zero_le _) hfilter
    · exact hkept
  case h_2 => exact hkept

/-! ### IDENTITY evidence (R103) -/

theorem inService_of_served {st : HomeState} (h : st = .soaking ∨ st = .online) : inService st = true := by
  obtain rfl | rfl := h <;> rfl

/-- R100, R103: IDENTITY evidence raises the score by 128 where it does not isolate. -/
theorem State.chargeIdentity_raises {s : State} {h : HomeIndex}
    (hs : (s.home h).state = .measuring ∨ (inService (s.home h).state = true ∧ (s.home h).score < 64)) :
    s.chargeIdentity h =
      { s with identities := min 65535 (s.identities + 1), homes := s.homes.set h { s.home h with score := min 255 ((s.home h).score + 128) } } := by
  have hw : (s.home h).state = .measuring ∨ (s.home h).state = .isolated ∨
      (inService (s.home h).state = true ∧ (s.home h).score + Evidence.identity.weight < 192) :=
    hs.imp_right fun ⟨hi, hlt⟩ => .inr ⟨hi, Nat.add_lt_add_right hlt 128⟩
  exact State.charge_raises (s := { s with identities := bump s.identities }) hw

/-- R103, R108, R109: IDENTITY evidence isolates a home in service whose score reaches 192. -/
theorem State.chargeIdentity_isolates {s : State} {h : HomeIndex} {u : Tree} {tag : Nat} (hs : (s.home h).state = .soaking ∨ (s.home h).state = .online)
    (h64 : 64 ≤ (s.home h).score) (hu : (s.home h).tree = some u) (htag : (s.home h).tag = some tag) (hq : (s.tree u).queue.length < 16)
    (hl : s.link.total < 12) :
    s.chargeIdentity h =
      State.scoredOut { s with identities := min 65535 (s.identities + 1) } h { s.home h with score := min 255 ((s.home h).score + 128) } u tag .identity :=
  State.charge_scoredOut (s := { s with identities := bump s.identities }) (inService_of_served hs) (Nat.add_le_add_right h64 128) hu htag hq hl

/-! ### A claim abandoned (R50, R57) -/

/-- R1, R8: an entry with its pool's share and no tag is freed. -/
theorem State.freeEntry_untagged {s : State} {h : HomeIndex} {t : Tree} (hs : inPool (s.home h).state = true) (ht : (s.home h).tree = some t)
    (htag : (s.home h).tag = none) :
    s.freeEntry h =
      { s with
        homes := s.homes.set h Home.free
        trees := s.trees.set t.idx { s.tree t with pool := (s.tree t).pool - (s.home h).g }
        forwardList := s.forwardList.filter fun i => i ≠ h } := by
  simp only [State.freeEntry, State.drainTag_untagged htag, State.leavePool, ht, hs, if_true, State.leaveForwardList, ne_eq, decide_not]
  rfl

/-- R50, R57: a claim abandoned has its CLAIM withdrawn and its entry freed. -/
theorem State.abandonClaim_eq {s : State} {h : HomeIndex} {t : Tree} (hs : (s.home h).state = .claiming) (ht : (s.home h).tree = some t)
    (htag : (s.home h).tag = none) :
    s.abandonClaim h =
      { s with
        homes := s.homes.set h Home.free
        trees := s.trees.set t.idx { s.tree t with pool := (s.tree t).pool - (s.home h).g }
        forwardList := s.forwardList.filter fun i => i ≠ h
        link := s.link.withdrawClaim h } :=
  State.freeEntry_untagged (s := s.onLink fun l => l.withdrawClaim h) (by rw [State.onLink_home, hs]; rfl) ht htag

/-- R52, R57, R60: a claim abandoned for its identity's sake: the identity is barred and the event goes out. -/
theorem State.abandonClaim_barred {s : State} {h : HomeIndex} {t : Tree} (id : Identity) (cause : ConflictCause) (hs : (s.home h).state = .claiming)
    (ht : (s.home h).tree = some t) (htag : (s.home h).tag = none) (hl : s.link.total < 12) :
    ((s.abandonClaim h).onEnrol fun e => e.bar id).event (.identityConflict id h (s.home h).tree cause) =
      { s with
        homes := s.homes.set h Home.free
        trees := s.trees.set t.idx { s.tree t with pool := (s.tree t).pool - (s.home h).g }
        forwardList := s.forwardList.filter fun i => i ≠ h
        enrol := s.enrol.bar id
        link := (s.link.withdrawClaim h).take ⟨31, .event (.identityConflict id h (some t) cause), false⟩ } := by
  rw [State.abandonClaim_eq hs ht htag, ht, State.event_room _ (lt_of_le_of_lt (s.link.withdrawClaim_total_le h) hl)]
  rfl

/-! ### OBJECT and RELEASE at the claimant (R57, R58) -/

/-- An OBJECT reaches the Enrollment Engine with the kind it names (R57). -/
theorem exec_object_taken {s : State} {c : Config} {rx : Rx} {p : List Byte} {id : Identity} {index kb : Byte} {kind : ObjectKind}
    (hc : s.config = some c) (hh : s.hears rx = true) (hr : (c.ranks[rx.src]).val ≤ 2) (hp : objectFields p = some (id, index, kb))
    (hk : objectKind kb = some kind) : exec (.object rx p) s = .next (s.heard.takeObject rx.src id index kind) := by
  refine congrArg Host.Outcome.next ((State.receivePeer_heard _ hc hh hr).trans ?_)
  simp only [hp, hk]

/-- R58: an OBJECT that names no entry with its identity is counted as unmatched, whatever its kind byte. -/
theorem exec_object_unmatched {s : State} {c : Config} {rx : Rx} {p : List Byte} {id : Identity} {index kb : Byte} (hc : s.config = some c)
    (hh : s.hears rx = true) (hr : (c.ranks[rx.src]).val ≤ 2) (hp : objectFields p = some (id, index, kb))
    (hn : ∀ i : HomeIndex, index.toNat = i.val → (s.home i).state = .free ∨ (s.home i).identity ≠ some id) :
    exec (.object rx p) s = .next s.heard.unmatched := by
  cases hk : objectKind kb with
  | some kind => rw [exec_object_taken hc hh hr hp hk, State.takeObject, State.claimedEntry_none (s := s.heard) hn]
  | none =>
    refine congrArg Host.Outcome.next ((State.receivePeer_heard _ hc hh hr).trans ?_)
    simp only [hp, hk]

section Claimant

variable {s : State} {h : HomeIndex} {id : Identity} {index : Byte}

/-- R57: an OBJECT HELD for a CLAIMING entry is about its claim. -/
theorem State.takeObject_held (station : Station) (hi : index.toNat = h.val) (hs : (s.home h).state = .claiming) (hid : (s.home h).identity = some id) :
    s.takeObject station id index .held = s.objectHeld h station id := by
  rw [State.takeObject, State.claimedEntry_eq hi (by rw [hs]; decide) hid]
  exact if_pos hs

/-- R57: an OBJECT WAIT for a CLAIMING entry is about its claim. -/
theorem State.takeObject_wait (station : Station) (hi : index.toNat = h.val) (hs : (s.home h).state = .claiming) (hid : (s.home h).identity = some id) :
    s.takeObject station id index .wait = s.objectWait h := by
  rw [State.takeObject, State.claimedEntry_eq hi (by rw [hs]; decide) hid]
  exact if_pos hs

/-- R58: an OBJECT for an entry that is no longer CLAIMING is late. -/
theorem State.takeObject_late (station : Station) (kind : ObjectKind) (hi : index.toNat = h.val) (hs : (s.home h).state ≠ .claiming)
    (hf : (s.home h).state ≠ .free) (hid : (s.home h).identity = some id) : s.takeObject station id index kind = s.lateObject h station id kind := by
  rw [State.takeObject, State.claimedEntry_eq hi hf hid]
  exact if_neg hs

/-- R57: an OBJECT WAIT short of the fifth raises the wait count and queues the CLAIM again, unless one queued again is still to be reported sent. -/
theorem State.objectWait_counts {k : ClaimContext} (hk : (s.home h).claim = some k) (hw : k.waits < 4) :
    s.objectWait h =
      if k.again then s.setHome h { s.home h with claim := some { k with waits := k.waits + 1 } }
      else (s.setHome h { s.home h with claim := some ⟨k.unsent + 1, 100, k.waits + 1, k.held, true⟩ }).offerClaim h := by
  have hfew : ¬ 5 ≤ k.waits + 1 := by omega
  rw [State.objectWait, hk]
  simp only [if_neg hfew]
  rfl

/-- R57: the fifth OBJECT WAIT abandons the claim. -/
theorem State.objectWait_abandons {k : ClaimContext} (hk : (s.home h).claim = some k) (hw : 4 ≤ k.waits) : s.objectWait h = s.abandonClaim h := by
  rw [State.objectWait, hk]
  exact if_pos (Nat.succ_le_succ hw)

/-- R58: a late OBJECT HELD of a home in MEASURING or in service is evidence against it. -/
theorem State.lateObject_charges (station : Station) (id : Identity) (hs : (s.home h).state = .measuring ∨ inService (s.home h).state = true) :
    s.lateObject h station id .held = (s.event (.identityConflict id h (s.home h).tree (.late station))).chargeIdentity h := if_pos hs

/-- R58: a late OBJECT HELD of a home that is ISOLATED, CLOSING or gone is an event alone. -/
theorem State.lateObject_notes (station : Station) (id : Identity)
    (hs : (s.home h).state = .isolated ∨ (s.home h).state = .closing ∨ (s.home h).state = .forward) :
    s.lateObject h station id .held = s.event (.identityConflict id h (s.home h).tree (.late station)) := by
  refine if_neg ?_
  obtain hs | hs | hs := hs <;> rw [hs] <;> decide

/-- R58: a late RELEASE sets an absent moved-from, but of a FORWARD entry. -/
theorem State.takeRelease_late (releaser : Station) (hi : index.toNat = h.val) (hs : (s.home h).state ≠ .claiming) (hf : (s.home h).state ≠ .free)
    (hid : (s.home h).identity = some id) :
    s.takeRelease releaser id index =
      { s with homes := if (s.home h).movedFrom = none ∧ (s.home h).state ≠ .forward then s.homes.set h { s.home h with movedFrom := some releaser }
                        else s.homes } := by
  rw [State.takeRelease, State.claimedEntry_eq hi hf hid]
  refine (if_neg hs).trans ?_
  split <;> rfl

/-- R50: a capture on one tree of an identity that a home or claim of another tree holds is a local conflict. -/
theorem State.actCapture_conflict {t u : Tree} (hh : s.holder id = some h) (hu : (s.home h).tree = some u) (hut : u ≠ t)
    (hs : (s.home h).state = .measuring ∨ (s.home h).state = .soaking ∨ (s.home h).state = .online ∨ (s.home h).state = .claiming) :
    s.actCapture t id = s.localConflict h t id := by
  have hne : (s.home h).tree ≠ some t := by rw [hu]; exact fun e => hut (Option.some.inj e)
  rw [State.actCapture, hh]
  obtain hs | hs | hs | hs := hs <;> simp only [hs, hne, decide_false, Bool.false_eq_true, if_false]

/-- R50: with room for it the event of a local conflict goes out before the conflict is acted on. -/
theorem State.localConflict_eq {u : Tree} (t : Tree) (id : Identity) (hu : (s.home h).tree = some u) (hl : s.link.total < 12) :
    s.localConflict h t id =
      if (s.home h).state = .claiming then
        State.abandonClaim { s with enrol := s.enrol.bar id, link := s.link.take ⟨31, .event (.identityConflict id h (some u) (.localTree t)), false⟩ } h
      else State.chargeIdentity { s with enrol := s.enrol.bar id, link := s.link.take ⟨31, .event (.identityConflict id h (some u) (.localTree t)), false⟩ } h := by
  unfold State.localConflict
  dsimp only
  rw [hu, State.event_room _ (by exact hl)]
  rfl

end Claimant

/-- Settles O42: each frame reaches its entry by claim index and identity, and the entry's state says what it does; a capture of another tree's identity is the local conflict. -/
theorem objectsAtTheClaimant : Obligations.ObjectsAtTheClaimant := by
  refine ⟨fun s c rx p id index h t k hc hh hr => ?_, fun s t u id start count rest h hw hhold hu hut hl => ?_⟩
  · have held : objectFields p = some (id, index, 1) → exec (.object rx p) s = .next (s.heard.takeObject rx.src id index .held) := fun hp =>
      exec_object_taken hc hh hr hp rfl
    have wait : objectFields p = some (id, index, 2) → exec (.object rx p) s = .next (s.heard.takeObject rx.src id index .wait) := fun hp =>
      exec_object_taken hc hh hr hp rfl
    intro abandoned
    refine ⟨fun hp hi hs hid ht htag hl => ⟨?_, fun f hf => ?_⟩, fun hp hi hs hid ht hk => ?_, fun kind hp hn => ?_, fun hi hs hfree hid => ?_⟩
    · rw [held hp, State.takeObject_held _ hi (by exact hs) (by exact hid)]
      refine congrArg Host.Outcome.next ((State.abandonClaim_barred (s := s.heard) id _ hs ht htag (by exact hl)).trans ?_)
      rw [Enrollment.bar_eq]
      rfl
    · obtain rfl | hf := Link.mem_take_waiting hf
      · rfl
      · exact Link.withdrawClaim_waiting hf
    · rw [wait hp, State.takeObject_wait _ hi (by exact hs) (by exact hid)]
      refine ⟨fun ha hlt hroom => ?_, fun ha hlt hroom => ?_, fun ha hlt => ?_, fun hge htag => ?_⟩
      · rw [State.objectWait_counts (s := s.heard) hk hlt, if_neg (by rw [ha]; decide), State.offerClaim_setHome _ rfl (by exact hid) (by exact ht)]
        exact congrArg Host.Outcome.next (if_pos hroom)
      · rw [State.objectWait_counts (s := s.heard) hk hlt, if_neg (by rw [ha]; decide), State.offerClaim_setHome _ rfl (by exact hid) (by exact ht)]
        exact congrArg Host.Outcome.next (if_neg (by rw [State.heard_link, Link.roomFor_received, hroom]; decide))
      · rw [State.objectWait_counts (s := s.heard) hk hlt, if_pos ha]
        rfl
      · rw [State.objectWait_abandons (s := s.heard) hk hge, State.abandonClaim_eq (s := s.heard) hs ht htag]
        rfl
    · rw [exec_object_unmatched hc hh hr hp hn]
      rfl
    · have late : ∀ kind, s.heard.takeObject rx.src id index kind = s.heard.lateObject h rx.src id kind := fun kind =>
        State.takeObject_late (s := s.heard) _ kind hi hs hfree hid
      refine ⟨fun hp hl => ?_, fun hp hl hst => ?_, fun hp => ?_, fun releaser rb cb hp hrb hcb => ?_⟩
      · intro noted
        refine ⟨fun hst => ?_, fun hst => ?_⟩
        · rw [held hp, late, State.lateObject_charges (s := s.heard) _ _ (hst.imp_right And.left), State.event_room (s := s.heard) _ (by exact hl)]
          exact congrArg Host.Outcome.next (State.chargeIdentity_raises (s := noted) hst)
        · rw [held hp, late, State.lateObject_notes (s := s.heard) _ _ hst, State.event_room (s := s.heard) _ (by exact hl)]
          rfl
      · rw [held hp, late, State.lateObject_notes (s := s.heard) _ _ hst, State.event_full (s := s.heard) _ (by exact hl)]
        rfl
      · rw [wait hp, late]
        rfl
      · rw [exec_release_taken hc hh hr hp hrb hcb, State.takeRelease_late _ hi (by exact hs) (by exact hfree) (by exact hid)]
        rfl
  · intro conflict charged
    have acts : ((s.home h).state = .measuring ∨ (s.home h).state = .soaking ∨ (s.home h).state = .online ∨ (s.home h).state = .claiming) →
        exec .captureCheckComplete s =
          .next (if (s.home h).state = .claiming then conflict.abandonClaim h else conflict.chargeIdentity h) := fun hs => by
      rw [exec_captureCheck hw, State.actCapture_conflict (s := s.walked rest) hhold hu hut hs, State.localConflict_eq (s := s.walked rest) t id hu hl,
        Enrollment.bar_eq]
      rfl
    refine ⟨fun hs => ?_, fun tag hs h64 htag hq hten => ?_, fun hs htag => ?_⟩
    · have hkind : (s.home h).state = .measuring ∨ (s.home h).state = .soaking ∨ (s.home h).state = .online := hs.imp_right And.left
      have hne : (s.home h).state ≠ .claiming := by obtain hk | hk | hk := hkind <;> rw [hk] <;> decide
      rw [acts (hkind.imp_right fun hk => hk.imp_right .inl), if_neg hne]
      exact congrArg Host.Outcome.next (State.chargeIdentity_raises (s := conflict) (hs.imp_right fun ⟨hk, hlt⟩ => ⟨inService_of_served hk, hlt⟩))
    · have hne : (s.home h).state ≠ .claiming := by obtain hk | hk := hs <;> rw [hk] <;> decide
      have hroom : conflict.link.total < 12 := Nat.lt_succ_of_le ((Link.take_total_le _ _).trans (Nat.succ_le_succ hten))
      rw [acts (.inr (hs.imp_right .inl)), if_neg hne]
      exact congrArg Host.Outcome.next (State.chargeIdentity_isolates (s := conflict) hs h64 hu htag hq hroom)
    · rw [acts (.inr (.inr (.inr hs))), if_pos hs]
      exact congrArg Host.Outcome.next (State.abandonClaim_eq (s := conflict) hs hu htag)

end Sys2Proof.Machine
end

section
/-! SUPPORT. The results of claim checks and release checks, and a RELEASE that names a third station (R57, R60, R61, R103). -/

namespace Sys2Proof.Machine

section Checks

variable {s : State} {claimant : Station} {index : Byte} {id : Identity} {start count : Nat} {rest : List WalkRequest} {h : HomeIndex}

theorem exec_claimCheck (hw : s.walks = ⟨.claim claimant index, id, start, count⟩ :: rest) :
    exec .claimCheckComplete s = .next ((s.walked rest).actClaim claimant index id) := by
  refine congrArg Host.Outcome.next ?_
  simp only [State.begin_walks, hw, State.endWalk]
  rfl

theorem exec_releaseCheck (hw : s.walks = ⟨.release claimant, id, start, count⟩ :: rest) :
    exec .releaseCheckComplete s = .next ((s.walked rest).actRelease claimant id) := by
  refine congrArg Host.Outcome.next ?_
  simp only [State.begin_walks, hw, State.endWalk]
  rfl

/-! ### A claim check's result by the matched entry's state (R60, Table 3-7) -/

theorem State.actClaim_unheld (hh : s.holder id = none) : s.actClaim claimant index id = s := by rw [State.actClaim, hh]

theorem State.actClaim_isolated (hh : s.holder id = some h) (hs : (s.home h).state = .isolated) :
    s.actClaim claimant index id = s.sendObject claimant id index .held := by
  rw [State.actClaim, hh]
  simp only [hs]

theorem State.actClaim_charges (hh : s.holder id = some h)
    (hs : (s.home h).state = .measuring ∨ (s.home h).state = .soaking ∨ (s.home h).state = .online) :
    s.actClaim claimant index id = (s.sendObject claimant id index .held).chargeIdentity h := by
  rw [State.actClaim, hh]
  obtain hs | hs | hs := hs <;> simp only [hs]

theorem State.actClaim_lost (hh : s.holder id = some h) (hs : (s.home h).state = .lost) :
    s.actClaim claimant index id = (s.closeEntry h .moved (some claimant)).sendRelease claimant id index := by
  rw [State.actClaim, hh]
  simp only [hs]

theorem State.actClaim_closing (hh : s.holder id = some h) (hs : (s.home h).state = .closing) :
    s.actClaim claimant index id =
      (s.onHome h fun y => { y with forwardTo := some (y.forwardTo.getD claimant) }).sendRelease claimant id index := by
  rw [State.actClaim, hh]
  simp only [hs]

theorem State.actClaim_forward (hh : s.holder id = some h) (hs : (s.home h).state = .forward) :
    s.actClaim claimant index id = s.onHome h fun y => { y with forwardTo := some claimant } := by
  rw [State.actClaim, hh]
  simp only [hs]

theorem State.actClaim_claiming (hh : s.holder id = some h) (hs : (s.home h).state = .claiming) :
    s.actClaim claimant index id =
      ((s.abandonClaim h).onEnrol fun e => e.bar id).event (.identityConflict id h (s.home h).tree (.mutualClaim claimant)) := by
  rw [State.actClaim, hh]
  simp only [hs]

/-! ### A release check's result (R61) -/

theorem State.actRelease_unheld (hh : s.holder id = none) : s.actRelease claimant id = s := by rw [State.actRelease, hh]

theorem State.actRelease_closing (hh : s.holder id = some h) (hs : (s.home h).state = .closing) :
    s.actRelease claimant id = s.onHome h fun y => { y with forwardTo := some (y.forwardTo.getD claimant) } := by
  rw [State.actRelease, hh]
  simp only [hs]

theorem State.actRelease_forward (hh : s.holder id = some h) (hs : (s.home h).state = .forward) :
    s.actRelease claimant id = s.onHome h fun y => { y with forwardTo := some claimant } := by
  rw [State.actRelease, hh]
  simp only [hs]

theorem State.actRelease_other (hh : s.holder id = some h) (hc : (s.home h).state ≠ .closing) (hf : (s.home h).state ≠ .forward) :
    s.actRelease claimant id = s := by
  rw [State.actRelease, hh]
  dsimp only
  split
  case h_1 hs => exact absurd hs hc
  case h_2 hs => exact absurd hs hf
  all_goals rfl

end Checks

/-- A RELEASE for a third station queues a release check when the search queue has room (R61). -/
theorem exec_release_third {s : State} {c : Config} {rx : Rx} {p : List Byte} {id : Identity} {rb cb ib : Byte} {claimant : Station}
    (hc : s.config = some c) (hh : s.hears rx = true) (hr : (c.ranks[rx.src]).val ≤ 2) (hp : releaseFields p = some (id, rb, cb, ib))
    (hcb : cb.toNat = claimant.val) (hne : claimant ≠ s.own) (hw : s.walks.length < 6) :
    exec (.release rx p) s =
      .next { s with walks := s.walks ++ [⟨.release claimant, id, 0, 128⟩], link := s.link.received, out := [] } := by
  refine congrArg Host.Outcome.next ((State.receivePeer_heard _ hc hh hr).trans ?_)
  simp only [hp, State.hearRelease, stationOf_eq hcb]
  refine (if_neg (by exact hne)).trans ?_
  rw [State.queueWalk_room _ (by exact hw)]
  rfl

/-- Settles O46: each check completes, its result is acted on by the matched entry's state, and a RELEASE for a third station queues a release check. -/
theorem claimAndReleaseChecks : Obligations.ClaimAndReleaseChecks := by
  intro s claimant index id start count rest
  refine ⟨fun hw => ?_, fun hw => ?_, fun c rx p rb cb ib hc hh hr hp hcb hne hlen => exec_release_third hc hh hr hp hcb hne hlen⟩
  · have hx := exec_claimCheck hw
    refine ⟨fun hn => ?_, fun h hhold => ?_⟩
    · rw [hx, State.actClaim_unheld (by exact hn)]; rfl
    have hheld : (s.walked rest).holder id = some h := hhold
    intro x objected charged
    have object : s.link.total < 12 → (s.walked rest).sendObject claimant id index .held = objected := fun hl =>
      State.offerUrgent_room (s := s.walked rest) _ _ hl
    refine ⟨fun hs hl => ?_, fun hs hl => ?_, fun t tag hs h64 ht htag hq hten => ?_, fun hs hl => ?_, fun hs => ?_, fun t hs ht htag hl => ?_⟩
    · rw [hx, State.actClaim_isolated hheld hs, object hl]
    · rw [hx, State.actClaim_charges hheld (hs.imp_right And.left), object hl]
      exact congrArg Host.Outcome.next (State.chargeIdentity_raises (s := objected) (hs.imp_right fun ⟨hk, hlt⟩ => ⟨inService_of_served hk, hlt⟩))
    · have hroom : objected.link.total < 12 := Nat.lt_succ_of_le ((Link.take_total_le _ _).trans (Nat.succ_le_succ hten))
      rw [hx, State.actClaim_charges hheld (.inr hs), object (by omega)]
      exact congrArg Host.Outcome.next (State.chargeIdentity_isolates (s := objected) hs h64 ht htag hq hroom)
    · rw [hx, State.actClaim_closing hheld hs, State.sendRelease, State.offerUrgent_room _ _ (by exact hl)]
      rfl
    · rw [hx, State.actClaim_forward hheld hs]
      rfl
    · rw [hx, State.actClaim_claiming hheld hs, State.abandonClaim_barred (s := s.walked rest) id _ hs ht htag hl, Enrollment.bar_eq]
      rfl
  · have hx := exec_releaseCheck hw
    refine ⟨fun hn => ?_, fun h hhold => ⟨fun hs => ?_, fun hs => ?_, fun hc hf => ?_⟩⟩
    · rw [hx, State.actRelease_unheld (by exact hn)]; rfl
    · rw [hx, State.actRelease_closing (by exact hhold) (by exact hs)]; rfl
    · rw [hx, State.actRelease_forward (by exact hhold) (by exact hs)]; rfl
    · rw [hx, State.actRelease_other (by exact hhold) (by exact hc) (by exact hf)]; rfl

end Sys2Proof.Machine
end

section
/-! SUPPORT. The ways to CLOSING (R5, R11, R60, R67, R107), the end of CLOSING in FORWARD (R15, R16), and the 48th record (R160). -/

namespace Sys2Proof.Machine

/-! ### An entry with a tag goes to CLOSING (R5) -/

/-- The tree of an entry that goes to CLOSING: the LASER-OFF kept for an ISOLATED one is gone, its g has left the pool, and its tag drains (R5, R8, R112). -/
def TreeLine.closed (x : TreeLine) (st : HomeState) (tag g : Nat) : TreeLine :=
  ({ (if st = .isolated then x.discardHeldLaserOff tag else x) with pool := x.pool - g } : TreeLine).drain tag

theorem TreeLine.closed_eq (x : TreeLine) (st : HomeState) (tag g : Nat) :
    x.closed st tag g =
      { x with
        tags := (x.setPlace tag .draining).tags
        pool := x.pool - g
        queue := x.queue ++ (if x.queue.length < 16 then [⟨.drop, tag, 0, false⟩] else [])
        held := (x.held.filter fun m =>
            (m.kind = .drop ∨ m.urgent = true ∨ m.tag ≠ tag) ∧ ¬ (st = .isolated ∧ m.kind = .laserOff ∧ m.tag = tag)) ++
          (if x.queue.length < 16 then [] else [⟨.drop, tag, 0, false⟩]) } := by
  have htags : ∀ y : TreeLine, y.tags = x.tags → (y.setPlace tag .draining).tags = (x.setPlace tag .draining).tags := fun y hy => by
    unfold TreeLine.setPlace
    split <;> simp only [hy]
  rw [TreeLine.closed, TreeLine.drain_eq]
  by_cases hi : st = .isolated
  · rw [htags _ (by rw [if_pos hi]; rfl)]
    simp only [hi, if_true, TreeLine.discardHeldLaserOff, List.filter_filter, CtlMsg.laserOffFor, true_and, Bool.decide_and, decide_not]
  · rw [htags _ (by rw [if_neg hi])]
    simp only [hi, if_false, false_and, not_false_eq_true, and_true]

/-- R5, R156: an entry with its pool's share and its tag goes to CLOSING. -/
theorem State.closeEntry_tagged {s : State} {h : HomeIndex} {t : Tree} {tag : Nat} (reason : LeaveReason) (fwd : Option Station)
    (hs : inPool (s.home h).state = true) (ht : (s.home h).tree = some t) (htag : (s.home h).tag = some tag) :
    s.closeEntry h reason fwd =
      { s with
        homes := s.homes.set h ((s.home h).toClosing reason fwd)
        trees := s.trees.set t.idx ((s.tree t).closed (s.home h).state tag (s.home h).g)
        emission := wokenWalk s.emission } := by
  have hleave : (s.leaveIsolated (s.home h)).leave (s.home h) = s.onTree t fun x => x.closed (s.home h).state tag (s.home h).g := by
    simp only [State.leave, State.leavePool, State.drainTag, State.leaveIsolated, ht, htag, hs, if_true, State.poolSub]
    by_cases hi : (s.home h).state = .isolated
    · simp only [hi, if_true, State.onTree_onTree]
      exact State.onTree_congr (by simp only [TreeLine.closed, if_true, Function.comp]; rfl)
    · simp only [hi, if_false, State.onTree_onTree]
      exact State.onTree_congr (by simp only [TreeLine.closed, hi, if_false, Function.comp])
  rw [State.closeEntry_eq, hleave, State.wakeWalk_eq]
  rfl

/-- What R5 gives an entry that goes to CLOSING, read off the homes and the trees it leaves. -/
theorem closedTo_of_tables {s s' : State} {h : HomeIndex} {t : Tree} {tag : Nat} {reason : LeaveReason} {fwd : Option Station}
    (hp : (s.tree t).place tag = some (.held h)) (hhomes : s'.homes = s.homes.set h ((s.home h).toClosing reason fwd))
    (htrees : s'.trees = s.trees.set t.idx ((s.tree t).closed (s.home h).state tag (s.home h).g)) : ClosedTo s s' h t tag reason fwd := by
  have hhome : ∀ k, s'.home k = if k = h then (s.home h).toClosing reason fwd else s.home k := fun k => by
    rw [State.home, hhomes]; exact s.setHome_home h k _
  have htree : ∀ u, s'.tree u = if u = t then (s.tree t).closed (s.home h).state tag (s.home h).g else s.tree u := fun u => by
    rw [State.tree, htrees]; exact s.setTree_tree t u _
  have hself := (htree t).trans (if_pos rfl)
  rw [TreeLine.closed_eq] at hself
  refine ⟨(hhome h).trans (if_pos rfl), fun k => ?_, ?_, ?_, ?_, fun k hk => (hhome k).trans (if_neg hk), fun u hu => (htree u).trans (if_neg hu)⟩
  · rw [hself]
    refine ((s.tree t).setPlace_place tag k .draining).trans ?_
    split
    · rename_i e; rw [e, hp]; rfl
    · rfl
  · rw [hself]
  · rw [hself]
  · rw [hself]

theorem State.retire_closes {s : State} {h : HomeIndex} (hs : inService (s.home h).state = true ∨ (s.home h).state = .isolated) :
    s.retire h = (s.closeEntry h .management none).accept := by
  rw [State.retire]
  obtain hi | hi := hs
  · cases hst : (s.home h).state with
    | soaking | online | lost => rfl
    | _ => exact absurd hi (by rw [hst]; decide)
  · rw [hi]

/-! ### Records enqueued (R159, R160) -/

/-- R159: a record short of the 48th joins the tail of the hold queue. -/
theorem State.enqueue_within {s : State} (r : Record) (hl : s.meter.hold.length < 47) :
    s.enqueue r =
      s.onMeter fun m => { m with hold := m.hold ++ [r], nextNumber := m.nextNumber + 1, enqueued := bump m.enqueued
                                  finals := if r.final then bump m.finals else m.finals } := by
  refine if_neg ?_
  simp only [State.onMeter, List.length_append, List.length_singleton]
  omega

/-- R160: the 48th record raises the hold-full counter and sends HOLD_FULL. -/
theorem State.enqueue_fills {s : State} {first : Record} {rest : List Record} (r : Record) (hh : s.meter.hold = first :: rest)
    (hl : s.meter.hold.length = 47) :
    s.enqueue r =
      (s.onMeter fun m => { m with hold := m.hold ++ [r], nextNumber := m.nextNumber + 1, enqueued := bump m.enqueued
                                   finals := if r.final then bump m.finals else m.finals, holdFulls := bump m.holdFulls }).offerHoldFull
        48 first.number r.number := by
  have hfull : (s.meter.hold ++ [r]).length = 48 := by rw [List.length_append, hl]; rfl
  have hhead : ((s.meter.hold ++ [r]).head?.map Record.number).getD 0 = first.number := by rw [hh]; rfl
  refine (if_pos hfull).trans ?_
  exact congrArg (fun n => State.offerHoldFull _ 48 n r.number) hhead

/-! ### The end of CLOSING (R15, R16) -/

/-- R15: with fewer than 16 in the forward list the entry joins its tail. -/
theorem State.endClosing_forward {s : State} {h : HomeIndex} {st : Station} (hf : (s.home h).forwardTo = some st) (hl : s.forwardList.length < 16) :
    s.endClosing h = { s with homes := s.homes.set h ((s.home h).toForward st), forwardList := s.forwardList ++ [h] } := by
  have hroom : s.makeForwardRoom = s := by
    unfold State.makeForwardRoom
    split
    · exact if_neg (Nat.not_le.2 hl)
    · rfl
  simp only [State.endClosing, hf, hroom]
  rfl

/-- R16: with 16 in the forward list the entry longest there is freed first. -/
theorem State.endClosing_displaces {s : State} {h k : HomeIndex} {rest : List HomeIndex} {st : Station} (hf : (s.home h).forwardTo = some st)
    (hlist : s.forwardList = k :: rest) (hl : 16 ≤ s.forwardList.length) (hk : (s.home k).state = .forward) (htag : (s.home k).tag = none) :
    s.endClosing h =
      { s with homes := (s.homes.set k Home.free).set h ((s.home h).toForward st), forwardList := (rest.filter fun i => i ≠ k) ++ [h] } := by
  have hroom : s.makeForwardRoom = { s with homes := s.homes.set k Home.free, forwardList := rest.filter fun i => i ≠ k } := by
    have hfree := State.freeEntry_unpooled (s := s) (h := k) (by rw [hk]; rfl) htag
    have hfilter : (s.forwardList.filter fun i => i ≠ k) = rest.filter fun i => i ≠ k := by rw [hlist]; simp
    unfold State.makeForwardRoom
    rw [hfilter] at hfree
    simp only [hlist] at hl ⊢
    exact (if_pos hl).trans hfree
  simp only [State.endClosing, hf, hroom]
  rfl

/-! ### EMISSION_WALK -/

section Walk

variable {s : State} {h : HomeIndex}

/-- R156, R157: the walk at an entry with a record to give, and room for it in the hold queue. -/
theorem exec_emissionWalk_record (hw : s.emission.state = .walking) (hp : s.emission.pointer = h)
    (hx : (s.home h).closedWaiting = true ∨ (s.home h).state = .closing) (hl : s.meter.hold.length < 48) :
    exec .emissionWalk s =
      .next (if (s.home h).closedWaiting then State.emitOrdinary { s with emission := { s.emission with passes := 0 }, out := [] } h
        else State.emitFinal { s with emission := { s.emission with passes := 0 }, out := [] } h) := by
  subst hp
  have hb : ((s.home s.emission.pointer).closedWaiting || decide ((s.home s.emission.pointer).state = .closing)) = true := by
    simpa using hx
  exact congrArg Host.Outcome.next ((if_pos hw).trans ((if_pos hb).trans (if_pos hl)))

end Walk

/-- Settles O29: the three commands close the entry alike; the walk's FINAL record leads to FORWARD, and its 48th record sends HOLD_FULL. -/
theorem waysToClosing : Obligations.WaysToClosing := by
  refine ⟨fun s c h t tag hc ht htag hp => ⟨fun hs htime => ?_, fun rx num args ha hroom harg hs => ?_,
    fun claimant index id start count rest hw hhold hs hl => ?_⟩, fun s h hw hp => ⟨fun st hn hs hf hl => ?_, fun r rest hcw hhold hl hfull => ?_⟩⟩
  · have hx : exec (.lostTimeout h) s = .next (s.begin.closeEntry h .lostTimeout none) := by
      refine congrArg Host.Outcome.next ?_
      simp only [State.begin_config, hc]
      exact if_pos ⟨hs, htime⟩
    refine ⟨_, hx.trans (congrArg Host.Outcome.next (State.closeEntry_tagged (s := s.begin) _ _ (by rw [State.begin_home, hs]; rfl) ht htag)), ?_, rfl⟩
    exact closedTo_of_tables hp rfl rfl
  · have hin : inPool (s.home h).state = true := hs.elim (fun hi => inPool_of_enrolled (enrolled_of_inService hi)) fun hi => by rw [hi]; rfl
    have hf : s.heard.ranged (homeArg args) s.heard.retire = (s.heard.closeEntry h .management none).accept :=
      (State.ranged_some _ harg).trans (State.retire_closes hs)
    rw [State.closeEntry_tagged (s := s.heard) _ _ hin ht htag] at hf
    refine ⟨_, congrArg Host.Outcome.next (State.request_taken ha hroom hf rfl rfl rfl), ?_, rfl⟩
    exact closedTo_of_tables hp rfl rfl
  · have hx : exec .claimCheckComplete s = .next (((s.walked rest).closeEntry h .moved (some claimant)).sendRelease claimant id index) :=
      (exec_claimCheck hw).trans (congrArg Host.Outcome.next (State.actClaim_lost hhold hs))
    rw [State.closeEntry_tagged (s := s.walked rest) _ _ (by rw [State.walked_home, hs]; rfl) ht htag, State.sendRelease,
      State.offerUrgent_room _ _ (by exact hl)] at hx
    exact ⟨_, hx, closedTo_of_tables hp rfl rfl, rfl⟩
  · intro final forward
    rw [exec_emissionWalk_record hw hp (.inr hs) (by omega), if_neg (by rw [hn]; decide), State.emitFinal, State.enqueue_within _ (by exact hl)]
    refine ⟨fun hlist => ?_, fun k rest hlist hlen hne hk htag => ?_⟩
    · exact congrArg Host.Outcome.next (State.endClosing_forward (s := final) hf hlist)
    · exact congrArg Host.Outcome.next (State.endClosing_displaces (s := final) hf hlist hlen hk htag)
  · intro last full
    rw [exec_emissionWalk_record hw hp (.inl hcw) (by omega), if_pos hcw, State.emitOrdinary, State.enqueue_fills _ (by exact hhold) (by exact hl),
      State.offerHoldFull_unheld _ _ _ (by exact hfull)]
    refine ⟨fun hroom => ?_, fun hroom => ?_⟩
    · rw [if_pos (by exact hroom), ← hfull]
      rfl
    · rw [if_neg (by exact fun e => Bool.false_ne_true (hroom.symm.trans e))]
      rfl

end Sys2Proof.Machine
end

section
/-! SUPPORT. The map point (R44, R70 to R81): the zone decided, the service order, the windows fitted and laid, the rotation pointer, and what a pass over the trees builds. -/

namespace Sys2Proof.Machine

/-! ### The zone (R44, Table 3-2) -/

section Zone

variable {s : State} {c : Config} {t : Tree}

/-- An entry that is to be measured on a tree (R44). -/
def Home.sampling (x : Home) (t : Tree) : Prop := x.state = .measuring ∧ x.tree = some t ∧ x.phase = some .sampling

theorem Home.sampling_iff (x : Home) (t : Tree) :
    (x.standsOn .measuring t && decide (x.phase = some .sampling)) = true ↔ x.sampling t := by
  simp [Home.standsOn, Home.sampling, and_assoc]

theorem State.measureCandidate_lowest {h : HomeIndex} {tag : Nat} (hs : (s.home h).sampling t) (hlow : ∀ k, k < h → ¬ (s.home k).sampling t)
    (htag : (s.home h).tag = some tag) : s.measureCandidate t = some (h, tag) := by
  have hfind := find_homeIndexes (p := fun h => (s.home h).standsOn .measuring t && decide ((s.home h).phase = some .sampling)) (h := h)
  rw [State.measureCandidate, hfind.2 ⟨(Home.sampling_iff _ t).2 hs, fun k hk => Bool.eq_false_iff.2 fun e => hlow k hk ((Home.sampling_iff _ t).1 e)⟩]
  simp [htag]

theorem State.measureCandidate_none (hn : ∀ h, ¬ (s.home h).sampling t) : s.measureCandidate t = none := by
  rw [State.measureCandidate, find_homeIndexes_none.2 fun k => Bool.eq_false_iff.2 fun e => hn k ((Home.sampling_iff _ t).1 e)]
  rfl

theorem State.decideZone_searching (hr : (s.tree t).search.running = true) : s.decideZone c t = none := if_pos hr

theorem State.decideZone_overdue (hr : (s.tree t).search.running = false) (hd : c.discovery + 4 ≤ (s.tree t).discovery) :
    s.decideZone c t = some ⟨.discover, zoneLength c t⟩ := (if_neg (Bool.eq_false_iff.1 hr)).trans (if_pos hd)

theorem State.decideZone_measure {h : HomeIndex} {tag : Nat} (hr : (s.tree t).search.running = false) (hd : (s.tree t).discovery < c.discovery + 4)
    (hm : s.measureCandidate t = some (h, tag)) : s.decideZone c t = some ⟨.measure h tag, zoneLength c t⟩ := by
  rw [State.decideZone, if_neg (Bool.eq_false_iff.1 hr), if_neg (Nat.not_le.2 hd), hm]

theorem State.decideZone_unmeasured (hr : (s.tree t).search.running = false) (hd : (s.tree t).discovery < c.discovery + 4)
    (hm : s.measureCandidate t = none) :
    s.decideZone c t = if c.discovery ≤ (s.tree t).discovery then some ⟨.discover, zoneLength c t⟩ else none := by
  rw [State.decideZone, if_neg (Bool.eq_false_iff.1 hr), if_neg (Nat.not_le.2 hd), hm]

/-- The blocks a zone takes: the tree's zone length, whatever the zone is for (R44, R72). -/
theorem State.decideZone_blocks (s : State) (c : Config) (t : Tree) :
    (s.decideZone c t).elim 0 Zone.length = if (s.decideZone c t).isSome then zoneLength c t else 0 := by
  unfold State.decideZone
  dsimp only
  (repeat' split) <;> simp_all

theorem roomOf_eq (quiet : Bool) (zone : Option Zone) : roomOf quiet zone = 2000 - (if quiet then 8 else 0) - zone.elim 0 Zone.length := by
  cases zone <;> rfl

end Zone

/-! ### The service order (R71, R73, R75) -/

theorem Home.eligible_iff (x : Home) (t : Tree) : x.eligible t = true ↔ inService x.state = true ∧ x.tree = some t ∧ x.silence = .none := by
  simp [Home.eligible, Home.servedOn, and_assoc]

theorem Home.needsWindow_iff {x : Home} (h : HomeIndex) (round : BitVec 32) (hs : inService x.state = true) :
    x.needsWindow h round = true ↔ (x.state = .online → 0 < x.demand ∨ round.toNat % 8 = h.val % 8) := by
  cases hst : x.state with
  | soaking | online | lost => simp [Home.needsWindow, hst]
  | _ => rw [hst] at hs; cases hs

theorem homeIndexes_sorted : homeIndexes.Pairwise (· < ·) := List.pairwise_lt_finRange 128

/-- The homes of a tree that need a window in the next round, in increasing index (R73). -/
def State.needing (s : State) (t : Tree) : List HomeIndex := (s.eligibleOn t).filter fun h => (s.home h).needsWindow h s.nextRound

theorem State.mem_needing {s : State} {t : Tree} {h : HomeIndex} :
    h ∈ s.needing t ↔ (inService (s.home h).state = true ∧ (s.home h).tree = some t ∧ (s.home h).silence = .none) ∧
      ((s.home h).state = .online → 0 < (s.home h).demand ∨ s.nextRound.toNat % 8 = h.val % 8) := by
  rw [State.needing, List.mem_filter, State.eligibleOn, List.mem_filter, Home.eligible_iff]
  constructor
  · rintro ⟨⟨-, he⟩, hn⟩
    exact ⟨he, (Home.needsWindow_iff h _ he.1).1 hn⟩
  · rintro ⟨he, hn⟩
    exact ⟨⟨mem_homeIndexes h, he⟩, (Home.needsWindow_iff h _ he.1).2 hn⟩

theorem State.serviceOrder_eq (s : State) (t : Tree) :
    s.serviceOrder t =
      ((s.needing t).filter fun h => (s.home h).deferred) ++
        (((s.needing t).filter fun h => !(s.home h).deferred).filter fun h => decide ((s.tree t).rotation.val ≤ h.val)) ++
        (((s.needing t).filter fun h => !(s.home h).deferred).filter fun h => decide (h.val < (s.tree t).rotation.val)) := rfl

theorem State.mem_serviceOrder {s : State} {t : Tree} {h : HomeIndex} : h ∈ s.serviceOrder t ↔ h ∈ s.needing t := by
  rw [State.serviceOrder_eq]
  simp only [List.mem_append, List.mem_filter, Bool.not_eq_true', decide_eq_true_eq]
  cases (s.home h).deferred
  · have := Nat.lt_or_ge h.val (s.tree t).rotation.val
    tauto
  · simp

/-- One home before another in the service order: deferred homes first, in increasing index, the others from the rotation pointer, wrapping (R75). -/
def ServedBefore (deferred : HomeIndex → Bool) (pointer a b : HomeIndex) : Prop :=
  (deferred b = true → deferred a = true ∧ a < b) ∧
    (deferred a = false → (pointer ≤ a ∧ pointer ≤ b ∧ a < b) ∨ (pointer ≤ a ∧ b < pointer) ∨ (a < pointer ∧ b < pointer ∧ a < b))

theorem ServedBefore.ne {deferred : HomeIndex → Bool} {pointer a b : HomeIndex} (h : ServedBefore deferred pointer a b) : a ≠ b := by
  rintro rfl
  obtain ⟨hd, ho⟩ := h
  cases ha : deferred a with
  | true => exact lt_irrefl a (hd ha).2
  | false =>
    obtain ⟨-, -, hlt⟩ | ⟨hle, hlt⟩ | ⟨-, -, hlt⟩ := ho ha
    · exact lt_irrefl a hlt
    · exact not_lt_of_ge hle hlt
    · exact lt_irrefl a hlt

theorem pairwise_servedBefore {needing : List HomeIndex} (hn : needing.Pairwise (· < ·)) (deferred : HomeIndex → Bool) (pointer : HomeIndex) :
    ((needing.filter fun h => deferred h) ++ ((needing.filter fun h => !deferred h).filter fun h => decide (pointer.val ≤ h.val)) ++
      ((needing.filter fun h => !deferred h).filter fun h => decide (h.val < pointer.val))).Pairwise (ServedBefore deferred pointer) := by
  have other : ∀ {a b : HomeIndex}, deferred b = false → (deferred b = true → deferred a = true ∧ a < b) := fun hb hb' => by rw [hb] at hb'; cases hb'
  refine List.pairwise_append.2 ⟨List.pairwise_append.2 ⟨?_, ?_, fun a ha b hb => ?_⟩, ?_, fun a ha b hb => ?_⟩
  · refine (hn.filter _).imp_of_mem fun {a b} ha hb hab => ?_
    have hda : deferred a = true := (List.mem_filter.1 ha).2
    exact ⟨fun _ => ⟨hda, hab⟩, fun hf => by rw [hda] at hf; cases hf⟩
  · refine ((hn.filter _).filter _).imp_of_mem fun {a b} ha hb hab => ?_
    simp only [List.mem_filter, Bool.not_eq_true', decide_eq_true_eq] at ha hb
    exact ⟨other hb.1.2, fun _ => .inl ⟨ha.2, hb.2, hab⟩⟩
  · simp only [List.mem_filter, Bool.not_eq_true', decide_eq_true_eq] at ha hb
    exact ⟨other hb.1.2, fun hf => by rw [ha.2] at hf; cases hf⟩
  · refine ((hn.filter _).filter _).imp_of_mem fun {a b} ha hb hab => ?_
    simp only [List.mem_filter, Bool.not_eq_true', decide_eq_true_eq] at ha hb
    exact ⟨other hb.1.2, fun _ => .inr (.inr ⟨ha.2, hb.2, hab⟩)⟩
  · simp only [List.mem_append, List.mem_filter, Bool.not_eq_true', decide_eq_true_eq] at ha hb
    refine ⟨other hb.1.2, fun hf => ?_⟩
    obtain ⟨-, ha⟩ | ⟨-, ha⟩ := ha
    · rw [ha] at hf; cases hf
    · exact .inr (.inl ⟨ha, hb.2⟩)

theorem State.serviceOrder_pairwise (s : State) (t : Tree) :
    (s.serviceOrder t).Pairwise (ServedBefore (fun h => (s.home h).deferred) (s.tree t).rotation) :=
  pairwise_servedBefore ((homeIndexes_sorted.filter _).filter _) _ _

/-! ### The windows fitted (R76) -/

theorem fitWindows_append (cost : HomeIndex → Nat) (room : Nat) (hs : List HomeIndex) :
    (fitWindows cost room hs).1 ++ (fitWindows cost room hs).2 = hs := by
  induction hs generalizing room with
  | nil => rfl
  | cons h hs ih =>
    unfold fitWindows
    split
    · exact congrArg (h :: ·) (ih _)
    · rfl

theorem fitWindows_fits (cost : HomeIndex → Nat) (room : Nat) (hs : List HomeIndex) : ((fitWindows cost room hs).1.map cost).sum ≤ room := by
  induction hs generalizing room with
  | nil => exact Nat.zero_le _
  | cons h hs ih =>
    unfold fitWindows
    split
    · have := ih (room - cost h)
      simp only [List.map_cons, List.sum_cons]
      omega
    · exact Nat.zero_le _

/-- The first home that is deferred did not fit into what the others left. -/
theorem fitWindows_late {cost : HomeIndex → Nat} {room : Nat} {hs : List HomeIndex} {h : HomeIndex} {rest : List HomeIndex}
    (he : (fitWindows cost room hs).2 = h :: rest) : room < ((fitWindows cost room hs).1.map cost).sum + cost h := by
  induction hs generalizing room with
  | nil => cases he
  | cons k hs ih =>
    unfold fitWindows at he ⊢
    split at he
    · rename_i hk
      have := ih he
      simp only [hk, if_true, List.map_cons, List.sum_cons]
      omega
    · rename_i hk
      obtain ⟨rfl, -⟩ := List.cons.inj he
      simp only [hk, if_false, List.map_nil, List.sum_nil]
      omega

/-! ### The windows laid (R80, R81) -/

theorem giveLeftover_length (l : Nat) (xs : List (Nat × Nat)) : (giveLeftover l xs).length = xs.length := by
  induction xs generalizing l with
  | nil => cases l <;> rfl
  | cons x xs ih =>
    cases l with
    | zero => exact congrArg (· + 1) (ih 0)
    | succ l =>
      unfold giveLeftover
      split
      · exact congrArg (· + 1) (ih l)
      · exact congrArg (· + 1) (ih (l + 1))

theorem excessShares_length (pool x : Nat) (requests : List Nat) : (excessShares pool x requests).length = requests.length := by
  unfold excessShares
  split
  · rfl
  · simp [giveLeftover_length]

theorem layWindows_map_home (start : Nat) (xs : List (HomeIndex × Nat × Nat)) : (layWindows start xs).map Window.home = xs.map Prod.fst := by
  induction xs generalizing start with
  | nil => rfl
  | cons x xs ih => exact congrArg (x.1 :: ·) (ih _)

theorem layWindows_map_length (start : Nat) (xs : List (HomeIndex × Nat × Nat)) :
    (layWindows start xs).map Window.length = xs.map fun x => 3 + x.2.2 := by
  induction xs generalizing start with
  | nil => rfl
  | cons x xs ih => exact congrArg ((3 + x.2.2) :: ·) (ih _)

theorem mem_layWindows {start : Nat} {xs : List (HomeIndex × Nat × Nat)} {w : Window} (hw : w ∈ layWindows start xs) :
    ∃ x ∈ xs, w.home = x.1 ∧ w.tag = x.2.1 := by
  induction xs generalizing start with
  | nil => cases hw
  | cons x xs ih =>
    obtain rfl | hw := List.mem_cons.1 hw
    · exact ⟨x, List.mem_cons_self, rfl, rfl⟩
    · obtain ⟨y, hy, e⟩ := ih hw
      exact ⟨y, List.mem_cons_of_mem x hy, e⟩

theorem layWindows_head {start : Nat} {xs : List (HomeIndex × Nat × Nat)} {w : Window} (hw : (layWindows start xs).head? = some w) :
    w.start = start := by
  cases xs with
  | nil => cases hw
  | cons x xs => obtain rfl := Option.some.inj hw; rfl

/-- R81: each window begins where the one before it ends. -/
theorem layWindows_contiguous {start i : Nat} {xs : List (HomeIndex × Nat × Nat)} {v w : Window} (hv : (layWindows start xs)[i]? = some v)
    (hw : (layWindows start xs)[i + 1]? = some w) : w.start = v.start + v.length := by
  induction xs generalizing start i with
  | nil => cases hv
  | cons x xs ih =>
    cases i with
    | zero =>
      obtain rfl := Option.some.inj hv
      have hw' : (layWindows (start + 3 + x.2.2) xs).head? = some w := by rw [List.head?_eq_getElem?]; exact hw
      rw [layWindows_head hw', Nat.add_assoc]
    | succ i => exact ih hv hw

/-! ### The rotation pointer (R77) -/

section Pointer

variable {p : HomeIndex → Bool} {pointer h : HomeIndex}

theorem nextPointer_next (hp : p h = true) (hlt : pointer < h) (hmin : ∀ k, p k = true → pointer < k → h ≤ k) :
    nextPointer pointer (homeIndexes.filter p) = h := by
  have hfind : (homeIndexes.filter p).find? (fun k => decide (pointer.val < k.val)) = some h := by
    rw [List.find?_filter, find_homeIndexes]
    refine ⟨by simpa [hp] using hlt, fun k hk => ?_⟩
    have : p k = true → ¬ pointer < k := fun hpk hpt => not_lt_of_ge (hmin k hpk hpt) hk
    simpa using this
  rw [nextPointer, hfind]

theorem nextPointer_none (hn : ∀ k, p k = true → k ≤ pointer) :
    nextPointer pointer (homeIndexes.filter p) = ((homeIndexes.filter p).head?).getD pointer := by
  have hfind : (homeIndexes.filter p).find? (fun k => decide (pointer.val < k.val)) = none := by
    rw [List.find?_filter, find_homeIndexes_none]
    simpa using hn
  rw [nextPointer, hfind, List.headD_eq_head?_getD]

theorem nextPointer_wraps (hp : p h = true) (hall : ∀ k, p k = true → k ≤ pointer ∧ h ≤ k) : nextPointer pointer (homeIndexes.filter p) = h := by
  have hlow : homeIndexes.find? p = some h :=
    find_homeIndexes.2 ⟨hp, fun k hk => Bool.eq_false_iff.2 fun e => not_lt_of_ge (hall k e).2 hk⟩
  rw [nextPointer_none fun k hk => (hall k hk).1, List.head?_filter, hlow]
  rfl

theorem nextPointer_stays (hn : ∀ k, p k = false) : nextPointer pointer (homeIndexes.filter p) = pointer := by
  rw [nextPointer_none fun k hk => absurd hk (by rw [hn k]; decide), List.head?_filter, find_homeIndexes_none.2 hn]
  rfl

end Pointer

end Sys2Proof.Machine
end

section
/-! SUPPORT. One tree's build at the map point, and the map point as a pass over the RUNNING trees that builds each from the entries as they stood (R70 to R81, R86). -/

namespace Sys2Proof.Machine

/-! ### One tree's build -/

/-- The excess pool P_t of a tree (R79). -/
def Stage1.pool (st : Stage1) (e xAll : Nat) : Nat := min st.left (splitAllowance e xAll st.x)

/-- The home, the tag and the payload of each window that a build lays, in service order (R80, R81). -/
def State.fills (s : State) (st : Stage1) (e xAll : Nat) : List (HomeIndex × Nat × Nat) :=
  (st.placed.zip (excessShares (st.pool e xAll) st.x (st.placed.map fun h => (s.home h).excess))).map fun p =>
    (p.1, (s.home p.1).tag.getD 0, (s.home p.1).stage1 + p.2)

/-- The tree as its build leaves it (R77, R79 to R81, R85). -/
def State.built (s : State) (t : Tree) (st : Stage1) (e xAll : Nat) : TreeLine :=
  { s.tree t with
    shadow := ⟨layWindows (st.zone.elim 0 Zone.length) (s.fills st e xAll), st.zone, st.quiet⟩
    rotation := st.pointer
    lastBuild := ⟨st.x, splitAllowance e xAll st.x, st.pool e xAll, st.placed.length, st.deferred.length⟩
    deferredHomes := min 65535 ((s.tree t).deferredHomes + st.deferred.length)
    searchSinceMap := false }

section Build

variable (s : State) (t : Tree) (st : Stage1) (e xAll : Nat)

theorem State.finishBuild_tree : (s.finishBuild t st e xAll).tree t = s.built t st e xAll := by
  unfold State.finishBuild State.built
  rw [State.mapHomes_tree, State.onTree_tree, if_pos rfl]
  cases st.zone <;> rfl

theorem State.finishBuild_tree_off {u : Tree} (hu : u ≠ t) : (s.finishBuild t st e xAll).tree u = s.tree u := by
  unfold State.finishBuild
  rw [State.mapHomes_tree, State.onTree_tree, if_neg hu]

theorem State.finishBuild_home (h : HomeIndex) : (s.finishBuild t st e xAll).home h = (s.home h).afterBuild t (st.deferred.contains h) := by
  unfold State.finishBuild
  rw [State.mapHomes_home, State.onTree_home]

theorem State.fills_map_home : (s.fills st e xAll).map Prod.fst = st.placed := by
  have hlen : st.placed.length ≤ (excessShares (st.pool e xAll) st.x (st.placed.map fun h => (s.home h).excess)).length := by
    rw [excessShares_length, List.length_map]
  rw [State.fills, List.map_map]
  exact List.map_fst_zip hlen

theorem State.fills_map_payload :
    (s.fills st e xAll).map (fun x => 3 + x.2.2) =
      List.zipWith (fun h excess => 3 + (s.home h).stage1 + excess) st.placed
        (excessShares (st.pool e xAll) st.x (st.placed.map fun h => (s.home h).excess)) := by
  rw [State.fills, List.map_map, ← List.map_uncurry_zip_eq_zipWith]
  exact List.map_congr_left fun p _ => (Nat.add_assoc 3 _ p.2).symm

end Build

/-! ### Entries that differ in their deferred marks alone -/

/-- The entries of the two states are the same but for their deferred marks. -/
def State.MarksOnly (s s' : State) : Prop := ∀ h, s'.home h = { s.home h with deferred := (s'.home h).deferred }

theorem State.MarksOnly.refl (s : State) : s.MarksOnly s := fun _ => rfl

theorem State.MarksOnly.finishBuild {s s' : State} (m : s.MarksOnly s') (t : Tree) (st : Stage1) (e xAll : Nat) :
    s.MarksOnly (s'.finishBuild t st e xAll) := fun h => by
  rw [State.finishBuild_home, Home.afterBuild_frame, m h]

/-- A build reads no deferred mark. -/
theorem State.MarksOnly.built {s s' : State} (m : s.MarksOnly s') {t : Tree} (ht : s'.tree t = s.tree t) (st : Stage1) (e xAll : Nat) :
    s'.built t st e xAll = s.built t st e xAll := by
  have hexcess : ∀ h, (s'.home h).excess = (s.home h).excess := fun h => by rw [m h]; rfl
  have hstage : ∀ h, (s'.home h).stage1 = (s.home h).stage1 := fun h => by rw [m h]; rfl
  have htag : ∀ h, (s'.home h).tag = (s.home h).tag := fun h => by rw [m h]
  simp only [State.built, State.fills, hexcess, hstage, htag, ht]

/-! ### The pass over the trees -/

/-- X_all: what the homes placed on the RUNNING trees ask beyond stage 1 (R79). -/
def State.requested (s : State) (c : Config) : Nat := (s.runningTrees.map fun t => (s.stage1 c t).x).sum

theorem State.mapPoint_run {s : State} {c : Config} (hc : s.config = some c) :
    s.mapPoint =
      let s' := Tree.all.foldl (fun acc u => if (s.tree u).running then acc.finishBuild u (s.stage1 c u) s.share.e (s.requested c) else acc)
        { s with eUsed := s.share.e, clock := { s.clock with mapPassed := true } }
      { s' with demandSum := s'.demandSum + s.requested c } := by
  have hx : ((s.runningTrees.map fun t => (t, s.stage1 c t)).map fun b => b.2.x).sum = s.requested c := by rw [List.map_map]; rfl
  unfold State.mapPoint
  simp only [hc]
  rw [← hx, ← List.foldl_filter, ← List.foldl_map (f := fun u => (u, s.stage1 c u))
    (g := fun acc b => State.finishBuild acc b.1 b.2 s.share.e ((s.runningTrees.map fun t => (t, s.stage1 c t)).map fun b => b.2.x).sum)]
  rfl

/-- What the map point builds for a RUNNING tree: its map and figures, X_all in the demand sum, and the deferred marks of its entries (R70). -/
theorem State.mapPoint_builds {s : State} {c : Config} {t : Tree} (hc : s.config = some c) (hr : (s.tree t).running = true) :
    s.mapPoint.tree t = s.built t (s.stage1 c t) s.share.e (s.requested c) ∧ s.mapPoint.demandSum = s.demandSum + s.requested c ∧
      ∀ h, (s.home h).tree = some t → (s.mapPoint.home h).deferred = (s.stage1 c t).deferred.contains h := by
  rw [State.mapPoint_run hc]
  have pass := foldl_trees (f := fun acc u => if (s.tree u).running then acc.finishBuild u (s.stage1 c u) s.share.e (s.requested c) else acc)
    (A := fun v => s.MarksOnly v ∧ v.demandSum = s.demandSum ∧ v.tree t = s.tree t)
    (B := fun v => s.MarksOnly v ∧ v.demandSum = s.demandSum ∧ v.tree t = s.built t (s.stage1 c t) s.share.e (s.requested c) ∧
      ∀ h, (s.home h).tree = some t → (v.home h).deferred = (s.stage1 c t).deferred.contains h) t
    (fun v u hu ⟨hm, hd, ht⟩ => ?_) (fun v ⟨hm, hd, ht⟩ => ?_) (fun v u hu ⟨hm, hd, ht, hh⟩ => ?_)
    (s := { s with eUsed := s.share.e, clock := { s.clock with mapPassed := true } }) ⟨.refl s, rfl, rfl⟩
  · exact ⟨pass.2.2.1, congrArg (· + s.requested c) pass.2.1, pass.2.2.2⟩
  · split
    · exact ⟨hm.finishBuild u _ _ _, hd, (v.finishBuild_tree_off u _ _ _ (Ne.symm hu)).trans ht⟩
    · exact ⟨hm, hd, ht⟩
  · rw [if_pos hr]
    refine ⟨hm.finishBuild t _ _ _, hd, (v.finishBuild_tree t _ _ _).trans (hm.built ht _ _ _), fun h hh => ?_⟩
    have htree : (v.home h).tree = some t := by rw [hm h]; exact hh
    rw [State.finishBuild_home, Home.afterBuild, if_pos htree]
  · split
    · refine ⟨hm.finishBuild u _ _ _, hd, (v.finishBuild_tree_off u _ _ _ (Ne.symm hu)).trans ht, fun h hh' => ?_⟩
      have htree : (v.home h).tree ≠ some u := by rw [hm h]; exact fun e => hu (Option.some.inj (e.symm.trans hh'))
      rw [State.finishBuild_home, Home.afterBuild, if_neg htree]
      exact hh h hh'
    · exact ⟨hm, hd, ht, hh⟩

/-! ### Stage 1 of a tree (R71 to R78) -/

section Stage1

variable (s : State) (c : Config) (t : Tree)

theorem State.stage1_order : (s.stage1 c t).placed ++ (s.stage1 c t).deferred = s.serviceOrder t := fitWindows_append _ _ _

theorem State.stage1_room :
    roomOf (s.stage1 c t).quiet (s.stage1 c t).zone =
      2000 - (if (s.stage1 c t).quiet then 8 else 0) - (if (s.stage1 c t).zone.isSome then 10 * c.spread.get t.idx + 8 else 0) :=
  (roomOf_eq _ _).trans (congrArg (2000 - (if (s.stage1 c t).quiet then 8 else 0) - ·) (s.decideZone_blocks c t))

theorem State.stage1_fits :
    ((s.stage1 c t).placed.map fun h => 3 + (s.home h).stage1).sum ≤ roomOf (s.stage1 c t).quiet (s.stage1 c t).zone := fitWindows_fits _ _ _

theorem State.stage1_late {h : HomeIndex} {rest : List HomeIndex} (hl : (s.stage1 c t).deferred = h :: rest) :
    roomOf (s.stage1 c t).quiet (s.stage1 c t).zone < ((s.stage1 c t).placed.map fun h => 3 + (s.home h).stage1).sum + (3 + (s.home h).stage1) :=
  fitWindows_late (cost := fun h => 3 + (s.home h).stage1) hl

theorem State.quietNext_iff : s.quietNext c t = true ↔ s.nextRound.toNat % c.quiet = 0 ∨ (s.tree t).search.running = true := by
  simp [State.quietNext]

end Stage1

/-- Settles O22: the tree is the one its build leaves, and each clause is a fact about the zone, the service order, the windows or the rotation pointer. -/
theorem mapPointBuilds : Obligations.MapPointBuilds := by
  intro s c t hc hm hr
  obtain ⟨htree, hsum, hmarks⟩ := State.mapPoint_builds (s := s.begin) hc hr
  have hx : exec .mapPoint s = .next s.begin.mapPoint := congrArg Host.Outcome.next (if_neg (by rw [State.begin_clock, hm]; decide))
  refine ⟨s.begin.mapPoint, (s.stage1 c t).deferred, hx, ?_⟩
  intro x map length next sampling eligible demand needs first asks placed room cost total all share pool
  have hmap : map = ⟨layWindows ((s.stage1 c t).zone.elim 0 Zone.length) (s.fills (s.stage1 c t) s.share.e (s.requested c)), (s.stage1 c t).zone,
      (s.stage1 c t).quiet⟩ := congrArg TreeLine.shadow htree
  have hplaced : placed = (s.stage1 c t).placed := by
    refine (congrArg (fun m : GrantMap => m.windows.map Window.home) hmap).trans ?_
    exact (layWindows_map_home _ _).trans (s.fills_map_home _ _ _)
  have hroom : room = roomOf (s.stage1 c t).quiet (s.stage1 c t).zone := by
    rw [s.stage1_room c t]
    simp only [room, hmap, length]
  have hcost : cost = ((s.stage1 c t).placed.map fun h => 3 + (s.home h).stage1).sum := congrArg (fun hs => (hs.map fun h => 3 + first h).sum) hplaced
  have htotal : total = (s.stage1 c t).x := congrArg (fun hs => (hs.map asks).sum) hplaced
  have hall : all = s.requested c := (congrArg (· - s.demandSum) hsum).trans (Nat.add_sub_cancel_left _ _)
  have hshare : share = splitAllowance s.share.e (s.requested c) (s.stage1 c t).x := by
    simp only [share, hall, htotal]
    rfl
  have hpool : pool = (s.stage1 c t).pool s.share.e (s.requested c) := by
    simp only [pool, hroom, hcost, hshare]
    rfl
  have heligible : ∀ k, (s.home k).eligible t = true ↔ eligible k := fun k => Home.eligible_iff _ t
  have hrotation : (s.begin.mapPoint.tree t).rotation = nextPointer x.rotation (homeIndexes.filter fun k => (s.home k).eligible t) :=
    congrArg TreeLine.rotation htree
  have horder : placed ++ (s.stage1 c t).deferred = s.serviceOrder t := by rw [hplaced, s.stage1_order]
  have hbefore := s.serviceOrder_pairwise t
  refine ⟨fun hs => ?_, fun hs => ⟨fun hd => ?_, fun hd => ⟨fun h tag hsam hlow htag => ?_, fun hn => ?_⟩⟩, ?_, fun h => ?_, ?_, ?_, ?_, fun h rest hl => ?_,
    fun h hh => ?_, fun w hw tag htag => ?_, ?_, fun w hw => ?_, fun i v w hv hw => ?_, fun h he hlt hmin => ?_, fun h he hlow => ?_, fun hn => ?_, ?_, ?_, ?_⟩
  · rw [hmap]; exact State.decideZone_searching hs
  · rw [hmap]; exact State.decideZone_overdue hs hd
  · rw [hmap]; exact State.decideZone_measure hs hd (State.measureCandidate_lowest hsam hlow htag)
  · rw [hmap]; exact State.decideZone_unmeasured hs hd (State.measureCandidate_none hn)
  · rw [hmap]; exact s.quietNext_iff c t
  · rw [horder, State.mem_serviceOrder]; exact State.mem_needing
  · rw [horder]; exact hbefore.imp ServedBefore.ne
  · rw [horder]; exact hbefore
  · rw [hcost, hroom]; exact s.stage1_fits c t
  · rw [hcost, hroom, Nat.add_assoc]; exact s.stage1_late c t hl
  · rw [hmarks h hh]; exact List.contains_iff_mem
  · rw [hmap] at hw
    obtain ⟨y, hy, hhome, hwtag⟩ := mem_layWindows hw
    obtain ⟨p, -, rfl⟩ := List.mem_map.1 hy
    rw [hhome] at htag
    rw [hwtag, htag]
    rfl
  · rw [hpool, htotal, hplaced, hmap, layWindows_map_length, State.fills_map_payload]
    rfl
  · rw [hmap] at hw ⊢
    exact (layWindows_head hw).trans (s.decideZone_blocks c t)
  · rw [hmap] at hv hw
    exact layWindows_contiguous hv hw
  · exact hrotation.trans (nextPointer_next ((heligible h).2 he) hlt fun k hk => hmin k ((heligible k).1 hk))
  · exact hrotation.trans (nextPointer_wraps ((heligible h).2 he) fun k hk => hlow k ((heligible k).1 hk))
  · exact hrotation.trans (nextPointer_stays fun k => Bool.eq_false_iff.2 fun hk => hn k ((heligible k).1 hk))
  · rw [htree, htotal, hshare, hpool, hplaced]
    rfl
  · rw [htree]; rfl
  · rw [htree]; rfl

end Sys2Proof.Machine
end

section
/-! SUPPORT. The excess sharing (R79, R80): the floors, the leftover blocks one each to the first homes below their request, and the tree's share of the allowance. -/

namespace Sys2Proof.Machine

/-! ### The leftover blocks (R80) -/

/-- A request and a share below it. -/
def belowRequest (p : Nat × Nat) : Bool := decide (p.2 < p.1)

theorem giveLeftover_sum (l : Nat) (xs : List (Nat × Nat)) : (giveLeftover l xs).sum = (xs.map Prod.snd).sum + min l (xs.countP belowRequest) := by
  induction xs generalizing l with
  | nil => simp [giveLeftover]
  | cons x xs ih =>
    cases l with
    | zero => simp [giveLeftover, ih]
    | succ l =>
      by_cases hx : x.2 < x.1
      · simp only [giveLeftover, hx, if_true, List.sum_cons, List.map_cons, ih, List.countP_cons, belowRequest, decide_true]
        omega
      · simp only [giveLeftover, hx, if_false, List.sum_cons, List.map_cons, ih, List.countP_cons, belowRequest, decide_false, Bool.false_eq_true]
        omega

/-- The block goes to a home below its request while fewer such homes than blocks stand before it. -/
theorem giveLeftover_get {l i : Nat} {xs : List (Nat × Nat)} {p : Nat × Nat} (hp : xs[i]? = some p) :
    (giveLeftover l xs)[i]? = some (p.2 + if p.2 < p.1 ∧ (xs.take i).countP belowRequest < l then 1 else 0) := by
  induction xs generalizing l i with
  | nil => cases hp
  | cons x xs ih =>
    cases i with
    | zero =>
      obtain rfl := Option.some.inj hp
      cases l with
      | zero => simp [giveLeftover]
      | succ l => by_cases hx : x.2 < x.1 <;> simp [giveLeftover, hx]
    | succ i =>
      cases l with
      | zero => simpa [giveLeftover] using ih (l := 0) hp
      | succ l =>
        by_cases hx : x.2 < x.1
        · simpa [giveLeftover, hx, belowRequest] using ih (l := l) hp
        · simpa [giveLeftover, hx, belowRequest] using ih (l := l + 1) hp

/-! ### The floors (R80) -/

section Floors

variable {p x : Nat}

theorem floor_le_request (hp : p < x) (e : Nat) : p * e / x ≤ e :=
  Nat.div_le_of_le_mul (Nat.mul_le_mul_right e hp.le)

/-- A home that asks for anything has a floor below its request. -/
theorem floor_lt_request (hp : p < x) {e : Nat} (he : 0 < e) : p * e / x < e :=
  Nat.div_lt_of_lt_mul (Nat.mul_lt_mul_of_pos_right hp he)

theorem sum_floors_le (p x : Nat) (requests : List Nat) : x * (requests.map fun e => p * e / x).sum ≤ p * requests.sum := by
  induction requests with
  | nil => simp
  | cons e requests ih =>
    have hfloor := Nat.mul_div_le (p * e) x
    simp only [List.map_cons, List.sum_cons, Nat.mul_add]
    omega

/-- The floors miss less than one block for each home that asks for anything. -/
theorem le_sum_floors (hp : p < x) (requests : List Nat) :
    p * requests.sum ≤ x * ((requests.map fun e => p * e / x).sum + requests.countP fun e => decide (p * e / x < e)) := by
  induction requests with
  | nil => simp
  | cons e requests ih =>
    have hstep : p * e ≤ x * (p * e / x + if p * e / x < e then 1 else 0) := by
      obtain rfl | he := Nat.eq_zero_or_pos e
      · simp
      · rw [if_pos (floor_lt_request hp he)]
        exact (Nat.lt_mul_div_succ (p * e) (Nat.zero_lt_of_lt hp)).le
    simp only [List.map_cons, List.sum_cons, List.countP_cons, decide_eq_true_eq, Nat.mul_add] at hstep ih ⊢
    omega

end Floors

/-! ### The shares (R80) -/

theorem excessShares_enough {p x : Nat} (h : x ≤ p) (requests : List Nat) : excessShares p x requests = requests := if_pos h

/-- The requests with their floors. -/
def withFloors (p x : Nat) (requests : List Nat) : List (Nat × Nat) := requests.map fun e => (e, p * e / x)

theorem excessShares_short {p x : Nat} (h : p < x) (requests : List Nat) :
    excessShares p x requests = giveLeftover (p - (requests.map fun e => p * e / x).sum) (withFloors p x requests) := by
  have hzip := List.zip_map' (f := id) (g := fun e => p * e / x) (l := requests)
  rw [List.map_id] at hzip
  rw [excessShares, if_neg (Nat.not_le.2 h)]
  exact congrArg (giveLeftover _) hzip

theorem withFloors_countP (p x : Nat) (requests : List Nat) :
    (withFloors p x requests).countP belowRequest = requests.countP fun e => decide (p * e / x < e) := List.countP_map ..

/-- With less than the requests in the pool the shares give out the whole pool. -/
theorem excessShares_sum_short {p : Nat} {requests : List Nat} (h : p < requests.sum) : (excessShares p requests.sum requests).sum = p := by
  have hpos : 0 < requests.sum := Nat.zero_lt_of_lt h
  have hfloors : (requests.map fun e => p * e / requests.sum).sum ≤ p :=
    Nat.le_of_mul_le_mul_left ((sum_floors_le p _ requests).trans_eq (Nat.mul_comm ..)) hpos
  have hreach : p ≤ (requests.map fun e => p * e / requests.sum).sum + requests.countP fun e => decide (p * e / requests.sum < e) :=
    Nat.le_of_mul_le_mul_left ((Nat.mul_comm ..).trans_le (le_sum_floors h requests)) hpos
  have hsnd : (withFloors p requests.sum requests).map Prod.snd = requests.map fun e => p * e / requests.sum := List.map_map
  rw [excessShares_short h, giveLeftover_sum, withFloors_countP, hsnd]
  omega

theorem excessShares_sum (p : Nat) (requests : List Nat) : (excessShares p requests.sum requests).sum = min p requests.sum := by
  obtain h | h := Nat.lt_or_ge p requests.sum
  · rw [excessShares_sum_short h, Nat.min_eq_left h.le]
  · rw [excessShares_enough h, Nat.min_eq_right h]

/-- Settles O20: the shares are the floors and the leftover blocks, which `giveLeftover` hands out one by one. -/
theorem excessSharing : Obligations.ExcessSharing := by
  rintro p _ requests rfl
  refine ⟨fun h => excessShares_enough h requests, fun h => ⟨excessShares_sum_short h, excessShares_length .., fun i e he => ?_⟩⟩
  have hpair : (withFloors p requests.sum requests)[i]? = some (e, p * e / requests.sum) := by rw [withFloors, List.getElem?_map, he]; rfl
  have hbefore : ((withFloors p requests.sum requests).take i).countP belowRequest =
      ((requests.take i).filter fun d => decide (p * d / requests.sum < d)).length := by
    rw [withFloors, ← List.map_take, ← withFloors, withFloors_countP, List.countP_eq_length_filter]
  refine ⟨_, (congrArg (·[i]?) (excessShares_short h requests)).trans (giveLeftover_get hpair), ?_, ?_⟩
  · dsimp only
    split
    · rename_i hlt; exact hlt.1
    · exact floor_le_request h e
  · rw [hbefore]

end Sys2Proof.Machine
end

section
/-! SUPPORT. What MAP_POINT leaves as it stands, and the excess payload that its builds give over the trees (R70, R79, R80, R86). -/

namespace Sys2Proof.Machine

/-! ### What the map point leaves as it stands -/

/-- The states agree but for the trees and the homes. -/
def State.TreesAndHomesOnly (s s' : State) : Prop := s' = { s with trees := s'.trees, homes := s'.homes }

theorem State.TreesAndHomesOnly.refl (s : State) : s.TreesAndHomesOnly s := rfl

theorem State.TreesAndHomesOnly.trans {a b c : State} (h : a.TreesAndHomesOnly b) (k : b.TreesAndHomesOnly c) : a.TreesAndHomesOnly c := by
  have hb : b = { a with trees := b.trees, homes := b.homes } := h
  exact Eq.trans k (by rw [hb])

theorem State.finishBuild_treesAndHomesOnly (s : State) (t : Tree) (st : Stage1) (e xAll : Nat) : s.TreesAndHomesOnly (s.finishBuild t st e xAll) := rfl

/-- The pass over the RUNNING trees, from the state in which E is taken and the map point is marked as past (R70, R86). -/
def State.mapPass (s : State) (c : Config) : State :=
  Tree.all.foldl (fun acc u => if (s.tree u).running then acc.finishBuild u (s.stage1 c u) s.share.e (s.requested c) else acc)
    { s with eUsed := s.share.e, clock := { s.clock with mapPassed := true } }

/-- What holds before the pass and every build of a RUNNING tree keeps. -/
theorem State.mapPass_keeps {s : State} {c : Config} {A : State → Prop} (h : A { s with eUsed := s.share.e, clock := { s.clock with mapPassed := true } })
    (hb : ∀ v u, (s.tree u).running = true → A v → A (v.finishBuild u (s.stage1 c u) s.share.e (s.requested c))) : A (s.mapPass c) := by
  refine foldl_keeps (fun v u hv => ?_) Tree.all h
  split
  · rename_i hr; exact hb v u hr hv
  · exact hv

section MapPoint

variable {s : State} {c : Config} (hc : s.config = some c)
include hc

theorem State.mapPoint_eq : s.mapPoint = { s.mapPass c with demandSum := (s.mapPass c).demandSum + s.requested c } := State.mapPoint_run hc

theorem State.mapPoint_frame :
    s.mapPoint = { s with
      eUsed := s.share.e, clock := { s.clock with mapPassed := true }, demandSum := s.demandSum + s.requested c
      trees := s.mapPoint.trees, homes := s.mapPoint.homes } := by
  have pass : State.TreesAndHomesOnly { s with eUsed := s.share.e, clock := { s.clock with mapPassed := true } } (s.mapPass c) :=
    State.mapPass_keeps (.refl _) fun v u _ hv => hv.trans (v.finishBuild_treesAndHomesOnly u _ _ _)
  rw [State.mapPoint_eq hc]
  exact congrArg (fun v : State => { v with demandSum := v.demandSum + s.requested c }) pass

theorem State.mapPoint_marksOnly : s.MarksOnly s.mapPoint := by
  rw [State.mapPoint_eq hc]
  exact State.mapPass_keeps (A := s.MarksOnly) (.refl s) fun v u _ hv => hv.finishBuild u _ _ _

/-- R70: no map is built for a STOPPED tree. -/
theorem State.mapPoint_stopped {t : Tree} (hr : (s.tree t).running = false) : s.mapPoint.tree t = s.tree t := by
  rw [State.mapPoint_eq hc]
  refine State.mapPass_keeps (c := c) (A := fun v : State => v.tree t = s.tree t) rfl fun v u hu hv => ?_
  have hne : t ≠ u := fun e => by rw [e, hu] at hr; cases hr
  exact (v.finishBuild_tree_off u _ _ _ hne).trans hv

theorem State.mapPoint_tree_frame (t : Tree) :
    s.mapPoint.tree t = { s.tree t with
      shadow := (s.mapPoint.tree t).shadow, rotation := (s.mapPoint.tree t).rotation, lastBuild := (s.mapPoint.tree t).lastBuild
      deferredHomes := (s.mapPoint.tree t).deferredHomes, searchSinceMap := (s.mapPoint.tree t).searchSinceMap } := by
  cases hr : (s.tree t).running
  · rw [State.mapPoint_stopped hc hr]
  · rw [(State.mapPoint_builds hc hr).1]; rfl

end MapPoint

/-! ### The split of the allowance (R79) -/

theorem sum_splitAllowance_le (e : Nat) (xs : List Nat) : (xs.map (splitAllowance e xs.sum)).sum ≤ e := by
  by_cases h : xs.sum ≤ e
  · have hall : xs.map (splitAllowance e xs.sum) = xs := (List.map_congr_left fun _ _ => if_pos h).trans (List.map_id' xs)
    rwa [hall]
  · have hsplit : xs.map (splitAllowance e xs.sum) = xs.map fun x => e * x / xs.sum := List.map_congr_left fun _ _ => if_neg h
    rw [hsplit]
    exact Nat.le_of_mul_le_mul_left ((sum_floors_le e _ xs).trans_eq (Nat.mul_comm ..)) (by omega)

/-! ### The excess of a build's windows (R80) -/

theorem layWindows_map_excess (stage1 : HomeIndex → Nat) (start : Nat) (xs : List (HomeIndex × Nat × Nat)) :
    (layWindows start xs).map (fun w => w.payload - stage1 w.home) = xs.map fun x => x.2.2 - stage1 x.1 := by
  induction xs generalizing start with
  | nil => rfl
  | cons x xs ih =>
    have hpayload : 3 + x.2.2 - 3 - stage1 x.1 = x.2.2 - stage1 x.1 := by rw [Nat.add_sub_cancel_left]
    exact congrArg₂ List.cons hpayload (ih _)

/-- The excess shares of a tree's placed homes (R80). -/
def State.shares (s : State) (st : Stage1) (e xAll : Nat) : List Nat :=
  excessShares (st.pool e xAll) st.x (st.placed.map fun h => (s.home h).excess)

theorem State.built_excess (s : State) (t : Tree) (st : Stage1) (e xAll : Nat) :
    (s.built t st e xAll).shadow.windows.map (fun w => w.payload - (s.home w.home).stage1) = s.shares st e xAll := by
  have hlen : (s.shares st e xAll).length ≤ st.placed.length := by rw [State.shares, excessShares_length, List.length_map]
  refine (layWindows_map_excess (fun h => (s.home h).stage1) _ _).trans ?_
  rw [State.fills, ← State.shares, List.map_map]
  exact (List.map_congr_left fun p _ => Nat.add_sub_cancel_left (s.home p.1).stage1 p.2).trans (List.map_snd_zip hlen)

theorem State.shares_sum_le_pool (s : State) (c : Config) (t : Tree) (e xAll : Nat) :
    (s.shares (s.stage1 c t) e xAll).sum ≤ (s.stage1 c t).pool e xAll :=
  (excessShares_sum _ _).trans_le (Nat.min_le_left ..)

/-- Settles O21: what the builds give over the trees is within their shares of the allowance, and these sum to at most E. -/
theorem excessWithinTheAllowance : Obligations.ExcessWithinTheAllowance := by
  intro s c hc hm
  have hx : exec .mapPoint s = .next s.begin.mapPoint := congrArg Host.Outcome.next (if_neg (by rw [State.begin_clock, hm]; decide))
  have hb : s.begin.config = some c := hc
  have hframe := State.mapPoint_frame hb
  refine ⟨s.begin.mapPoint, hx, congrArg State.eUsed hframe, congrArg State.clock hframe, congrArg State.demandSum hframe, ?_,
    fun t hr => State.mapPoint_stopped hb hr, State.mapPoint_tree_frame hb, State.mapPoint_marksOnly hb, ?_⟩
  · have htree : ∀ t ∈ s.runningTrees, ((s.begin.mapPoint.tree t).shadow.windows.map fun w => w.payload - (s.home w.home).stage1).sum ≤
        splitAllowance s.share.e (s.requested c) (s.stage1 c t).x := fun t ht => by
      have hr : (s.begin.tree t).running = true := (List.mem_filter.1 ht).2
      rw [(State.mapPoint_builds hb hr).1]
      refine (congrArg List.sum (s.begin.built_excess t _ _ _)).trans_le ?_
      exact (s.begin.shares_sum_le_pool c t _ _).trans (Nat.min_le_right ..)
    refine (List.sum_le_sum htree).trans ?_
    have hsplit := sum_splitAllowance_le s.share.e (s.runningTrees.map fun t => (s.stage1 c t).x)
    rwa [List.map_map] at hsplit
  · rw [hframe]; rfl

end Sys2Proof.Machine
end

section
/-! SUPPORT. Sound maps (R81): the windows that a build lays, the windows that survive a swap, and the commands that change a map or the configuration. -/

namespace Sys2Proof.Machine

/-! ### The windows laid (R81) -/

/-- The blocks that laid windows take. -/
def laidBlocks (xs : List (HomeIndex × Nat × Nat)) : Nat := (xs.map fun x => 3 + x.2.2).sum

theorem layWindows_within {start : Nat} {xs : List (HomeIndex × Nat × Nat)} {w : Window} (hw : w ∈ layWindows start xs) :
    3 ≤ w.length ∧ start ≤ w.start ∧ w.start + w.length ≤ start + laidBlocks xs := by
  induction xs generalizing start with
  | nil => cases hw
  | cons x xs ih =>
    obtain ⟨home, tag, payload⟩ := x
    have hblocks : laidBlocks ((home, tag, payload) :: xs) = 3 + payload + laidBlocks xs := List.sum_cons
    obtain rfl | hw := List.mem_cons.1 hw
    · dsimp only
      omega
    · obtain ⟨hlen, hstart, hend⟩ := ih hw
      omega

theorem layWindows_disjoint (start : Nat) (xs : List (HomeIndex × Nat × Nat)) :
    (layWindows start xs).Pairwise fun a b => a.start + a.length ≤ b.start := by
  induction xs generalizing start with
  | nil => exact .nil
  | cons x xs ih =>
    obtain ⟨home, tag, payload⟩ := x
    refine List.pairwise_cons.2 ⟨fun w hw => ?_, ih _⟩
    obtain ⟨-, hstart, -⟩ := layWindows_within hw
    dsimp only
    omega

/-- Windows laid from a zone's end that fit into the room the zone and the quiet window leave make a sound map. -/
theorem layWindows_sound {zone : Option Zone} {quiet : Bool} {xs : List (HomeIndex × Nat × Nat)} (hzone : zone.elim 0 Zone.length ≤ 1992)
    (hfit : laidBlocks xs ≤ roomOf quiet zone) : (⟨layWindows (zone.elim 0 Zone.length) xs, zone, quiet⟩ : GrantMap).sound := by
  refine ⟨fun w hw => ?_, layWindows_disjoint _ _⟩
  obtain ⟨hlen, hstart, hend⟩ := layWindows_within hw
  have hlimit : zone.elim 0 Zone.length + roomOf quiet zone = GrantMap.limit ⟨layWindows (zone.elim 0 Zone.length) xs, zone, quiet⟩ := by
    rw [roomOf_eq]
    cases quiet <;> simp only [GrantMap.limit, Bool.false_eq_true, if_true, if_false] <;> omega
  refine ⟨hlen, by omega, fun z hz => ?_⟩
  have hz' : zone = some z := hz
  rw [hz'] at hstart
  exact hstart

/-- The stage-1 windows and the excess shares of a build fit into its room (R76, R79, R80). -/
theorem State.fills_fit (s : State) (c : Config) (t : Tree) (e xAll : Nat) :
    laidBlocks (s.fills (s.stage1 c t) e xAll) ≤ roomOf (s.stage1 c t).quiet (s.stage1 c t).zone := by
  have hlen : (s.shares (s.stage1 c t) e xAll).length = (s.stage1 c t).placed.length := by rw [State.shares, excessShares_length, List.length_map]
  have hblocks : laidBlocks (s.fills (s.stage1 c t) e xAll) =
      ((s.stage1 c t).placed.map fun h => 3 + (s.home h).stage1).sum + (s.shares (s.stage1 c t) e xAll).sum := by
    have hpairs : (s.fills (s.stage1 c t) e xAll).map (fun x => 3 + x.2.2) =
        ((s.stage1 c t).placed.zip (s.shares (s.stage1 c t) e xAll)).map fun p => (3 + (s.home p.1).stage1) + p.2 := by
      rw [State.fills, List.map_map]
      exact List.map_congr_left fun p _ => (Nat.add_assoc 3 _ p.2).symm
    have hcosts : (((s.stage1 c t).placed.zip (s.shares (s.stage1 c t) e xAll)).map fun p => 3 + (s.home p.1).stage1) =
        (s.stage1 c t).placed.map fun h => 3 + (s.home h).stage1 := by
      conv_rhs => rw [← List.map_fst_zip hlen.ge, List.map_map]
      rfl
    rw [laidBlocks, hpairs, List.sum_map_add, List.map_snd_zip hlen.le, hcosts]
  have hcost := s.stage1_fits c t
  have hshares := (s.shares_sum_le_pool c t e xAll).trans (Nat.min_le_left ..)
  have hleft : (s.stage1 c t).left = roomOf (s.stage1 c t).quiet (s.stage1 c t).zone - ((s.stage1 c t).placed.map fun h => 3 + (s.home h).stage1).sum := rfl
  omega

theorem spread_le {c : Config} (hc : configInRange c = true) (t : Tree) : c.spread.get t.idx ≤ 99 := by
  simp only [configInRange, Bool.and_eq_true, and_assoc, List.all_eq_true, decide_eq_true_eq] at hc
  obtain ⟨-, -, hspread, -⟩ := hc
  cases t <;> exact hspread _ (by simp [Quad.toList, Quad.get, Tree.idx])

theorem State.built_sound {s : State} {c : Config} (hc : configInRange c = true) (t : Tree) (e xAll : Nat) :
    (s.built t (s.stage1 c t) e xAll).shadow.sound := by
  have hspread := spread_le hc t
  have hzone := s.decideZone_blocks c t
  have hlength : (s.decideZone c t).elim 0 Zone.length ≤ 1992 := by
    rw [hzone, zoneLength]
    split <;> omega
  exact layWindows_sound hlength (s.fills_fit c t e xAll)

/-! ### Maps swapped and emptied -/

/-- A sound map stays sound without some of its windows, its zone standing or withdrawn (R45, R82). -/
theorem GrantMap.sound.thinned {m : GrantMap} (hm : m.sound) {ws : List Window} {zone : Option Zone} (hws : ws.Sublist m.windows)
    (hz : ∀ z, zone = some z → m.zone = some z) : (⟨ws, zone, m.quiet⟩ : GrantMap).sound := by
  obtain ⟨hwin, hdis⟩ := hm
  refine ⟨fun w hw => ?_, hdis.sublist hws⟩
  obtain ⟨hlen, hend, hzone⟩ := hwin w (hws.subset hw)
  exact ⟨hlen, hend, fun z h => hzone z (hz z h)⟩

/-- Both maps of the tree are sound. -/
def TreeLine.mapsSound (x : TreeLine) : Prop := x.active.sound ∧ x.shadow.sound

theorem TreeLine.mapsSound.swapped {x : TreeLine} (hx : x.mapsSound) {kept : List Window} (hk : kept.Sublist x.shadow.windows) :
    (x.swapped kept).mapsSound := by
  refine ⟨hx.2.thinned hk fun z hz => ?_, GrantMap.empty_sound⟩
  split at hz
  · cases hz
  · exact hz

end Sys2Proof.Machine
end

section
/-! SUPPORT. The configuration and the maps of the trees, and that of the shared operations only the swap, the build, STOP-TREE and CONFIGURE touch them. -/

namespace Sys2Proof.Machine

/-- The configuration, and the active and the shadow map of every tree. -/
def State.maps (s : State) : Option Config × (Tree → GrantMap × GrantMap) := (s.config, fun t => ((s.tree t).active, (s.tree t).shadow))

theorem State.maps_ext {s s' : State} (hc : s'.config = s.config) (ha : ∀ t, (s'.tree t).active = (s.tree t).active)
    (hs : ∀ t, (s'.tree t).shadow = (s.tree t).shadow) : s'.maps = s.maps :=
  congrArg₂ Prod.mk hc (funext fun t => congrArg₂ Prod.mk (ha t) (hs t))

/-- Whether the maps are sound is read off the configuration and the maps. -/
theorem State.mapsSound_of_maps {s s' : State} (h : s'.maps = s.maps) (hs : s.mapsSound) : s'.mapsSound := by
  have hc : s'.config = s.config := congrArg Prod.fst h
  have hmaps : ∀ t, ((s'.tree t).active, (s'.tree t).shadow) = ((s.tree t).active, (s.tree t).shadow) := congrFun (congrArg Prod.snd h)
  refine ⟨fun c e => hs.1 c (hc.symm.trans e), fun t => ?_⟩
  obtain ⟨ha, hsh⟩ := Prod.mk.inj (hmaps t)
  rw [ha, hsh]
  exact hs.2 t

theorem foldl_maps {α : Type} {f : State → α → State} (hf : ∀ s a, (f s a).maps = s.maps) (xs : List α) (s : State) : (xs.foldl f s).maps = s.maps :=
  foldl_keeps (A := fun v : State => v.maps = s.maps) (fun v a hv => (hf v a).trans hv) xs rfl

/-! ### Trees -/

section TreeLine

variable (x : TreeLine)

@[simp] theorem TreeLine.setPlace_active (tag : Nat) (p : TagPlace) : (x.setPlace tag p).active = x.active := by rw [TreeLine.setPlace_frame]
@[simp] theorem TreeLine.setPlace_shadow (tag : Nat) (p : TagPlace) : (x.setPlace tag p).shadow = x.shadow := by rw [TreeLine.setPlace_frame]
@[simp] theorem TreeLine.offer_active (m : CtlMsg) : (x.offer m).active = x.active := by rw [TreeLine.offer_frame]
@[simp] theorem TreeLine.offer_shadow (m : CtlMsg) : (x.offer m).shadow = x.shadow := by rw [TreeLine.offer_frame]
@[simp] theorem TreeLine.drain_active (tag : Nat) : (x.drain tag).active = x.active := by rw [TreeLine.drain_frame]
@[simp] theorem TreeLine.drain_shadow (tag : Nat) : (x.drain tag).shadow = x.shadow := by rw [TreeLine.drain_frame]
@[simp] theorem TreeLine.countEvidence_active (k : Evidence) : (x.countEvidence k).active = x.active := by cases k <;> rfl
@[simp] theorem TreeLine.countEvidence_shadow (k : Evidence) : (x.countEvidence k).shadow = x.shadow := by cases k <;> rfl
@[simp] theorem TreeLine.discardHeldLaserOff_active (tag : Nat) : (x.discardHeldLaserOff tag).active = x.active := by cases x; rfl
@[simp] theorem TreeLine.discardHeldLaserOff_shadow (tag : Nat) : (x.discardHeldLaserOff tag).shadow = x.shadow := by cases x; rfl
@[simp] theorem TreeLine.dropLaserOff_active (tag : Nat) : (x.dropLaserOff tag).active = x.active := by cases x; rfl
@[simp] theorem TreeLine.dropLaserOff_shadow (tag : Nat) : (x.dropLaserOff tag).shadow = x.shadow := by cases x; rfl
@[simp] theorem TreeLine.forgetAwaited_active : x.forgetAwaited.active = x.active := by cases x; rfl
@[simp] theorem TreeLine.forgetAwaited_shadow : x.forgetAwaited.shadow = x.shadow := by cases x; rfl
@[simp] theorem TreeLine.start_active (c : Config) : (x.start c).active = x.active := by cases x; rfl
@[simp] theorem TreeLine.start_shadow (c : Config) : (x.start c).shadow = x.shadow := by cases x; rfl

end TreeLine

section Operations

variable (s : State)

/-! ### The plain updates -/

@[simp] theorem State.setHome_maps (h : HomeIndex) (x : Home) : (s.setHome h x).maps = s.maps := rfl
@[simp] theorem State.onHome_maps (h : HomeIndex) (f : Home → Home) : (s.onHome h f).maps = s.maps := rfl
@[simp] theorem State.mapHomes_maps (f : HomeIndex → Home → Home) : (s.mapHomes f).maps = s.maps := rfl
@[simp] theorem State.onEnrol_maps (f : Enrollment → Enrollment) : (s.onEnrol f).maps = s.maps := rfl
@[simp] theorem State.onLink_maps (f : Link → Link) : (s.onLink f).maps = s.maps := rfl
@[simp] theorem State.onShare_maps (f : ShareState → ShareState) : (s.onShare f).maps = s.maps := rfl
@[simp] theorem State.onMeter_maps (f : Metering → Metering) : (s.onMeter f).maps = s.maps := rfl
@[simp] theorem State.onCal_maps (f : Calendar → Calendar) : (s.onCal f).maps = s.maps := rfl
@[simp] theorem State.onClock_maps (f : RoundClock → RoundClock) : (s.onClock f).maps = s.maps := rfl
@[simp] theorem State.emit_maps (o : Output) : (s.emit o).maps = s.maps := rfl
@[simp] theorem State.begin_maps : s.begin.maps = s.maps := rfl

@[simp] theorem State.setTree_maps {t : Tree} {x : TreeLine} (ha : x.active = (s.tree t).active) (hs : x.shadow = (s.tree t).shadow) :
    (s.setTree t x).maps = s.maps := by
  refine State.maps_ext rfl (fun u => ?_) fun u => ?_ <;> rw [State.setTree_tree] <;> split
  · rename_i e; rw [ha, e]
  · rfl
  · rename_i e; rw [hs, e]
  · rfl

@[simp] theorem State.onTree_maps {t : Tree} {f : TreeLine → TreeLine} (ha : ∀ x, (f x).active = x.active) (hs : ∀ x, (f x).shadow = x.shadow) :
    (s.onTree t f).maps = s.maps := s.setTree_maps (ha _) (hs _)

@[simp] theorem State.onSearch_maps (t : Tree) (f : SearchContext → SearchContext) : (s.onSearch t f).maps = s.maps :=
  s.onTree_maps (fun _ => rfl) fun _ => rfl

/-! ### The link controller and the shares -/

@[simp] theorem State.countReceived_maps : s.countReceived.maps = s.maps := rfl
@[simp] theorem State.offerUrgent_maps (d : Byte) (c : Content) : (s.offerUrgent d c).maps = s.maps := rfl
@[simp] theorem State.event_maps (e : EventKind) : (s.event e).maps = s.maps := rfl
@[simp] theorem State.respond_maps (st : Station) (n : BitVec 16) (k : Byte) (status : Status) (b : List Byte) :
    (s.respond st n k status b).maps = s.maps := rfl
@[simp] theorem State.respondTwo_maps (st : Station) (n : BitVec 16) (k : Byte) (p q : List Byte) : (s.respondTwo st n k p q).maps = s.maps := rfl
@[simp] theorem State.offerShare_maps (f d : Nat) : (s.offerShare f d).maps = s.maps := rfl

@[simp] theorem State.conclude_maps (rx : Rx) (n : BitVec 16) (k : Byte) (a : Answer) : (s.conclude rx n k a).maps = a.state.maps := by
  unfold State.conclude; dsimp only; split <;> split <;> rfl

@[simp] theorem State.offerClaim_maps (h : HomeIndex) : (s.offerClaim h).maps = s.maps := by
  unfold State.offerClaim; dsimp only; (repeat' split) <;> rfl

@[simp] theorem State.reofferClaim_maps (h : HomeIndex) : (s.reofferClaim h).maps = s.maps := by
  unfold State.reofferClaim; dsimp only; (repeat' split) <;> rfl

@[simp] theorem State.offerOvercommit_maps (c f n : Nat) : (s.offerOvercommit c f n).maps = s.maps := by
  unfold State.offerOvercommit; dsimp only; split <;> split <;> rfl

@[simp] theorem State.offerHoldFull_maps (d : Nat) (a b : BitVec 16) : (s.offerHoldFull d a b).maps = s.maps := by
  unfold State.offerHoldFull; dsimp only; split <;> split <;> rfl

@[simp] theorem State.computeShare_maps (c : Nat) : (s.computeShare c).maps = s.maps := by
  unfold State.computeShare; dsimp only; split <;> simp

@[simp] theorem State.shareEnd_maps : s.shareEnd.maps = s.maps := by
  unfold State.shareEnd; dsimp only; split <;> simp <;> rfl

/-! ### Control messages and entries -/

@[simp] theorem State.offerCtl_maps (t : Tree) (m : CtlMsg) : (s.offerCtl t m).maps = s.maps := by simp [State.offerCtl]
@[simp] theorem State.giveTag_maps (t : Tree) (tag : Nat) (h : HomeIndex) : (s.giveTag t tag h).maps = s.maps := by simp [State.giveTag]
@[simp] theorem State.poolAdd_maps (t : Tree) (g : Nat) : (s.poolAdd t g).maps = s.maps := by simp [State.poolAdd]
@[simp] theorem State.poolSub_maps (t : Tree) (g : Nat) : (s.poolSub t g).maps = s.maps := by simp [State.poolSub]
@[simp] theorem State.leaveForwardList_maps (h : HomeIndex) : (s.leaveForwardList h).maps = s.maps := rfl
@[simp] theorem State.endWalk_maps : s.endWalk.maps = s.maps := rfl

@[simp] theorem State.drainTag_maps (x : Home) : (s.drainTag x).maps = s.maps := by unfold State.drainTag; split <;> simp

@[simp] theorem State.leavePool_maps (x : Home) : (s.leavePool x).maps = s.maps := by unfold State.leavePool; (repeat' split) <;> simp

@[simp] theorem State.leaveIsolated_maps (x : Home) : (s.leaveIsolated x).maps = s.maps := by
  unfold State.leaveIsolated; (repeat' split) <;> simp

@[simp] theorem State.wakeWalk_maps : s.wakeWalk.maps = s.maps := by unfold State.wakeWalk; split <;> rfl

@[simp] theorem State.reoffer_maps (t : Tree) (i : Nat) : (s.reoffer t i).maps = s.maps := by
  unfold State.reoffer; dsimp only; (repeat' split) <;> simp

@[simp] theorem State.freeEntry_maps (h : HomeIndex) : (s.freeEntry h).maps = s.maps := by simp [State.freeEntry]

@[simp] theorem State.abandonClaim_maps (h : HomeIndex) : (s.abandonClaim h).maps = s.maps := by simp [State.abandonClaim]

@[simp] theorem State.closeEntry_maps (h : HomeIndex) (r : LeaveReason) (f : Option Station) : (s.closeEntry h r f).maps = s.maps := by
  simp [State.closeEntry]

@[simp] theorem State.isolate_maps (h : HomeIndex) (c : IsolateCause) (e : Option Evidence) : (s.isolate h c e).maps = s.maps := by
  unfold State.isolate; dsimp only; (repeat' split) <;> simp

@[simp] theorem State.makeForwardRoom_maps : s.makeForwardRoom.maps = s.maps := by
  unfold State.makeForwardRoom; (repeat' split) <;> simp

@[simp] theorem State.endClosing_maps (h : HomeIndex) : (s.endClosing h).maps = s.maps := by
  unfold State.endClosing
  dsimp only
  split
  · exact s.freeEntry_maps h
  · exact s.makeForwardRoom_maps

@[simp] theorem State.succeedClaim_maps (h : HomeIndex) (m : Option Station) : (s.succeedClaim h m).maps = s.maps := by
  unfold State.succeedClaim; dsimp only; (repeat' split) <;> simp

@[simp] theorem State.queueWalk_maps (r : WalkRequest) : (s.queueWalk r).1.maps = s.maps := by unfold State.queueWalk; split <;> rfl

/-! ### Searches and evidence -/

@[simp] theorem State.commandCandidate_maps (t : Tree) (target : List Nat) (p : Candidate × Nat) : (s.commandCandidate t target p).maps = s.maps := by
  unfold State.commandCandidate; dsimp only; (repeat' split) <;> simp

@[simp] theorem State.setupProbe_maps (t : Tree) (step : SearchStep) (a b : Nat) : (s.setupProbe t step a b).maps = s.maps :=
  (foldl_maps (fun s p => s.commandCandidate_maps t _ p) _ _).trans (s.onSearch_maps t _)

@[simp] theorem State.startSearch_maps (t : Tree) (c : SearchCause) : (s.startSearch t c).maps = s.maps := by simp [State.startSearch]

@[simp] theorem State.endSilence_maps (t : Tree) (h : HomeIndex) : (State.endSilence t s h).maps = s.maps := by
  unfold State.endSilence; dsimp only; (repeat' split) <;> simp

@[simp] theorem State.endSearch_maps (t : Tree) (o : SearchOutcome) (r : SearchReason) : (s.endSearch t o r).maps = s.maps := by
  simp [State.endSearch, foldl_maps]

@[simp] theorem State.nextProbe_maps (t : Tree) (step : SearchStep) (a b : Nat) : (s.nextProbe t step a b).maps = s.maps := by
  unfold State.nextProbe; split <;> simp

@[simp] theorem State.examine_maps (t : Tree) (a b : Nat) : (s.examine t a b).maps = s.maps := by unfold State.examine; split <;> simp

@[simp] theorem State.popTrail_maps (t : Tree) : (s.popTrail t).maps = s.maps := by unfold State.popTrail; dsimp only; split <;> simp

@[simp] theorem State.confirmClear_maps (t : Tree) (p : Nat) : (s.confirmClear t p).maps = s.maps := by
  unfold State.confirmClear; (repeat' split) <;> simp

@[simp] theorem State.verdict_maps (t : Tree) (lit : Bool) : (s.verdict t lit).maps = s.maps := by
  unfold State.verdict; dsimp only; (repeat' split) <;> simp

@[simp] theorem State.observe_maps (t : Tree) (dark : Bool) : (s.observe t dark).maps = s.maps := by
  unfold State.observe; dsimp only; (repeat' split) <;> simp

@[simp] theorem State.charge_maps (h : HomeIndex) (k : Evidence) : (s.charge h k).maps = s.maps := by
  unfold State.charge
  dsimp only
  split
  case h_6 | h_7 | h_8 | h_9 => rfl
  all_goals (repeat' split) <;> simp

@[simp] theorem State.evidence_maps (t : Tree) (h : HomeIndex) (k : Evidence) : (s.evidence t h k).maps = s.maps := by simp [State.evidence]

@[simp] theorem State.chargeIdentity_maps (h : HomeIndex) : (s.chargeIdentity h).maps = s.maps := State.charge_maps _ _ _

@[simp] theorem State.addDark_maps (t : Tree) (w : Nat) : (s.addDark t w).maps = s.maps := by
  unfold State.addDark; dsimp only; (repeat' split) <;> simp

@[simp] theorem State.overlap_maps (t : Tree) : (s.overlap t).maps = s.maps := by simp [State.overlap]

@[simp] theorem State.dark_maps (t : Tree) : (s.dark t).maps = s.maps := by simp [State.dark]

/-! ### Enrolment -/

@[simp] theorem State.noteUnknown_maps (id : Identity) (t : Tree) (r : UnknownReason) : (s.noteUnknown id t r).maps = s.maps := rfl
@[simp] theorem State.ignoreCapture_maps : s.ignoreCapture.maps = s.maps := rfl
@[simp] theorem State.unmatched_maps : s.unmatched.maps = s.maps := rfl
@[simp] theorem State.sendObject_maps (c : Station) (id : Identity) (i : Byte) (k : ObjectKind) : (s.sendObject c id i k).maps = s.maps := rfl
@[simp] theorem State.sendRelease_maps (c : Station) (id : Identity) (i : Byte) : (s.sendRelease c id i).maps = s.maps := rfl

@[simp] theorem State.dealCapture_maps (t : Tree) (id : Identity) : (State.dealCapture t s id).maps = s.maps := by
  have hq := s.queueWalk_maps (wholeWalk (.capture t) id)
  unfold State.dealCapture
  split
  · rfl
  · split <;> (rename_i e; rw [e] at hq; exact hq)

@[simp] theorem State.capture_maps (t : Tree) (bursts : List (List Byte)) : (s.capture t bursts).maps = s.maps := by
  simp [State.capture, foldl_maps]

@[simp] theorem State.admitCapture_maps (t : Tree) (id : Identity) : (s.admitCapture t id).maps = s.maps := by
  unfold State.admitCapture; (repeat' split) <;> simp

@[simp] theorem State.rejoin_maps (h : HomeIndex) (t : Tree) (id : Identity) : (s.rejoin h t id).maps = s.maps := by
  unfold State.rejoin; dsimp only; split <;> simp

@[simp] theorem State.rejoinMoved_maps (h : HomeIndex) (t : Tree) (id : Identity) : (s.rejoinMoved h t id).maps = s.maps := by
  unfold State.rejoinMoved; dsimp only; (repeat' split) <;> simp

@[simp] theorem State.localConflict_maps (h : HomeIndex) (t : Tree) (id : Identity) : (s.localConflict h t id).maps = s.maps := by
  unfold State.localConflict; dsimp only; split <;> simp

@[simp] theorem State.actCapture_maps (t : Tree) (id : Identity) : (s.actCapture t id).maps = s.maps := by
  unfold State.actCapture; dsimp only; (repeat' split) <;> simp

@[simp] theorem State.hearClaim_maps (c : Station) (id : Identity) (i : Byte) : (s.hearClaim c id i).maps = s.maps := by
  have hq := (s.onEnrol fun e => e.forget id).queueWalk_maps (wholeWalk (.claim c i) id)
  unfold State.hearClaim
  dsimp only
  split <;> (rename_i e; rw [e] at hq; exact hq)

@[simp] theorem State.actClaim_maps (c : Station) (i : Byte) (id : Identity) : (s.actClaim c i id).maps = s.maps := by
  unfold State.actClaim; dsimp only; (repeat' split) <;> simp

@[simp] theorem State.actRelease_maps (c : Station) (id : Identity) : (s.actRelease c id).maps = s.maps := by
  unfold State.actRelease; (repeat' split) <;> simp

@[simp] theorem State.objectHeld_maps (h : HomeIndex) (st : Station) (id : Identity) : (s.objectHeld h st id).maps = s.maps := by simp [State.objectHeld]

@[simp] theorem State.objectWait_maps (h : HomeIndex) : (s.objectWait h).maps = s.maps := by
  unfold State.objectWait; dsimp only; (repeat' split) <;> simp

@[simp] theorem State.lateObject_maps (h : HomeIndex) (st : Station) (id : Identity) (k : ObjectKind) : (s.lateObject h st id k).maps = s.maps := by
  cases k with
  | wait => rfl
  | held => unfold State.lateObject; dsimp only; split <;> simp

@[simp] theorem State.takeObject_maps (st : Station) (id : Identity) (i : Byte) (k : ObjectKind) : (s.takeObject st id i k).maps = s.maps := by
  unfold State.takeObject; (repeat' split) <;> simp

@[simp] theorem State.takeRelease_maps (r : Station) (id : Identity) (i : Byte) : (s.takeRelease r id i).maps = s.maps := by
  unfold State.takeRelease; dsimp only; (repeat' split) <;> simp

@[simp] theorem State.hearRelease_maps (src : Station) (id : Identity) (r c i : Byte) : (s.hearRelease src id r c i).maps = s.maps := by
  unfold State.hearRelease; (repeat' split) <;> simp

@[simp] theorem State.failMeasurement_maps (h : HomeIndex) (r : UnknownReason) : (s.failMeasurement h r).maps = s.maps := by
  unfold State.failMeasurement; dsimp only; (repeat' split) <;> simp

@[simp] theorem State.failAttempt_maps (h : HomeIndex) : (s.failAttempt h).maps = s.maps := by
  unfold State.failAttempt; dsimp only; split <;> simp

@[simp] theorem State.acceptAttempt_maps (h : HomeIndex) (t : Tree) (reach : Nat) (m : Sample) : (s.acceptAttempt h t reach m).maps = s.maps := by
  unfold State.acceptAttempt; dsimp only; split <;> simp

@[simp] theorem State.takeSample_maps (h : HomeIndex) (t : Tree) (n : Nat) (x : Option Sample) : (s.takeSample h t n x).maps = s.maps := by
  unfold State.takeSample; dsimp only; (repeat' split) <;> simp

@[simp] theorem State.measureZone_maps (t : Tree) (h : HomeIndex) (tag n : Nat) (heads : List ZoneHead) : (s.measureZone t h tag n heads).maps = s.maps := by
  unfold State.measureZone; dsimp only; split <;> simp

/-! ### Receptions of the round -/

@[simp] theorem State.zone_maps (t : Tree) (z : ZoneRx) : (s.zone t z).maps = s.maps := by
  unfold State.zone; dsimp only; (repeat' split) <;> simp

@[simp] theorem State.handQuiet_maps (t : Tree) (o d : Bool) : (s.handQuiet t o d).maps = s.maps := by
  unfold State.handQuiet; (repeat' split) <;> simp

@[simp] theorem State.quietWindow_maps (c : Config) (t : Tree) (l : Byte) : (s.quietWindow c t l).maps = s.maps := by
  unfold State.quietWindow; dsimp only; (repeat' split) <;> simp

@[simp] theorem State.downstream_maps (h : Nat) (p : List Byte) : (s.downstream h p).maps = s.maps := by
  unfold State.downstream; dsimp only; (repeat' split) <;> rfl

@[simp] theorem State.deliverPayload_maps (t : Tree) (h : HomeIndex) (ps : Option (List (List Byte))) : (s.deliverPayload t h ps).maps = s.maps := by
  unfold State.deliverPayload
  split
  · simp
  · exact (State.onHome_maps ..).trans (foldl_maps (f := fun s p => s.emit (.upstreamPacket h p)) (fun _ _ => rfl) _ s)

@[simp] theorem State.accumulateDrift_maps (t : Tree) (h : HomeIndex) (δ : Int) : (s.accumulateDrift t h δ).maps = s.maps := by
  unfold State.accumulateDrift; dsimp only; (repeat' split) <;> simp

@[simp] theorem State.judgeBurst_maps (c : Config) (t : Tree) (h : HomeIndex) (δ : Int) (m l : Nat) : (s.judgeBurst c t h δ m l).maps = s.maps := by
  unfold State.judgeBurst; dsimp only; (repeat' split) <;> simp

@[simp] theorem State.recordReport_maps (h : HomeIndex) (n : Nat) : (s.recordReport h n).maps = s.maps := rfl

@[simp] theorem State.lostReturn_maps (c : Config) (h : HomeIndex) (δ : Int) : (s.lostReturn c h δ).maps = s.maps := by
  unfold State.lostReturn; (repeat' split) <;> rfl

@[simp] theorem State.goodServed_maps (c : Config) (t : Tree) (h : HomeIndex) (b : BurstRx) (w : Window) (δ : Int) (d : Head) (m : Nat) :
    (s.goodServed c t h b w δ d m).maps = s.maps := by simp [State.goodServed]

@[simp] theorem State.goodLost_maps (c : Config) (t : Tree) (h : HomeIndex) (b : BurstRx) (w : Window) (δ : Int) (d : Head) (m : Nat) :
    (s.goodLost c t h b w δ d m).maps = s.maps := by
  unfold State.goodLost; dsimp only; (repeat' split) <;> simp

@[simp] theorem State.missWindow_maps (h : HomeIndex) : (s.missWindow h).maps = s.maps := rfl

@[simp] theorem State.takeBurst_maps (c : Config) (t : Tree) (w : Window) (b : BurstRx) : (s.takeBurst c t w b).maps = s.maps := by
  unfold State.takeBurst; dsimp only; (repeat' split) <;> simp

@[simp] theorem State.takeGuard_maps (t : Tree) (v : Option Window) (l : Bool) (w : Window) (b : BurstRx) : (s.takeGuard t v l w b).maps = s.maps := by
  unfold State.takeGuard; dsimp only; split <;> simp

@[simp] theorem State.burst_maps (c : Config) (t : Tree) (b : BurstRx) : (s.burst c t b).maps = s.maps := by
  unfold State.burst; dsimp only; (repeat' split) <;> simp

/-! ### Records and frames sent -/

@[simp] theorem State.enqueue_maps (r : Record) : (s.enqueue r).maps = s.maps := by
  unfold State.enqueue
  extract_lets s'
  change (ite _ _ _ : State).maps = s'.maps
  split
  · exact State.offerHoldFull_maps ..
  · rfl

@[simp] theorem State.emitOrdinary_maps (h : HomeIndex) : (s.emitOrdinary h).maps = s.maps := by simp [State.emitOrdinary]

@[simp] theorem State.emitFinal_maps (h : HomeIndex) : (s.emitFinal h).maps = s.maps := by simp [State.emitFinal]

@[simp] theorem State.walkStep_maps : s.walkStep.maps = s.maps := by
  unfold State.walkStep
  dsimp only
  split
  · split
    · split
      · exact State.emitOrdinary_maps ..
      · exact State.emitFinal_maps ..
    · rfl
  · rfl

@[simp] theorem State.periodClose_maps (m : Moment) : (s.periodClose m).maps = s.maps := by simp [State.periodClose]

@[simp] theorem State.claimSent_maps (f : Frame) : (s.claimSent f).maps = s.maps := by unfold State.claimSent; (repeat' split) <;> rfl

@[simp] theorem State.dropped_maps (f : Frame) : (s.dropped f).maps = s.maps := by unfold State.dropped; (repeat' split) <;> simp

@[simp] theorem State.reofferFrame_maps (f : HeldFrame) : (s.reofferFrame f).maps = s.maps := by
  unfold State.reofferFrame; (repeat' split) <;> simp

@[simp] theorem State.takeShare_maps (st : Station) (f d : Nat) : (s.takeShare st f d).maps = s.maps := by
  unfold State.takeShare; (repeat' split) <;> rfl

/-! ### What the owning blocks of requests do -/

@[simp] theorem State.refuse_maps (st : Status) : (s.refuse st).state.maps = s.maps := rfl

@[simp] theorem State.moved_maps (x : Home) : (s.moved x).state.maps = s.maps := rfl

@[simp] theorem State.applyTime_maps (m : Moment) (w : Nat) : (s.applyTime m w).maps = s.maps := by unfold State.applyTime; dsimp only; split <;> rfl

@[simp] theorem State.pardonHome_maps (h : HomeIndex) : (s.pardonHome h).maps = s.maps := by
  unfold State.pardonHome; dsimp only; split <;> simp

@[simp] theorem State.writeClass_maps (h : HomeIndex) (g p : Nat) : (s.writeClass h g p).maps = s.maps := by
  unfold State.writeClass; dsimp only; split <;> simp

@[simp] theorem State.assignAgain_maps (t : Tree) (h : HomeIndex) : (State.assignAgain t s h).maps = s.maps := by
  unfold State.assignAgain; dsimp only; (repeat' split) <;> simp

@[simp] theorem State.laserOffAgain_maps (t : Tree) (h : HomeIndex) : (State.laserOffAgain t s h).maps = s.maps := by
  unfold State.laserOffAgain; dsimp only; (repeat' split) <;> simp

@[simp] theorem State.startTree_maps (c : Config) (t : Tree) : (s.startTree c t).maps = s.maps := by simp [State.startTree, foldl_maps]

@[simp] theorem State.dropHead_maps : s.dropHead.maps = s.maps := by unfold State.dropHead; dsimp only; split <;> rfl

end Operations

end Sys2Proof.Machine
end

section
/-! SUPPORT. The five commands that change a map or the configuration, and that every command keeps the maps sound (R81). -/

namespace Sys2Proof.Machine

/-! ### Frames received and requests -/

section Heard

variable {s : State} {rx : Rx}

theorem State.receive_maps {f : State → State} (hf : ∀ v, (f v).maps = v.maps) : (s.receive rx f).maps = s.maps := by
  unfold State.receive
  split
  · exact hf _
  · rfl

theorem State.receivePeer_maps {f : State → State} (hf : ∀ v, (f v).maps = v.maps) : (s.receivePeer rx f).maps = s.maps := by
  refine State.receive_maps fun v => ?_
  split
  · rfl
  · split
    · exact hf v
    · rfl

/-- A request is refused by the link checks, which change the link controller alone, or reaches its owning block. -/
theorem State.request_keeps {A : State → Prop} (hA : ∀ {v v' : State}, v'.maps = v.maps → A v → A v') {num : BitVec 16} {kind : Byte} {top : Nat} {b : Bool}
    {act : State → State} (ha : ∀ v, A v → A (act v)) (hs : A s) : A (s.request rx num kind top b act) := by
  have hrefuse : ∀ st : Status, A (s.countReceived.conclude rx num kind (s.countReceived.refuse st)) := fun st =>
    hA (v := s) (State.conclude_maps ..) hs
  have hcounted : A s.countReceived := hA (v := s) rfl hs
  unfold State.request State.receive
  dsimp only
  split
  · split
    · split
      · exact hrefuse _
      · exact hcounted
    · split
      · exact hcounted
      · split
        · exact hrefuse _
        · exact ha _ hcounted
  · exact hs

/-- A request answered by its owning block keeps what the block keeps. -/
theorem State.ranged_keeps {A : State → Prop} (hA : ∀ {v v' : State}, v'.maps = v.maps → A v → A v') {α : Type} {num : BitVec 16} {kind : Byte} {top : Nat}
    {b : Bool} {read : Option α} {f : State → α → Answer} (hf : ∀ v a, A v → A (f v a).state) (hs : A s) :
    A (s.request rx num kind top b (State.answer rx num kind fun v => v.ranged read (f v))) := by
  refine State.request_keeps hA (fun v hv => hA (State.conclude_maps ..) ?_) hs
  cases read with
  | none => exact hv
  | some a => exact hf v a hv

theorem State.ranged_maps {α : Type} {num : BitVec 16} {kind : Byte} {top : Nat} {b : Bool} {read : Option α} {f : State → α → Answer}
    (hf : ∀ v a, (f v a).state.maps = v.maps) :
    (s.request rx num kind top b (State.answer rx num kind fun v => v.ranged read (f v))).maps = s.maps :=
  State.ranged_keeps (A := fun v => v.maps = s.maps) Eq.trans (fun v a hv => (hf v a).trans hv) rfl

end Heard

/-! ### The commands that leave the maps and the configuration alone -/

/-- The command is none of the five that change a map or the configuration. -/
def leavesMaps : Instr → Bool
  | .pinReset _ _ | .roundBoundary | .mapPoint | .configure _ _ _ | .stopTree _ _ _ => false
  | _ => true

theorem exec_maps {c : Instr} {s s' : State} (hc : leavesMaps c = true) (hx : exec c s = .next s') : s'.maps = s.maps := by
  cases c
  case pinReset | roundBoundary | mapPoint | configure | stopTree => cases hc
  all_goals
    injection hx with hx
    subst hx
    refine Eq.trans ?_ s.begin_maps
    generalize s.begin = v
    beta_reduce
  case controlMessageReoffer t place => exact v.reoffer_maps t place
  case heldFrameReoffer f => exact v.reofferFrame_maps f
  case zoneReceived t z => exact v.zone_maps t z
  case downstreamPacket home packet => exact v.downstream_maps home packet
  case epochEnd =>
    split
    · refine State.maps_ext rfl (fun t => ?_) fun t => ?_ <;> simp only [State.tree, Quad_get_map] <;> rfl
    · rfl
  case findWalkComplete r => (repeat' split) <;> rfl
  case probeSettled | laserOffRefresh =>
    dsimp only
    (repeat' split) <;> simp
  case soakEnd | secondTick | forwardRetentionExpiry | emissionWalk | sharePeriodEnd | claimHoldExpiry | lostTimeout | periodClose | burstReceived | quietWindowMeasured | captureCheckComplete | claimCheckComplete | releaseCheckComplete | idleGapElapsed | frameSent | linkCollision | jamEnd
      | backoffEnd | badFrame | unknownClass =>
    (repeat' split) <;> simp
  case claim | object | release =>
    refine State.receivePeer_maps fun v => ?_
    (repeat' split) <;> simp
  case share | event | response =>
    refine State.receive_maps fun v => ?_
    (repeat' split) <;> simp
  case unknownRequestKind rx payload =>
    split
    · refine State.receive_maps fun v => ?_
      unfold State.unknownKind
      (repeat' split) <;> simp
    · rfl
  case find rx num args =>
    refine State.request_keeps (A := fun u => u.maps = v.maps) Eq.trans (fun u hu => Eq.trans ?_ hu) rfl
    unfold State.find
    split
    · simp
    · rename_i id start count _
      have hq := u.queueWalk_maps ⟨.find rx.src num, id, start, count⟩
      split <;> rename_i e <;> rw [e] at hq
      · exact hq
      · exact (State.conclude_maps ..).trans hq
  case collect rx num args =>
    refine State.request_keeps (A := fun u => u.maps = v.maps) Eq.trans (fun u hu => Eq.trans ?_ hu) rfl
    unfold State.collect
    split <;> simp
  all_goals refine State.ranged_maps fun v arg => ?_
  case time | tariff => simp
  case admitHome => unfold State.takeAdmission; (repeat' split) <;> rfl
  case withdraw | unbar => split <;> rfl
  case retire => unfold State.retire; split <;> simp
  case pardon => unfold State.pardon; split <;> simp
  case setClass => unfold State.setClass; (repeat' split) <;> simp
  case search => unfold State.searchRequest; (repeat' split) <;> simp
  case abortSearch => unfold State.abortRequest; dsimp only; split <;> simp
  case startTree => unfold State.startRequest; (repeat' split) <;> simp
  case queryHome => unfold State.queryHome; split <;> rfl
  case readLists => rfl
  case queryStation => dsimp only; split <;> rfl
  case releaseRecord => unfold State.releaseRecord; (repeat' split) <;> simp

/-! ### The five commands that change a map or the configuration -/

theorem State.mapsSound.trees {s : State} (hs : s.mapsSound) (t : Tree) : (s.tree t).mapsSound := hs.2 t

theorem TreeLine.headed_shadow (x : TreeLine) : x.headed.shadow = x.shadow := by
  cases h : x.running
  · rw [TreeLine.headed_stopped h]
  · rw [TreeLine.headed_eq h]

theorem TreeLine.mapsSound.headed {x : TreeLine} (hx : x.mapsSound) : x.headed.mapsSound := by
  rw [TreeLine.mapsSound, TreeLine.headed_active, TreeLine.headed_shadow]
  exact hx

/-- R82: at a round boundary the surviving windows of a sound shadow map become the active map. -/
theorem State.mapsSound.boundary {s : State} (hs : s.mapsSound) : s.ticked.swapTrees.sendHeaders.mapsSound := by
  have hconfig : s.ticked.swapTrees.sendHeaders.config = s.config := s.boundary_roundOnly.config
  refine ⟨fun c hc => hs.1 c (hconfig.symm.trans hc), fun t => ?_⟩
  cases hr : (s.tree t).running
  · rw [State.boundary_tree_stopped hr]
    exact hs.trees t
  · rw [State.boundary_tree s t hr]
    exact ((hs.trees t).swapped List.filter_sublist).headed

/-- R70: a map point builds sound maps for the RUNNING trees and leaves the others theirs. -/
theorem State.mapsSound.mapPoint {s : State} (hs : s.mapsSound) : s.mapPoint.mapsSound := by
  cases hc : s.config with
  | none =>
    have hnone : s.mapPoint = { s with eUsed := s.share.e, clock := { s.clock with mapPassed := true } } := by simp only [State.mapPoint, hc]
    rw [hnone]
    exact State.mapsSound_of_maps (s := s) rfl hs
  | some c =>
    have hconfig : s.mapPoint.config = s.config := by rw [State.mapPoint_frame hc]
    refine ⟨fun c hc => hs.1 c (hconfig.symm.trans hc), fun t => ?_⟩
    cases hr : (s.tree t).running
    · rw [State.mapPoint_stopped hc hr]
      exact hs.trees t
    · rw [(State.mapPoint_builds hc hr).1]
      exact ⟨(hs.trees t).1, State.built_sound (hs.1 c hc) t _ _⟩

theorem State.mapsSound.stopTree {s : State} (hs : s.mapsSound) (t : Tree) : (s.stopTree t).mapsSound := by
  have hended : (if (s.tree t).search.running then s.endSearch t .aborted .stop else s).mapsSound := by
    split
    · exact State.mapsSound_of_maps (s.endSearch_maps ..) hs
    · exact hs
  refine ⟨hended.1, fun u => ?_⟩
  rw [State.stopTree, State.mapHomes_tree, State.onTree_tree]
  split
  · exact ⟨GrantMap.empty_sound, GrantMap.empty_sound⟩
  · exact hended.trees u

theorem configArgs_inRange {args : List Byte} {mgt : Station} {c : Config} (h : configArgs args mgt = some c) : configInRange c = true := by
  unfold configArgs at h
  dsimp only at h
  split at h
  · cases h
  · split at h
    · rename_i hv
      cases h
      exact hv
    · cases h

/-- R178: the configuration that CONFIGURE applies lies in its ranges, and no map changes. -/
theorem State.mapsSound.configure {s : State} (hs : s.mapsSound) (rx : Rx) (args : List Byte) : (s.configure rx args).state.mapsSound := by
  unfold State.configure State.ranged
  split
  · exact hs
  · split
    · exact hs
    · rename_i c hc
      split
      · exact hs
      · have hset : State.mapsSound { s with config := some c, share := s.share.purge c.ranks, cal := { s.cal with closeTime := c.close } } :=
          ⟨fun _ e => Option.some.inj e ▸ configArgs_inRange hc, hs.2⟩
        exact State.mapsSound_of_maps (foldl_maps (fun v t => v.onTree_maps (·.start_active c) (·.start_shadow c)) _ _) hset

/-- Settles O16: a build lays its windows within the room of its zone and quiet window, a swap only thins them, and the other commands leave every map alone. -/
theorem mapsKept : Obligations.MapsKept := by
  refine KeptByEveryStep.of_exec (fun s q hs => hs) fun c s s' hs hx => ?_
  cases hc : leavesMaps c with
  | true => exact State.mapsSound_of_maps (exec_maps hc hx) hs
  | false =>
    have hbegin : s.begin.mapsSound := State.mapsSound_of_maps s.begin_maps hs
    have hof : ∀ {v v' : State}, v'.maps = v.maps → v.mapsSound → v'.mapsSound := State.mapsSound_of_maps
    cases c <;> injection hx with hx <;> subst hx
    case pinReset stn mgt => exact State.mapsSound_of_maps (s := State.afterReset stn mgt) rfl (State.mapsSound_afterReset stn mgt)
    case roundBoundary => exact hbegin.boundary
    case mapPoint =>
      beta_reduce
      split
      · exact hbegin
      · exact hbegin.mapPoint
    case configure rx num args =>
      dsimp only [State.receive]
      split
      · have hcounted : s.begin.countReceived.mapsSound := hof s.begin.countReceived_maps hbegin
        exact hof (State.conclude_maps ..) (hcounted.configure rx args)
      · exact hbegin
    case stopTree rx num args =>
      refine State.ranged_keeps hof (fun v t hv => ?_) hbegin
      unfold State.stopRequest
      split
      · exact hv.stopTree t
      · exact hv
    all_goals cases hc

end Sys2Proof.Machine
end

section
/-! SUPPORT. District Share's operations (R89 to R98): the places of the peer view as a SHARE, a share period end and CONFIGURE leave them, the SHARE recorded or ignored, the
computation of E, and what a share period end makes of the part. -/

namespace Sys2Proof.Machine

/-! ### The peer view (R92, R93, R94) -/

namespace ShareState

theorem record_peers (x : ShareState) (st i : Station) (f d : Nat) : (x.record st f d).peers[i] = if st = i then some ⟨f, d, 0⟩ else x.peers[i] := by
  simp only [record, Fin.getElem_fin, Vector.getElem_set, Fin.val_inj]

theorem mapPeers_peers (x : ShareState) (g : Option Peer → Option Peer) (i : Station) : (x.mapPeers g).peers[i] = g x.peers[i] := by
  simp [mapPeers]

theorem purge_peers (x : ShareState) (ranks : Vector Rank 16) (i : Station) :
    (x.purge ranks).peers[i] = if (ranks[i] : Rank).val = 3 then none else x.peers[i] := by
  simp [purge]

end ShareState

/-- R93: a place that stays live is younger than 3 share periods. -/
theorem agePeer_young {o : Option Peer} {p : Peer} (h : agePeer o = some p) : p.age ≤ 2 := by
  unfold agePeer at h
  split at h
  · split at h
    · cases h
    · cases h
      dsimp only
      omega
  · cases h

/-! ### SHARE (R92) -/

/-- R92: a SHARE from rank 0 to 2, or from any station in WAIT_CONFIG, is recorded. -/
theorem State.takeShare_recorded {s : State} {st : Station} (f d : Nat) (h : ∀ c, s.config = some c → (c.ranks[st]).val ≤ 2) :
    s.takeShare st f d = s.onShare fun x => x.record st f d := by
  cases hc : s.config with
  | none => rw [State.takeShare, State.rankOf_wait hc]
  | some c =>
    rw [State.takeShare, State.rankOf_run hc]
    exact if_pos (h c hc)

/-- R92: in RUN a SHARE from rank 3 is ignored and counted. -/
theorem State.takeShare_ignored {s : State} {st : Station} {c : Config} (f d : Nat) (hc : s.config = some c) (hr : (c.ranks[st]).val = 3) :
    s.takeShare st f d = s.onShare fun x => { x with ignored := bump x.ignored } := by
  rw [State.takeShare, State.rankOf_run hc]
  exact if_neg (by rw [hr]; decide)

theorem exec_share_heard {s : State} {rx : Rx} {p : List Byte} {f d : Nat} (hh : s.hears rx = true) (hp : shareFields p = some (f, d)) :
    exec (.share rx p) s = .next (s.heard.takeShare rx.src f d) := by
  refine congrArg Host.Outcome.next ((State.receive_heard (s := s.begin) _ hh).trans ?_)
  rw [hp]
  rfl

/-- Settles O44: the sender's rank decides whether the place is written or the notice counted as ignored. -/
theorem shareRecorded : Obligations.ShareRecorded := by
  intro s rx p f d hh hp
  refine ⟨fun hr => ?_, fun c hc hr => ?_⟩
  · rw [exec_share_heard hh hp, State.takeShare_recorded (s := s.heard) f d hr]
    rfl
  · rw [exec_share_heard hh hp, State.takeShare_ignored (s := s.heard) f d hc hr]
    rfl

/-! ### The share period end (R89, R90, R93, R95 to R98) -/

namespace ShareState

/-- The sum of the floors (R95). -/
def floors (x : ShareState) : Nat := x.fSelf + (x.live.map Peer.f).sum

/-- The sum of the demands (R95). -/
def demands (x : ShareState) : Nat := x.dSelf + (x.live.map Peer.d).sum

/-- R95: the floors reach C. -/
theorem compute_reached {x : ShareState} {c : Nat} (h : c ≤ x.floors) :
    x.compute c = { x with fSum := x.floors, dSum := x.demands, n := x.live.length + 1, s := 0, e := 32, overCommitted := true } := if_pos h

/-- R96: the floors leave capacity to spare. -/
theorem compute_spare {x : ShareState} {c : Nat} (h : x.floors < c) :
    x.compute c = { x with
      fSum := x.floors, dSum := x.demands, n := x.live.length + 1, s := c - x.floors, overCommitted := false
      e := clamp 32 8000 (excessAllowance (c - x.floors) x.demands x.dSelf (x.live.length + 1)) } := if_neg (Nat.not_le.2 h)

/-- R95, R96: what the computation of E changes. -/
theorem compute_frame (x : ShareState) (c : Nat) :
    x.compute c = { x with
      fSum := x.floors, dSum := x.demands, n := x.live.length + 1
      s := (x.compute c).s, e := (x.compute c).e, overCommitted := (x.compute c).overCommitted } := by
  obtain h | h := Nat.lt_or_ge x.floors c
  · rw [compute_spare h]
  · rw [compute_reached h]

theorem compute_overCommitted (x : ShareState) (c : Nat) : (x.compute c).overCommitted = decide (c ≤ x.floors) := by
  obtain h | h := Nat.lt_or_ge x.floors c
  · rw [compute_spare h, decide_eq_false (Nat.not_le.2 h)]
  · rw [compute_reached h, decide_eq_true h]

/-- R96: E lies within 32 to 8000. -/
theorem compute_e_range (x : ShareState) (c : Nat) : 32 ≤ (x.compute c).e ∧ (x.compute c).e ≤ 8000 := by
  obtain h | h := Nat.lt_or_ge x.floors c
  · rw [compute_spare h]
    exact ⟨Nat.le_max_left _ _, Nat.max_le.2 ⟨by decide, Nat.min_le_left _ _⟩⟩
  · rw [compute_reached h]
    exact ⟨Nat.le_refl 32, Nat.le_of_ble_eq_true rfl⟩

end ShareState

/-- F and D formed and the notice of them offered (R89 to R91). -/
def State.noticed (s : State) (f d : Nat) : State :=
  State.offerShare { s with share := { s.share with fSelf := f, dSelf := d }, demandSum := 0 } f d

/-- The share period end for the F and D formed at it: the demand sum restarts, in RUN the notice is offered and E computed, and the view is aged (R89 to R96). -/
def State.endShare (s : State) (f d : Nat) : State :=
  (match s.config with
    | some c => (s.noticed f d).computeShare c.capacity
    | none => { s with share := { s.share with fSelf := f, dSelf := d }, demandSum := 0 }).onShare fun x => x.mapPeers agePeer

/-- R89, R90: F is the sum of g over the homes in service, D the demand sum over 500. -/
theorem State.shareEnd_eq (s : State) : s.shareEnd = s.endShare s.ownFloor (s.demandSum / 500) := rfl

/-- R93: in WAIT_CONFIG a share period end forms F and D and ages the view. -/
theorem State.endShare_waiting {s : State} (hc : s.config = none) (f d : Nat) :
    s.endShare f d = { s with share := ({ s.share with fSelf := f, dSelf := d } : ShareState).mapPeers agePeer, demandSum := 0 } := by
  unfold State.endShare
  rw [hc]
  rfl

/-- R91, R93, R95, R96: in RUN it also offers the notice and computes E. -/
theorem State.endShare_run {s : State} {c : Config} (hc : s.config = some c) (f d : Nat) :
    s.endShare f d = ((s.noticed f d).computeShare c.capacity).onShare fun x => x.mapPeers agePeer := by
  unfold State.endShare
  rw [hc]

theorem State.offerOvercommit_frame (s : State) (c f n : Nat) :
    s.offerOvercommit c f n = { s with
      share := { s.share with heldOvercommit := (s.offerOvercommit c f n).share.heldOvercommit }, link := (s.offerOvercommit c f n).link } := by
  unfold State.offerOvercommit
  dsimp only
  split <;> split <;> rfl

/-- What the computation of E changes of the part. -/
theorem State.computeShare_frame (s : State) (c : Nat) :
    s.computeShare c = { s with
      share := { s.share.compute c with heldOvercommit := (s.computeShare c).share.heldOvercommit }, link := (s.computeShare c).link } := by
  unfold State.computeShare
  dsimp only
  split
  · exact State.offerOvercommit_frame ..
  · rfl

/-- R98: with no newly set mark nothing is sent. -/
theorem State.computeShare_unmarked {s : State} {c : Nat} (h : s.share.floors < c ∨ s.share.overCommitted = true) :
    s.computeShare c = s.onShare fun x => x.compute c := by
  refine if_neg ?_
  simp only [State.onShare_share, ShareState.compute_overCommitted]
  obtain h | h := h <;> simp [h]

/-- R98: a newly set mark sends OVERCOMMIT. -/
theorem State.computeShare_marked {s : State} {c : Nat} (h : c ≤ s.share.floors) (hm : s.share.overCommitted = false) :
    s.computeShare c = (s.onShare fun x => x.compute c).offerOvercommit c s.share.floors (s.share.live.length + 1) := by
  have hon : ((s.share.compute c).overCommitted && !s.share.overCommitted) = true := by
    rw [ShareState.compute_overCommitted, hm, decide_eq_true h]
    rfl
  refine (if_pos hon).trans ?_
  simp only [State.onShare_share, ShareState.compute_reached h]

/-- R91, R95, R96, R98: District Share after a share period end in RUN. -/
theorem State.endShare_share {s : State} {c : Config} (hc : s.config = some c) (f d : Nat) :
    (s.endShare f d).share =
      { ((s.noticed f d).share.compute c.capacity).mapPeers agePeer with heldOvercommit := (s.endShare f d).share.heldOvercommit } := by
  rw [State.endShare_run hc, State.computeShare_frame]
  rfl

/-- R98: with no newly set mark the notice alone is sent. -/
theorem State.endShare_unmarked {s : State} {c : Config} (hc : s.config = some c) {f d : Nat}
    (h : (s.noticed f d).share.floors < c.capacity ∨ s.share.overCommitted = true) :
    (s.endShare f d).link = (s.noticed f d).link ∧ (s.endShare f d).share.heldOvercommit = s.share.heldOvercommit := by
  rw [State.endShare_run hc, State.computeShare_unmarked (s := s.noticed f d) h]
  have hcompute := congrArg (·.heldOvercommit) ((s.noticed f d).share.compute_frame c.capacity)
  exact ⟨rfl, hcompute⟩

/-- What a share period end changes of the part. -/
theorem State.endShare_frame (s : State) (f d : Nat) :
    s.endShare f d = { s with share := (s.endShare f d).share, link := (s.endShare f d).link, demandSum := 0 } := by
  obtain hc | ⟨c, hc⟩ := Option.eq_none_or_eq_some s.config
  · rw [State.endShare_waiting hc]
  · rw [State.endShare_run hc, State.computeShare_frame]
    rfl

theorem State.endShare_formed (s : State) (f d : Nat) : (s.endShare f d).share.fSelf = f ∧ (s.endShare f d).share.dSelf = d := by
  obtain hc | ⟨c, hc⟩ := Option.eq_none_or_eq_some s.config
  · rw [State.endShare_waiting hc]
    exact ⟨rfl, rfl⟩
  · rw [State.endShare_share hc, ShareState.compute_frame]
    exact ⟨rfl, rfl⟩

/-- R93: every place is aged. -/
theorem State.endShare_peers (s : State) (f d : Nat) (i : Station) : (s.endShare f d).share.peers[i] = agePeer s.share.peers[i] := by
  obtain hc | ⟨c, hc⟩ := Option.eq_none_or_eq_some s.config
  · rw [State.endShare_waiting hc]
    exact ShareState.mapPeers_peers _ _ i
  · rw [State.endShare_share hc, ShareState.compute_frame]
    exact ShareState.mapPeers_peers _ _ i

/-- R96: E stays within 32 to 8000. -/
theorem State.endShare_e_range {s : State} (hlow : 32 ≤ s.share.e) (hhigh : s.share.e ≤ 8000) (f d : Nat) :
    32 ≤ (s.endShare f d).share.e ∧ (s.endShare f d).share.e ≤ 8000 := by
  obtain hc | ⟨c, hc⟩ := Option.eq_none_or_eq_some s.config
  · rw [State.endShare_waiting hc]
    exact ⟨hlow, hhigh⟩
  · rw [State.endShare_share hc]
    exact ShareState.compute_e_range _ _

end Sys2Proof.Machine
end

section
/-! SUPPORT. E and the peer view (R93, R96): the four commands that change them or the own number keep them in their ranges, and the others leave them alone. -/

namespace Sys2Proof.Machine

/-! ### What E and the peer view are read from -/

/-- The own number, E and the peer view. -/
def State.figures (s : State) : Station × Nat × Vector (Option Peer) 16 := (s.own, s.share.e, s.share.peers)

theorem State.shareSound_of_figures {s s' : State} (h : s'.figures = s.figures) (hs : s.shareSound) : s'.shareSound := by
  simp only [State.figures, Prod.mk.injEq] at h
  obtain ⟨hown, he, hpeers⟩ := h
  obtain ⟨hlow, hhigh, hyoung, hplace⟩ := hs
  refine ⟨he ▸ hlow, he ▸ hhigh, fun i p hp => hyoung i p (by rwa [hpeers] at hp), ?_⟩
  simp only [hpeers, hown]
  exact hplace

theorem State.Fixed.figures {s s' : State} (h : s.Fixed s') : s'.figures = s.figures := by
  rw [State.figures, h.own, h.share]
  rfl

theorem State.RoundOnly.figures {s s' : State} (h : s.RoundOnly s') : s'.figures = s.figures := by
  rw [h]
  rfl

theorem State.ite_figures {s a b : State} {P : Prop} [Decidable P] (ha : a.figures = s.figures) (hb : b.figures = s.figures) :
    (if P then a else b).figures = s.figures := by
  split
  · exact ha
  · exact hb

section Operations

variable (s : State)

theorem State.offerOvercommit_figures (c f n : Nat) : (s.offerOvercommit c f n).figures = s.figures := by
  rw [State.offerOvercommit_frame]
  rfl

theorem State.offerHoldFull_figures (depth : Nat) (head tail : BitVec 16) : (s.offerHoldFull depth head tail).figures = s.figures := by
  unfold State.offerHoldFull
  dsimp only
  split <;> split <;> rfl

theorem State.reofferFrame_figures (f : HeldFrame) : (s.reofferFrame f).figures = s.figures := by
  cases f with
  | claim h => exact (s.reofferClaim_fixed h).figures
  | share =>
    dsimp only [State.reofferFrame]
    split <;> rfl
  | overcommit =>
    dsimp only [State.reofferFrame]
    split
    · exact State.offerOvercommit_figures ..
    · rfl
  | holdFull =>
    dsimp only [State.reofferFrame]
    split
    · exact State.offerHoldFull_figures ..
    · rfl

theorem State.mapPoint_figures : s.mapPoint.figures = s.figures := by
  cases hc : s.config with
  | none => simp only [State.mapPoint, hc]; rfl
  | some c => rw [State.mapPoint_frame hc]; rfl

theorem State.downstream_figures (home : Nat) (packet : List Byte) : (s.downstream home packet).figures = s.figures := by
  unfold State.downstream
  dsimp only
  (repeat' split) <;> rfl

theorem State.enqueue_figures (r : Record) : (s.enqueue r).figures = s.figures :=
  State.ite_figures (State.offerHoldFull_figures ..) rfl

theorem State.walkStep_figures : s.walkStep.figures = s.figures := by
  unfold State.walkStep
  dsimp only
  split
  · split
    · split
      · exact State.enqueue_figures _ _
      · exact (State.endClosing_fixed _ _).figures.trans (State.enqueue_figures _ _)
    · rfl
  · rfl

theorem State.periodClose_figures (m : Moment) : (s.periodClose m).figures = s.figures := (State.wakeWalk_fixed _).figures

theorem State.applyTime_figures (m : Moment) (weekday : Nat) : (s.applyTime m weekday).figures = s.figures := by
  unfold State.applyTime
  dsimp only
  split <;> rfl

theorem State.claimSent_figures (f : Frame) : (s.claimSent f).figures = s.figures := by
  unfold State.claimSent
  (repeat' split) <;> rfl

theorem State.dropped_figures (f : Frame) : (s.dropped f).figures = s.figures := by
  unfold State.dropped
  split
  · split
    · exact (State.offerClaim_fixed _ _).figures
    · rfl
  all_goals rfl

theorem State.hearRelease_figures (src : Station) (id : Identity) (r c i : Byte) : (s.hearRelease src id r c i).figures = s.figures := by
  unfold State.hearRelease
  split
  · rfl
  · split
    · exact (s.takeRelease_fixed _ _ _).figures
    · exact (s.queueWalk_fixed _).figures

/-! ### What the owning blocks of requests do -/

theorem State.retire_figures (h : HomeIndex) : (s.retire h).state.figures = s.figures := by
  unfold State.retire
  split
  case h_2 => exact (s.freeEntry_fixed h).figures
  case h_6 | h_7 | h_8 | h_9 => exact (s.closeEntry_fixed h _ _).figures
  all_goals rfl

theorem State.pardon_figures (h : HomeIndex) : (s.pardon h).state.figures = s.figures := by
  unfold State.pardon
  split
  case h_9 => exact (s.pardonHome_fixed h).figures
  all_goals rfl

theorem State.setClass_figures (h : HomeIndex) (g p : Nat) : (s.setClass h g p).state.figures = s.figures := by
  unfold State.setClass
  split
  case h_6 | h_7 | h_8 | h_9 =>
    split
    · rfl
    · exact (s.writeClass_fixed h g p).figures
  all_goals rfl

theorem State.searchRequest_figures (t : Tree) : (s.searchRequest t).state.figures = s.figures := by
  unfold State.searchRequest
  split
  · rfl
  · split
    · rfl
    · exact (s.startSearch_fixed t .request).figures

theorem State.abortRequest_figures (t : Tree) : (s.abortRequest t).state.figures = s.figures := by
  unfold State.abortRequest
  dsimp only
  split
  · rfl
  · exact (s.endSearch_fixed t .aborted .request).figures

theorem State.stopRequest_figures (t : Tree) : (s.stopRequest t).state.figures = s.figures := by
  unfold State.stopRequest
  split
  · exact (s.stopTree_fixed t).figures
  · rfl

theorem State.startRequest_figures (t : Tree) : (s.startRequest t).state.figures = s.figures := by
  unfold State.startRequest
  split
  · rfl
  · split
    · rfl
    · rw [State.accept_state]
      exact (s.startTree_fixed _ t).figures

theorem State.releaseRecord_figures (number : BitVec 16) : (s.releaseRecord number).state.figures = s.figures := by
  unfold State.releaseRecord
  split
  · rfl
  · split
    · exact State.ite_figures rfl rfl
    · rfl

theorem State.find_figures (rx : Rx) (num : BitVec 16) (args : List Byte) : (s.find rx num args).figures = s.figures := by
  unfold State.find
  split
  · exact (State.conclude_fixed ..).figures
  · rename_i id start count _
    have hq := (s.queueWalk_fixed ⟨.find rx.src num, id, start, count⟩).figures
    split <;> rename_i e <;> rw [e] at hq
    · exact hq
    · exact (State.conclude_fixed ..).figures.trans hq

theorem State.collect_figures (rx : Rx) (num : BitVec 16) : (s.collect rx num).figures = s.figures := by
  unfold State.collect
  split
  · exact (State.conclude_fixed ..).figures
  · rfl

theorem State.unknownKind_figures (rx : Rx) (payload : List Byte) : (s.unknownKind rx payload).figures = s.figures :=
  State.ite_figures (State.conclude_fixed ..).figures (State.ite_figures (State.conclude_fixed ..).figures rfl)

end Operations

/-! ### Frames received and requests -/

section Heard

variable {s : State} {rx : Rx}

theorem State.receive_figures {f : State → State} (hf : ∀ v, (f v).figures = v.figures) : (s.receive rx f).figures = s.figures := by
  unfold State.receive
  split
  · exact hf _
  · rfl

theorem State.receivePeer_figures {f : State → State} (hf : ∀ v, (f v).figures = v.figures) : (s.receivePeer rx f).figures = s.figures := by
  refine State.receive_figures fun v => ?_
  split
  · rfl
  · split
    · exact hf v
    · rfl

theorem State.request_figures {num : BitVec 16} {kind : Byte} {top : Nat} {b : Bool} {act : State → State} (ha : ∀ v, (act v).figures = v.figures) :
    (s.request rx num kind top b act).figures = s.figures := by
  refine State.receive_figures fun v => ?_
  have hrefuse : ∀ st : Status, (v.conclude rx num kind (v.refuse st)).figures = v.figures := fun st => (State.conclude_fixed ..).figures
  split
  · split
    · exact hrefuse _
    · rfl
  · split
    · rfl
    · split
      · exact hrefuse _
      · exact ha v

theorem State.ranged_figures {α : Type} {num : BitVec 16} {kind : Byte} {top : Nat} {b : Bool} {read : Option α} {f : State → α → Answer}
    (hf : ∀ v a, (f v a).state.figures = v.figures) :
    (s.request rx num kind top b (State.answer rx num kind fun v => v.ranged read (f v))).figures = s.figures := by
  refine State.request_figures fun v => (State.conclude_fixed ..).figures.trans ?_
  cases read with
  | none => rfl
  | some a => exact hf v a

end Heard

/-! ### The commands that leave E and the peer view alone -/

/-- The command is none of the four that change the own number, E or the peer view. -/
def leavesFigures : Instr → Bool
  | .pinReset _ _ | .sharePeriodEnd | .share _ _ | .configure _ _ _ => false
  | _ => true

theorem exec_figures {c : Instr} {s s' : State} (hc : leavesFigures c = true) (hx : exec c s = .next s') : s'.figures = s.figures := by
  cases c
  case pinReset | sharePeriodEnd | share | configure => cases hc
  all_goals
    injection hx with hx
    subst hx
    refine Eq.trans ?_ s.begin_fixed.figures
    generalize s.begin = v
    beta_reduce
  case roundBoundary => exact v.boundary_roundOnly.figures
  case controlMessageReoffer t place => exact (v.reoffer_fixed t place).figures
  case heldFrameReoffer f => exact v.reofferFrame_figures f
  case zoneReceived t z => exact (v.zone_fixed t z).figures
  case downstreamPacket home packet => exact v.downstream_figures home packet
  case soakEnd | epochEnd | secondTick | findWalkComplete | idleGapElapsed | linkCollision | backoffEnd | badFrame | unknownClass =>
    (repeat' split) <;> rfl
  case probeSettled t => exact State.ite_figures rfl rfl
  case mapPoint => exact State.ite_figures rfl v.mapPoint_figures
  case periodClose =>
    split
    · exact v.periodClose_figures _
    · rfl
  case forwardRetentionExpiry h => exact State.ite_figures (v.freeEntry_fixed h).figures rfl
  case emissionWalk => exact State.ite_figures v.walkStep_figures rfl
  case claimHoldExpiry h =>
    split
    · exact State.ite_figures (v.succeedClaim_fixed h none).figures rfl
    · rfl
  case laserOffRefresh h =>
    refine State.ite_figures ?_ rfl
    split
    · exact State.ite_figures rfl (State.offerCtl_fixed _ _ _).figures
    · rfl
  case lostTimeout h =>
    split
    · exact State.ite_figures (v.closeEntry_fixed h _ _).figures rfl
    · rfl
  case burstReceived t b =>
    split
    · exact (v.burst_fixed _ t b).figures
    · rfl
  case quietWindowMeasured t level =>
    split
    · exact (v.quietWindow_fixed _ t level).figures
    · rfl
  case captureCheckComplete =>
    split
    · exact (State.actCapture_fixed _ _ _).figures
    · rfl
  case claimCheckComplete =>
    split
    · exact (State.actClaim_fixed _ _ _ _).figures
    · rfl
  case releaseCheckComplete =>
    split
    · exact (State.actRelease_fixed _ _ _).figures
    · rfl
  case frameSent =>
    split
    · exact State.claimSent_figures _ _
    · rfl
  case jamEnd =>
    split
    · exact State.ite_figures (State.dropped_figures _ _) rfl
    · rfl
  case claim rx payload =>
    refine State.receivePeer_figures fun v => ?_
    split
    · exact (v.hearClaim_fixed _ _ _).figures
    · rfl
  case object rx payload =>
    refine State.receivePeer_figures fun v => ?_
    split
    · split
      · exact (v.takeObject_fixed _ _ _ _).figures
      · exact v.unmatched_fixed.figures
    · rfl
  case release rx payload =>
    refine State.receivePeer_figures fun v => ?_
    split
    · exact v.hearRelease_figures _ _ _ _ _
    · rfl
  case event | response => exact State.receive_figures fun _ => rfl
  case unknownRequestKind rx payload => exact State.ite_figures (State.receive_figures fun v => v.unknownKind_figures rx payload) rfl
  case find rx num args => exact State.request_figures fun v => v.find_figures rx num args
  case collect rx num args => exact State.request_figures fun v => v.collect_figures rx num
  all_goals refine State.ranged_figures fun v arg => ?_
  case time => exact v.applyTime_figures _ _
  case tariff | readLists => rfl
  case admitHome => unfold State.takeAdmission; (repeat' split) <;> rfl
  case withdraw | unbar => split <;> rfl
  case retire => exact v.retire_figures _
  case pardon => exact v.pardon_figures _
  case setClass => exact v.setClass_figures _ _ _
  case search => exact v.searchRequest_figures _
  case abortSearch => exact v.abortRequest_figures _
  case stopTree => exact v.stopRequest_figures _
  case startTree => exact v.startRequest_figures _
  case queryHome => unfold State.queryHome; split <;> rfl
  case queryStation => dsimp only; split <;> rfl
  case releaseRecord => exact v.releaseRecord_figures _

/-! ### E and the peer view stay within their ranges -/

/-- R93, R96: a share period end keeps E in its range and ages every place. -/
theorem State.shareSound.endShare {s : State} (hs : s.shareSound) (f d : Nat) : (s.endShare f d).shareSound := by
  obtain ⟨hlow, hhigh, -, hplace⟩ := hs
  obtain ⟨hlow', hhigh'⟩ := State.endShare_e_range hlow hhigh f d
  have hown : (s.endShare f d).own = s.own := by rw [State.endShare_frame]
  refine ⟨hlow', hhigh', fun i p hp => agePeer_young ((s.endShare_peers f d i).symm.trans hp), ?_⟩
  simp only [hown, State.endShare_peers, hplace, agePeer]

/-- R92: a notice is recorded at age 0, in the place of another station. -/
theorem State.shareSound.takeShare {s : State} (hs : s.shareSound) {st : Station} (hst : st ≠ s.own) (f d : Nat) : (s.takeShare st f d).shareSound := by
  have hrecord : (s.onShare fun x => x.record st f d).shareSound := by
    obtain ⟨hlow, hhigh, hyoung, hplace⟩ := hs
    refine ⟨hlow, hhigh, fun i p hp => ?_, ?_⟩
    · rw [State.onShare_share, ShareState.record_peers] at hp
      split at hp
      · rw [← Option.some.inj hp]
        exact Nat.zero_le _
      · exact hyoung i p hp
    · exact (ShareState.record_peers s.share st s.own f d).trans ((if_neg hst).trans hplace)
  unfold State.takeShare
  split
  · exact hrecord
  · split
    · exact hrecord
    · exact hs

/-- R94: CONFIGURE only removes places. -/
theorem State.shareSound.configure {s : State} (hs : s.shareSound) (rx : Rx) (args : List Byte) : (s.configure rx args).state.shareSound := by
  have happly : ∀ c, (s.applyConfig c).shareSound := fun c => by
    have htrees : (s.applyConfig c).figures = (s.onShare fun x => x.purge c.ranks).figures :=
      (State.Fixed.foldl (f := fun v t => v.onTree t fun x => x.start c) (fun v t => v.onTree_fixed t _) _ _).figures
    refine State.shareSound_of_figures htrees ?_
    obtain ⟨hlow, hhigh, hyoung, hplace⟩ := hs
    refine ⟨hlow, hhigh, fun i p hp => ?_, ?_⟩
    · rw [State.onShare_share, ShareState.purge_peers] at hp
      split at hp
      · cases hp
      · exact hyoung i p hp
    · exact (ShareState.purge_peers s.share c.ranks s.own).trans (by rw [hplace, ite_self])
  unfold State.configure State.ranged
  split
  · exact hs
  · split
    · exact hs
    · split
      · exact hs
      · exact happly _

/-- Settles O9: of the commands that change E or the peer view a share period end clamps E and ages every place, a SHARE is another station's, and CONFIGURE only
removes places. -/
theorem shareFiguresKept : Obligations.ShareFiguresKept := by
  refine KeptByEveryStep.of_exec (fun s q hs => hs) fun c s s' hs hx => ?_
  cases hc : leavesFigures c with
  | true => exact State.shareSound_of_figures (exec_figures hc hx) hs
  | false =>
    have hbegin : s.begin.shareSound := hs
    cases c <;> injection hx with hx <;> subst hx
    case pinReset stn mgt => exact State.shareSound_afterReset stn mgt
    case sharePeriodEnd =>
      beta_reduce
      split
      · rw [State.shareEnd_eq]
        exact State.shareSound.endShare (s := s.begin.onClock _) hs _ _
      · exact hs
    case share rx payload =>
      dsimp only [State.receive]
      split
      · rename_i hh
        split
        · exact State.shareSound.takeShare (s := s.heard) hs ((s.hears_iff rx).1 hh).1 _ _
        · exact hs
      · exact hs
    case configure rx num args =>
      dsimp only [State.receive]
      split
      · exact State.shareSound_of_figures (State.conclude_fixed ..).figures (State.shareSound.configure (s := s.heard) hs rx args)
      · exact hs
    all_goals cases hc

end Sys2Proof.Machine
end

section
/-! SUPPORT. SHARE_PERIOD_END in the transmit queue (R91, R98, R168, R169): what the notice and the OVERCOMMIT behind it find there, and the share period end put together. -/

namespace Sys2Proof.Machine

/-! ### The notice in the transmit queue (R91, R168, R169) -/

theorem replaceShare_append {before : List Frame} (hb : ∀ x ∈ before, x.content.isShare = false) {f : Frame} (hf : f.content.isShare = true) (c : Content)
    (after : List Frame) : replaceShare c (before ++ f :: after) = before ++ { f with content := c } :: withoutShares after := by
  induction before with
  | nil => exact if_pos hf
  | cons x xs ih =>
    obtain ⟨hx, hxs⟩ := List.forall_mem_cons.1 hb
    rw [List.cons_append, replaceShare, if_neg (by rw [hx]; decide), ih hxs]
    rfl

theorem withoutShares_eq (fs : List Frame) : withoutShares fs = fs.filter fun x => x.content.isShare = false := by
  refine congrArg (List.filter · fs) (funext fun x => ?_)
  cases x.content.isShare <;> rfl

namespace Link

variable {l : Link}

/-- R169: a SHARE in GAP or BACKOFF is the current frame and gives its place and attempt count. -/
theorem offerShare_current {g : Frame} {a : Nat} (hcur : l.current = some (g, a)) (hg : g.content.isShare = true) (hoff : l.onLine = false) (f d : Nat) :
    l.offerShare f d = ({ l with current := some ({ g with content := .share f d }, a), waiting := withoutShares l.waiting }, true) := by
  simp only [offerShare, hcur, hg, hoff]
  rfl

/-- R91: with no SHARE as a current frame off the line, the waiting frames and the room decide. -/
theorem offerShare_behind (hcur : ∀ g a, l.current = some (g, a) → g.content.isShare = true → l.onLine = true) (f d : Nat) :
    l.offerShare f d =
      if l.waiting.any fun x => x.content.isShare then ({ l with waiting := replaceShare (.share f d) l.waiting }, true)
      else if l.roomFor false then (l.take ⟨31, .share f d, false⟩, true) else (l, false) := by
  unfold offerShare
  dsimp only
  split
  · rename_i g a hc
    have hnot : (g.content.isShare && !l.onLine) = false := by
      cases hg : g.content.isShare with
      | false => rfl
      | true => rw [hcur g a hc hg]; rfl
    rw [hnot]
    rfl
  · rfl

/-- R91: a notice that finds no SHARE joins the queue when there is room. -/
theorem offerShare_joins (hw : ∀ x ∈ l.waiting, x.content.isShare = false)
    (hcur : ∀ g a, l.current = some (g, a) → g.content.isShare = true → l.onLine = true) (f d : Nat) :
    l.offerShare f d = if l.roomFor false then (l.take ⟨31, .share f d, false⟩, true) else (l, false) := by
  have hany : (l.waiting.any fun x => x.content.isShare) = false := List.any_eq_false.2 fun x hx => by rw [hw x hx]; decide
  rw [offerShare_behind hcur, hany]
  rfl

/-- R169: the foremost SHARE that waits gives its place. -/
theorem offerShare_waiting {before after : List Frame} {g : Frame} (hw : l.waiting = before ++ g :: after)
    (hb : ∀ x ∈ before, x.content.isShare = false) (hg : g.content.isShare = true)
    (hcur : ∀ g a, l.current = some (g, a) → g.content.isShare = true → l.onLine = true) (f d : Nat) :
    l.offerShare f d = ({ l with waiting := before ++ { g with content := .share f d } :: withoutShares after }, true) := by
  have hany : (l.waiting.any fun x => x.content.isShare) = true := List.any_eq_true.2 ⟨g, by simp [hw], hg⟩
  rw [offerShare_behind hcur, if_pos hany, hw, replaceShare_append hb hg]

theorem routine_eq (l : Link) :
    l.routine = (l.current.map Prod.fst).toList.countP (fun f => !f.content.urgent) + l.waiting.countP (fun f => !f.content.urgent) :=
  List.countP_append

theorem choose_routine_le (l : Link) : l.choose.routine ≤ l.routine := by
  unfold choose
  split
  case h_1 f rest _ hw =>
    rw [routine_eq, l.routine_eq, hw, ← List.singleton_append (x := f), List.countP_append]
    exact Nat.le_add_left _ _
  case h_2 => exact le_rfl

/-- A frame taken is one routine frame more at most. -/
theorem take_routine_le (l : Link) (f : Frame) : (l.take f).routine ≤ l.routine + 1 := by
  refine ((choose_routine_le _).trans_eq (routine_eq _)).trans ?_
  dsimp only
  rw [l.routine_eq, insertFrame_countP]
  split <;> omega

theorem roomFor_routine : l.roomFor false = true ↔ l.total < 12 ∧ l.routine < 8 := by simp [roomFor]

end Link

/-! ### SHARE_PERIOD_END -/

theorem agePeer_some (p : Peer) : agePeer (some p) = if p.age ≤ 1 then some { p with age := p.age + 1 } else none := by
  by_cases h : p.age ≤ 1
  · rw [if_pos h]
    exact if_neg (by omega)
  · rw [if_neg h]
    exact if_pos (by omega)

/-- R91: what a notice's offer makes of the transmit queue, and whether it is held. -/
theorem State.noticed_of_offer {s : State} {f d : Nat} {l : Link} {taken : Bool} (h : s.link.offerShare f d = (l, taken)) :
    (s.noticed f d).link = l ∧ (s.noticed f d).share.heldNotice = if taken then none else some (f, d) := by
  have hl : (s.noticed f d).link = (s.link.offerShare f d).1 := rfl
  have hn : (s.noticed f d).share.heldNotice = if (s.link.offerShare f d).2 then none else some (f, d) := rfl
  rw [hl, hn, h]
  exact ⟨rfl, rfl⟩

theorem State.endShare_heldNotice {s : State} {c : Config} (hc : s.config = some c) (f d : Nat) :
    (s.endShare f d).share.heldNotice = (s.noticed f d).share.heldNotice := by
  rw [State.endShare_share hc, ShareState.compute_frame]
  rfl

/-- R98: behind the notice a newly set mark sends OVERCOMMIT, for which a queue with two places left has room. -/
theorem State.endShare_marked {s : State} {c : Config} (hc : s.config = some c) {f d : Nat} (hn : ∀ x ∈ s.link.frames, x.content.isShare = false)
    (hreach : c.capacity ≤ (s.noticed f d).share.floors) (hm : s.share.overCommitted = false) (hheld : s.share.heldOvercommit = none)
    (htotal : s.link.total ≤ 10) (hroutine : s.link.routine ≤ 6) :
    (s.noticed f d).share.heldNotice = none ∧ (s.endShare f d).share.heldOvercommit = none ∧
      (s.endShare f d).link = (s.link.take ⟨31, .share f d, false⟩).take
        ⟨31, .event (.overcommit c.capacity (s.noticed f d).share.floors (s.share.live.length + 1)), false⟩ := by
  have hroom : s.link.roomFor false = true := Link.roomFor_routine.2 ⟨by omega, by omega⟩
  obtain ⟨hlink, hnotice⟩ := State.noticed_of_offer ((Link.offerShare_alone f d hn).trans (if_pos hroom))
  have hroom' : (s.noticed f d).link.roomFor false = true := by
    rw [hlink]
    have ht := s.link.take_total_le ⟨31, .share f d, false⟩
    have hr := s.link.take_routine_le ⟨31, .share f d, false⟩
    exact Link.roomFor_routine.2 ⟨by omega, by omega⟩
  have hunheld : ((s.noticed f d).onShare fun x => x.compute c.capacity).share.heldOvercommit = none := by
    rw [State.onShare_share, ShareState.compute_frame]
    exact hheld
  have hsent := (State.offerOvercommit_unheld c.capacity (s.noticed f d).share.floors (s.share.live.length + 1) hunheld).trans (if_pos hroom')
  rw [State.endShare_run hc, State.computeShare_marked (s := s.noticed f d) hreach hm]
  refine ⟨hnotice, ?_, ?_⟩
  · exact congrArg (·.share.heldOvercommit) hsent
  · exact (congrArg (·.link) hsent).trans (congrArg (Link.take · _) hlink)

/-- The part as SHARE_PERIOD_END finds it, its due mark taken. -/
def State.shareTaken (s : State) : State := { s with clock := { s.clock with shareDue := false }, out := [] }

theorem exec_sharePeriodEnd {s : State} (h : s.clock.shareDue = true) :
    exec .sharePeriodEnd s = .next (s.shareTaken.endShare s.shareTaken.ownFloor (s.demandSum / 500)) :=
  congrArg Host.Outcome.next ((if_pos h).trans (State.shareEnd_eq _))

/-- Settles O53: F and D formed, the notice offered, E computed and the view aged, each as its own operation does it. -/
theorem sharePeriodComputes : Obligations.SharePeriodComputes := by
  intro s hdue
  refine ⟨_, exec_sharePeriodEnd hdue, ?_⟩
  obtain ⟨f, hf⟩ : ∃ f, s.shareTaken.ownFloor = f := ⟨_, rfl⟩
  obtain ⟨d, hd⟩ : ∃ d, s.demandSum / 500 = d := ⟨_, rfl⟩
  rw [hf, hd]
  obtain ⟨hfSelf, hdSelf⟩ := s.shareTaken.endShare_formed f d
  refine ⟨s.shareTaken.endShare_frame f d, hfSelf.trans hf.symm, hdSelf, fun i => ?_, fun hc => ?_, fun c hc => ?_⟩
  · rw [State.endShare_peers]
    change agePeer s.share.peers[i] = _
    cases s.share.peers[i] with
    | none => rfl
    | some p => exact agePeer_some p
  · rw [State.endShare_waiting (s := s.shareTaken) hc]
    exact ⟨rfl, rfl⟩
  · have hshare := State.endShare_share (s := s.shareTaken) hc f d
    have hnotice := State.endShare_heldNotice (s := s.shareTaken) hc f d
    rw [hfSelf, hdSelf]
    intro fSum dSum n
    refine ⟨?_, ?_, ?_, fun hreach => ?_, fun hspare => ?_, ?_, fun hquiet => ?_, fun hn hreach hm hheld htotal hroutine => ?_⟩
    · rw [hshare, ShareState.compute_frame]; rfl
    · rw [hshare, ShareState.compute_frame]; rfl
    · rw [hshare, ShareState.compute_frame]; rfl
    · rw [hshare, ShareState.compute_reached hreach]
      exact ⟨rfl, rfl, rfl⟩
    · rw [hshare, ShareState.compute_spare hspare]
      exact ⟨rfl, rfl, rfl⟩
    · rw [hshare, ShareState.compute_frame]
      rfl
    · obtain ⟨hlink, hovercommit⟩ := State.endShare_unmarked (s := s.shareTaken) hc hquiet
      have hoffer : ∀ {l taken}, s.link.offerShare f d = (l, taken) →
          (s.shareTaken.endShare f d).link = l ∧ (s.shareTaken.endShare f d).share.heldNotice = if taken then none else some (f, d) := fun h => by
        rw [hlink, hnotice]
        exact State.noticed_of_offer (s := s.shareTaken) h
      refine ⟨hovercommit, fun hw hcur => ?_, fun g a hcur hg hoff => ?_, fun before after g hw hb hg hcur => ?_⟩
      · have hjoins := Link.offerShare_joins hw hcur f d
        exact ⟨fun hr => hoffer (hjoins.trans (if_pos hr)), fun hr => hoffer (hjoins.trans (if_neg (by rw [hr]; decide)))⟩
      · rw [← withoutShares_eq]
        exact hoffer (Link.offerShare_current hcur hg hoff f d)
      · rw [← withoutShares_eq]
        exact hoffer (Link.offerShare_waiting hw hb hg hcur f d)
    · rw [hnotice]
      exact State.endShare_marked (s := s.shareTaken) hc hn hreach hm hheld htotal hroutine

end Sys2Proof.Machine
end

section
/-! SUPPORT. The limits of the Rogue Monitor's counts (R100, R115), of the lists (R46, R52, R53) and of the search queue (R20), and that what a home record, a tree or the lists go
through leaves them within these limits. -/

namespace Sys2Proof.Machine

/-! ### Scores (R100, R106) -/

section Home

variable (x : Home)

@[simp] theorem Home.onOpen_score (f : Bank → Bank) : (x.onOpen f).score = x.score := by rw [x.onOpen_frame f]
@[simp] theorem Home.deliver_score (band : Band) (n : Nat) : (x.deliver band n).score = x.score := by rw [x.deliver_frame band n]
@[simp] theorem Home.pendingToMeters_score : x.pendingToMeters.score = x.score := by rw [x.pendingToMeters_frame]
@[simp] theorem Home.pendingToDiscarded_score : x.pendingToDiscarded.score = x.score := by rw [x.pendingToDiscarded_frame]
@[simp] theorem Home.swapBanks_score (m : Moment) : (x.swapBanks m).score = x.score := by rw [x.swapBanks_frame m]
@[simp] theorem Home.raiseSpans_score : x.raiseSpans.score = x.score := x.onOpen_score _
@[simp] theorem Home.boundaryTick_score (r : Bool) : (x.boundaryTick r).score = x.score := by rw [x.boundaryTick_frame r]
@[simp] theorem Home.refreshTick_score (r : Bool) : (x.refreshTick r).score = x.score := by rw [x.refreshTick_frame r]
@[simp] theorem Home.afterBuild_score (t : Tree) (d : Bool) : (x.afterBuild t d).score = x.score := by rw [x.afterBuild_frame t d]
@[simp] theorem Home.toClosing_score (r : LeaveReason) (f : Option Station) : (x.toClosing r f).score = x.score := x.pendingToMeters_score
@[simp] theorem Home.toIsolated_score : x.toIsolated.score = x.score := x.pendingToDiscarded_score

@[simp] theorem Home.markStep_score : x.markStep.score = x.score := by
  unfold Home.markStep
  split <;> simp

@[simp] theorem Home.atClose_score (m : Moment) : (x.atClose m).score = x.score := by
  unfold Home.atClose
  split
  case h_1 | h_2 | h_3 | h_4 => split <;> simp
  case h_5 | h_6 => exact x.raiseSpans_score
  all_goals rfl

@[simp] theorem Home.secondTick_score (r : Bool) : (x.secondTick r).score = x.score := by
  unfold Home.secondTick
  dsimp only
  (repeat' split) <;> simp

@[simp] theorem Home.stopMeasuring_score (t : Tree) : (x.stopMeasuring t).score = x.score := by
  unfold Home.stopMeasuring
  split <;> rfl

/-- R100: a score never passes 255. -/
theorem Home.raiseScore_le (w : Nat) : (x.raiseScore w).score ≤ 255 := Nat.min_le_left _ _

end Home

/-! ### Dark counters, hold-offs and captures (R46, R113, R115) -/

/-- Of what the first tree has within its limits, dark counter, hold-off and capture list, the second tree has too. -/
structure TreeLine.KeepsLimits (x y : TreeLine) : Prop where
  dark : x.darkCounter ≤ 255 → y.darkCounter ≤ 255
  holdOff : x.holdOff ≤ 1000 → y.holdOff ≤ 1000
  captures : x.captures.length ≤ 4 ∧ x.captures.Nodup → y.captures.length ≤ 4 ∧ y.captures.Nodup

namespace TreeLine.KeepsLimits

theorem refl (x : TreeLine) : x.KeepsLimits x := ⟨id, id, id⟩

theorem trans {x y z : TreeLine} (h : x.KeepsLimits y) (k : y.KeepsLimits z) : x.KeepsLimits z :=
  ⟨k.dark ∘ h.dark, k.holdOff ∘ h.holdOff, k.captures ∘ h.captures⟩

theorem offer (x : TreeLine) (m : CtlMsg) : x.KeepsLimits (x.offer m) := by rw [x.offer_frame m]; exact ⟨id, id, id⟩

theorem drain (x : TreeLine) (tag : Nat) : x.KeepsLimits (x.drain tag) := by rw [x.drain_frame tag]; exact ⟨id, id, id⟩

theorem setPlace (x : TreeLine) (tag : Nat) (p : TagPlace) : x.KeepsLimits (x.setPlace tag p) := by
  rw [x.setPlace_frame tag p]; exact ⟨id, id, id⟩

theorem freeTag (x : TreeLine) (tag : Nat) : x.KeepsLimits (x.freeTag tag) := by rw [x.freeTag_frame tag]; exact ⟨id, id, id⟩

theorem settleBoundary (x : TreeLine) : x.KeepsLimits x.settleBoundary := by
  unfold TreeLine.settleBoundary
  split <;> exact ⟨id, id, id⟩

/-- A header moves the queue and may count toward a probe's settle. -/
theorem sendHeader (x : TreeLine) : x.KeepsLimits x.sendHeader.settleBoundary :=
  trans (y := x.sendHeader) ⟨id, id, id⟩ (settleBoundary _)

theorem countEvidence (x : TreeLine) (k : Evidence) : x.KeepsLimits (x.countEvidence k) := by cases k <;> exact ⟨id, id, id⟩

/-- R113, R115: at an epoch end neither the dark counter nor the hold-off rises. -/
theorem epochEnd (x : TreeLine) : x.KeepsLimits x.epochEnd where
  dark h := by
    change (if x.search.running then x.darkCounter else x.darkCounter / 2) ≤ 255
    split <;> omega
  holdOff h := Nat.le_trans (Nat.sub_le _ _) h
  captures := id

end TreeLine.KeepsLimits

/-- R115: the longest hold-off is that of an UNRESOLVED search. -/
theorem holdOffAfter_le (o : SearchOutcome) : holdOffAfter o ≤ 1000 := by cases o <;> decide

/-- R46: a capture list takes at most 4 identities, each once. -/
theorem captured_within (bursts : List (List Byte)) (f : CaptureFill) (hf : f.list.length ≤ 4 ∧ f.list.Nodup) :
    (bursts.foldl CaptureFill.burst f).list.length ≤ 4 ∧ (bursts.foldl CaptureFill.burst f).list.Nodup := by
  induction bursts generalizing f with
  | nil => exact hf
  | cons bytes rest ih =>
    refine ih _ ?_
    unfold CaptureFill.burst
    split
    · exact hf
    · split
      · exact hf
      · rename_i id _ hnew
        obtain ⟨hnotin, hroom⟩ := not_or.1 hnew
        refine ⟨?_, List.concat_eq_append ▸ hf.2.concat hnotin⟩
        rw [List.length_append, List.length_singleton]
        omega

/-! ### The lists (R52, R53, R65) -/

/-- The three lists keep their capacities and hold no identity twice (Tables 3-1 and 3-4). -/
def Enrollment.sound (e : Enrollment) : Prop :=
  (e.admission.length ≤ 32 ∧ (e.admission.map Admission.identity).Nodup) ∧ (e.barred.length ≤ 8 ∧ e.barred.Nodup) ∧
    e.unknown.length ≤ 8 ∧ (e.unknown.map Unknown.identity).Nodup

/-- A list of at most 8 places, none with the same key, that takes an entry as its newest: the place of its key is given up before, or, of 8 others, the oldest. -/
theorem newest_of_eight {α : Type} (key : α → Identity) {xs : List α} (hlen : xs.length ≤ 8) (hnodup : (xs.map key).Nodup) (a : α) :
    let rest := xs.filter fun x => !decide (key x = key a)
    let joined := (if 8 ≤ rest.length then rest.tail else rest) ++ [a]
    joined.length ≤ 8 ∧ (joined.map key).Nodup := by
  intro rest joined
  have hrest : rest.length ≤ 8 := (List.length_filter_le _ _).trans hlen
  have hsub : (if 8 ≤ rest.length then rest.tail else rest).Sublist rest := by
    split
    · exact List.tail_sublist _
    · exact .refl _
  refine ⟨?_, ?_⟩
  · rw [List.length_append, List.length_singleton]
    split
    · rw [List.length_tail]; omega
    · omega
  · rw [List.map_append, List.map_singleton, ← List.concat_eq_append]
    refine (hnodup.sublist ((hsub.trans List.filter_sublist).map key)).concat fun hmem => ?_
    obtain ⟨y, hy, hkey⟩ := List.mem_map.1 hmem
    have hne := (List.mem_filter.1 (hsub.subset hy)).2
    rw [hkey, decide_eq_true rfl] at hne
    cases hne

namespace Enrollment.sound

variable {e : Enrollment}

/-- R52: an identity removed from the admission list. -/
theorem forget (h : e.sound) (id : Identity) : (e.forget id).sound := by
  obtain ⟨⟨hlen, hnodup⟩, hrest⟩ := h
  exact ⟨⟨(List.length_filter_le _ _).trans hlen, hnodup.sublist (List.filter_sublist.map _)⟩, hrest⟩

/-- An entry that joins the admission list where there is room and its identity is not listed. -/
theorem joinAdmission (h : e.sound) {a : Admission} (hroom : e.admission.length < 32) (hnew : e.admissionOf a.identity = none) :
    ({ e with admission := e.admission ++ [a] } : Enrollment).sound := by
  obtain ⟨⟨hlen, hnodup⟩, hrest⟩ := h
  refine ⟨⟨?_, ?_⟩, hrest⟩
  · rw [List.length_append, List.length_singleton]
    exact hroom
  · rw [List.map_append, List.map_singleton, ← List.concat_eq_append]
    refine hnodup.concat fun hmem => ?_
    obtain ⟨b, hb, hid⟩ := List.mem_map.1 hmem
    exact Enrollment.admissionOf_none.1 hnew b hb hid

/-- R52: an admission takes the place of its identity, or joins the tail. -/
theorem admitEntry (h : e.sound) {a : Admission} {e' : Enrollment} (ha : e.admitEntry a = some e') : e'.sound := by
  unfold Enrollment.admitEntry at ha
  split at ha
  · cases ha
    obtain ⟨⟨hlen, hnodup⟩, hrest⟩ := h
    have hsame : (e.admission.map fun b => if b.identity = a.identity then a else b).map Admission.identity = e.admission.map Admission.identity := by
      rw [List.map_map]
      refine List.map_congr_left fun b _ => ?_
      dsimp only [Function.comp_apply]
      split
      · rename_i hid; exact hid.symm
      · rfl
    refine ⟨⟨?_, ?_⟩, hrest⟩
    · rw [List.length_map]; exact hlen
    · rw [hsame]; exact hnodup
  · rename_i hnew
    split at ha
    · rename_i hroom
      cases ha
      exact h.joinAdmission hroom (Option.not_isSome_iff_eq_none.1 hnew)
    · cases ha

/-- R52: an identity barred. -/
theorem bar (h : e.sound) (id : Identity) : (e.bar id).sound := by
  obtain ⟨hadmission, ⟨hlen, hnodup⟩, hunknown⟩ := h
  obtain ⟨hlen', hnodup'⟩ := newest_of_eight (fun i : Identity => i) hlen (by rw [List.map_id']; exact hnodup) id
  rw [List.map_id'] at hnodup'
  exact ⟨hadmission, ⟨hlen', hnodup'⟩, hunknown⟩

/-- R52: an identity barred no more. -/
theorem unbar (h : e.sound) (id : Identity) : ({ e with barred := e.barred.filter fun i => !decide (i = id) } : Enrollment).sound := by
  obtain ⟨hadmission, ⟨hlen, hnodup⟩, hunknown⟩ := h
  exact ⟨hadmission, ⟨(List.length_filter_le _ _).trans hlen, hnodup.filter _⟩, hunknown⟩

/-- R53: the unknown list takes an identity. -/
theorem takeUnknown (h : e.sound) (id : Identity) (t : Tree) (r : UnknownReason) : (e.takeUnknown id t r).sound := by
  obtain ⟨hadmission, hbarred, hlen, hnodup⟩ := h
  exact ⟨hadmission, hbarred, newest_of_eight Unknown.identity hlen hnodup ⟨id, t, r, 0⟩⟩

/-- R53: the unknown list at a second tick. -/
theorem secondTick (h : e.sound) : e.secondTick.sound := by
  obtain ⟨hadmission, hbarred, hlen, hnodup⟩ := h
  refine ⟨hadmission, hbarred, ?_, ?_⟩
  · rw [Enrollment.secondTick, List.length_map]; exact hlen
  · rw [Enrollment.secondTick, List.map_map]; exact hnodup

end Enrollment.sound

end Sys2Proof.Machine
end

section
/-! SUPPORT. What the shared operations do with the limits of R20, R100, R115 and Table 3-4: whatever of the counts and lists is within its limit stays within it. -/

namespace Sys2Proof.Machine

/-- Of what the first state has within its limits, each score, each tree's counts and captures, the lists and the search queue, the second state has too. -/
structure State.KeepsLimits (b s : State) : Prop where
  scores : ∀ h, (b.home h).score ≤ 255 → (s.home h).score ≤ 255
  trees : ∀ t, (b.tree t).KeepsLimits (s.tree t)
  enrol : b.enrol.sound → s.enrol.sound
  walks : b.walks.length ≤ 6 → s.walks.length ≤ 6

theorem State.KeepsLimits.refl (s : State) : s.KeepsLimits s := ⟨fun _ => id, fun _ => .refl _, id, id⟩

theorem State.KeepsLimits.scoresSound {s s' : State} (k : s.KeepsLimits s') (hs : s.scoresSound) : s'.scoresSound := by
  obtain ⟨hscores, hdark, hhold⟩ := hs
  exact ⟨fun h => k.scores h (hscores h), fun t => (k.trees t).dark (hdark t), fun t => (k.trees t).holdOff (hhold t)⟩

theorem State.listsSound_iff (s : State) :
    s.listsSound ↔ s.enrol.sound ∧ (∀ t, (s.tree t).captures.length ≤ 4 ∧ (s.tree t).captures.Nodup) ∧ s.walks.length ≤ 6 := by
  simp only [State.listsSound, Enrollment.sound, and_assoc]

theorem State.KeepsLimits.listsSound {s s' : State} (k : s.KeepsLimits s') (hs : s.listsSound) : s'.listsSound := by
  rw [State.listsSound_iff] at hs ⊢
  obtain ⟨henrol, hcaptures, hwalks⟩ := hs
  exact ⟨k.enrol henrol, fun t => (k.trees t).captures (hcaptures t), k.walks hwalks⟩

namespace State.KeepsLimits

variable {b s : State}

/-! ### The plain updates -/

/-- An operation on the other blocks. -/
theorem same (hs : b.KeepsLimits s) {s' : State} (hh : s'.homes = s.homes) (ht : s'.trees = s.trees) (he : s'.enrol = s.enrol)
    (hw : s'.walks = s.walks) : b.KeepsLimits s' where
  scores h := by simp only [State.home, hh]; exact hs.scores h
  trees t := by simp only [State.tree, ht]; exact hs.trees t
  enrol := by rw [he]; exact hs.enrol
  walks := by rw [hw]; exact hs.walks

theorem ite {P : Prop} [Decidable P] {s' : State} (hs : b.KeepsLimits s) (hs' : b.KeepsLimits s') : b.KeepsLimits (if P then s else s') := by
  split
  · exact hs
  · exact hs'

theorem foldl {α : Type} {f : State → α → State} (hs : b.KeepsLimits s) (hf : ∀ {v : State} (a : α), b.KeepsLimits v → b.KeepsLimits (f v a))
    (xs : List α) : b.KeepsLimits (xs.foldl f s) :=
  foldl_keeps (A := b.KeepsLimits) (fun _ a hv => hf a hv) xs hs

theorem begin (hs : b.KeepsLimits s) : b.KeepsLimits s.begin := hs.same rfl rfl rfl rfl
theorem onLink (hs : b.KeepsLimits s) (f : Link → Link) : b.KeepsLimits (s.onLink f) := hs.same rfl rfl rfl rfl
theorem onShare (hs : b.KeepsLimits s) (f : ShareState → ShareState) : b.KeepsLimits (s.onShare f) := hs.same rfl rfl rfl rfl
theorem onMeter (hs : b.KeepsLimits s) (f : Metering → Metering) : b.KeepsLimits (s.onMeter f) := hs.same rfl rfl rfl rfl
theorem onCal (hs : b.KeepsLimits s) (f : Calendar → Calendar) : b.KeepsLimits (s.onCal f) := hs.same rfl rfl rfl rfl
theorem onClock (hs : b.KeepsLimits s) (f : RoundClock → RoundClock) : b.KeepsLimits (s.onClock f) := hs.same rfl rfl rfl rfl
theorem emit (hs : b.KeepsLimits s) (o : Output) : b.KeepsLimits (s.emit o) := hs.same rfl rfl rfl rfl

theorem setHome (hs : b.KeepsLimits s) {h : HomeIndex} {x : Home} (hx : (b.home h).score ≤ 255 → x.score ≤ 255) : b.KeepsLimits (s.setHome h x) where
  scores i := by
    rw [State.setHome_home]
    split
    · rename_i e; rw [e]; exact hx
    · exact hs.scores i
  trees := hs.trees
  enrol := hs.enrol
  walks := hs.walks

theorem onHome (hs : b.KeepsLimits s) {h : HomeIndex} {f : Home → Home} (hf : (s.home h).score ≤ 255 → (f (s.home h)).score ≤ 255) :
    b.KeepsLimits (s.onHome h f) :=
  hs.setHome (hf ∘ hs.scores h)

theorem mapHomes (hs : b.KeepsLimits s) {f : HomeIndex → Home → Home} (hf : ∀ h, (s.home h).score ≤ 255 → (f h (s.home h)).score ≤ 255) :
    b.KeepsLimits (s.mapHomes f) where
  scores i := by rw [State.mapHomes_home]; exact hf i ∘ hs.scores i
  trees := hs.trees
  enrol := hs.enrol
  walks := hs.walks

theorem setTree (hs : b.KeepsLimits s) {t : Tree} {x : TreeLine} (hx : (b.tree t).KeepsLimits x) : b.KeepsLimits (s.setTree t x) where
  scores := hs.scores
  trees i := by
    rw [State.setTree_tree]
    split
    · rename_i e; rw [e]; exact hx
    · exact hs.trees i
  enrol := hs.enrol
  walks := hs.walks

theorem onTree (hs : b.KeepsLimits s) {t : Tree} {f : TreeLine → TreeLine} (hf : (s.tree t).KeepsLimits (f (s.tree t))) : b.KeepsLimits (s.onTree t f) :=
  hs.setTree ((hs.trees t).trans hf)

theorem onSearch (hs : b.KeepsLimits s) (t : Tree) (f : SearchContext → SearchContext) : b.KeepsLimits (s.onSearch t f) := hs.onTree ⟨id, id, id⟩

theorem onEnrol (hs : b.KeepsLimits s) {f : Enrollment → Enrollment} (hf : s.enrol.sound → (f s.enrol).sound) : b.KeepsLimits (s.onEnrol f) where
  scores := hs.scores
  trees := hs.trees
  enrol := hf ∘ hs.enrol
  walks := hs.walks

/-! ### The link controller and District Share -/

theorem countReceived (hs : b.KeepsLimits s) : b.KeepsLimits s.countReceived := hs.onLink _
theorem event (hs : b.KeepsLimits s) (e : EventKind) : b.KeepsLimits (s.event e) := hs.same rfl rfl rfl rfl
theorem respond (hs : b.KeepsLimits s) (st : Station) (n : BitVec 16) (k : Byte) (status : Status) (body : List Byte) :
    b.KeepsLimits (s.respond st n k status body) := hs.same rfl rfl rfl rfl

theorem conclude {rx : Rx} {n : BitVec 16} {k : Byte} {a : Answer} (ha : b.KeepsLimits a.state) : b.KeepsLimits (s.conclude rx n k a) := by
  unfold State.conclude
  dsimp only
  split <;> split <;> exact ha.same rfl rfl rfl rfl

theorem offerClaim (hs : b.KeepsLimits s) (h : HomeIndex) : b.KeepsLimits (s.offerClaim h) := by
  unfold State.offerClaim
  dsimp only
  split
  · exact .ite (hs.onLink _) (hs.onHome id)
  · exact hs

theorem reofferClaim (hs : b.KeepsLimits s) (h : HomeIndex) : b.KeepsLimits (s.reofferClaim h) := by
  unfold State.reofferClaim
  dsimp only
  split
  · exact .ite ((hs.onLink _).onHome id) hs
  · exact hs

theorem offerShare (hs : b.KeepsLimits s) (f d : Nat) : b.KeepsLimits (s.offerShare f d) := hs.same rfl rfl rfl rfl

theorem offerOvercommit (hs : b.KeepsLimits s) (c f n : Nat) : b.KeepsLimits (s.offerOvercommit c f n) := by
  unfold State.offerOvercommit
  dsimp only
  split <;> split <;> exact hs.same rfl rfl rfl rfl

theorem offerHoldFull (hs : b.KeepsLimits s) (depth : Nat) (head tail : BitVec 16) : b.KeepsLimits (s.offerHoldFull depth head tail) := by
  unfold State.offerHoldFull
  dsimp only
  split <;> split <;> exact hs.same rfl rfl rfl rfl

theorem computeShare (hs : b.KeepsLimits s) (c : Nat) : b.KeepsLimits (s.computeShare c) := .ite ((hs.onShare _).offerOvercommit _ _ _) (hs.onShare _)

theorem shareEnd (hs : b.KeepsLimits s) : b.KeepsLimits s.shareEnd := by
  have hformed : b.KeepsLimits { s with share := { s.share with fSelf := s.ownFloor, dSelf := s.demandSum / 500 }, demandSum := 0 } :=
    hs.same rfl rfl rfl rfl
  unfold State.shareEnd
  dsimp only
  refine onShare ?_ _
  split
  · exact (hformed.offerShare _ _).computeShare _
  · exact hformed

theorem takeShare (hs : b.KeepsLimits s) (st : Station) (f d : Nat) : b.KeepsLimits (s.takeShare st f d) := by
  unfold State.takeShare
  split
  · exact hs.onShare _
  · exact .ite (hs.onShare _) (hs.onShare _)

/-! ### Control messages, tags and entries -/

theorem offerCtl (hs : b.KeepsLimits s) (t : Tree) (m : CtlMsg) : b.KeepsLimits (s.offerCtl t m) := hs.onTree (.offer _ m)
theorem giveTag (hs : b.KeepsLimits s) (t : Tree) (tag : Nat) (h : HomeIndex) : b.KeepsLimits (s.giveTag t tag h) := hs.onTree (.setPlace _ _ _)
theorem poolAdd (hs : b.KeepsLimits s) (t : Tree) (g : Nat) : b.KeepsLimits (s.poolAdd t g) := hs.onTree ⟨id, id, id⟩

theorem drainTag (hs : b.KeepsLimits s) (x : Home) : b.KeepsLimits (s.drainTag x) := by
  unfold State.drainTag
  split
  · exact hs.onTree (.drain _ _)
  · exact hs

theorem reoffer (hs : b.KeepsLimits s) (t : Tree) (i : Nat) : b.KeepsLimits (s.reoffer t i) := by
  have herased : (b.tree t).KeepsLimits { s.tree t with held := (s.tree t).held.eraseIdx i } := (hs.trees t).trans ⟨id, id, id⟩
  unfold State.reoffer
  dsimp only
  split
  · exact hs
  · exact .ite hs (.ite (hs.setTree herased) (.ite (hs.setTree (herased.trans (.offer _ _))) hs))

theorem leavePool (hs : b.KeepsLimits s) (x : Home) : b.KeepsLimits (s.leavePool x) := by
  unfold State.leavePool
  split
  · exact .ite (hs.onTree ⟨id, id, id⟩) hs
  · exact hs

theorem leaveIsolated (hs : b.KeepsLimits s) (x : Home) : b.KeepsLimits (s.leaveIsolated x) := by
  unfold State.leaveIsolated
  split
  · exact .ite (hs.onTree ⟨id, id, id⟩) hs
  · exact hs

theorem wakeWalk (hs : b.KeepsLimits s) : b.KeepsLimits s.wakeWalk := by
  unfold State.wakeWalk
  split
  · exact hs.same rfl rfl rfl rfl
  · exact hs.same rfl rfl rfl rfl
  · exact hs

/-- R1: a freed entry has score 0. -/
theorem freeEntry (hs : b.KeepsLimits s) (h : HomeIndex) : b.KeepsLimits (s.freeEntry h) := by
  have hleft : b.KeepsLimits (((s.leavePool (s.home h)).drainTag (s.home h)).leaveForwardList h) :=
    ((hs.leavePool _).drainTag _).same rfl rfl rfl rfl
  exact hleft.setHome fun _ => Nat.zero_le _

theorem abandonClaim (hs : b.KeepsLimits s) (h : HomeIndex) : b.KeepsLimits (s.abandonClaim h) := (hs.onLink _).freeEntry h

theorem closeEntry (hs : b.KeepsLimits s) (h : HomeIndex) (r : LeaveReason) (f : Option Station) : b.KeepsLimits (s.closeEntry h r f) := by
  have hclosed : b.KeepsLimits ((((s.leaveIsolated (s.home h)).leavePool (s.home h)).drainTag (s.home h)).setHome h ((s.home h).toClosing r f)) :=
    (((hs.leaveIsolated _).leavePool _).drainTag _).setHome fun hb => by rw [Home.toClosing_score]; exact hs.scores h hb
  exact hclosed.wakeWalk

theorem isolate (hs : b.KeepsLimits s) (h : HomeIndex) (cause : IsolateCause) (e : Option Evidence) : b.KeepsLimits (s.isolate h cause e) := by
  have hisolated : b.KeepsLimits (s.setHome h (s.home h).toIsolated) := hs.setHome fun hb => by rw [Home.toIsolated_score]; exact hs.scores h hb
  unfold State.isolate
  dsimp only
  refine event ?_ _
  split
  · split
    · exact (hisolated.onTree ⟨id, id, id⟩).offerCtl _ _
    · exact hisolated.onTree ⟨id, id, id⟩
  · exact hisolated

theorem makeForwardRoom (hs : b.KeepsLimits s) : b.KeepsLimits s.makeForwardRoom := by
  unfold State.makeForwardRoom
  split
  · exact .ite (hs.freeEntry _) hs
  · exact hs

theorem endClosing (hs : b.KeepsLimits s) (h : HomeIndex) : b.KeepsLimits (s.endClosing h) := by
  unfold State.endClosing
  dsimp only
  split
  · exact hs.freeEntry h
  · have hroom : b.KeepsLimits { s.makeForwardRoom with forwardList := s.makeForwardRoom.forwardList ++ [h] } := hs.makeForwardRoom.same rfl rfl rfl rfl
    exact hroom.setHome fun _ => Nat.zero_le _

theorem succeedClaim (hs : b.KeepsLimits s) (h : HomeIndex) (m : Option Station) : b.KeepsLimits (s.succeedClaim h m) := by
  unfold State.succeedClaim
  dsimp only
  split
  · split
    · exact hs
    · refine (((((hs.onLink _).onEnrol fun he => he.forget _).setHome fun hb => ?_).giveTag _ _ h).offerCtl _ _)
      rw [Home.onOpen_score]
      exact hs.scores h hb
  · exact hs

/-! ### The search queue (R20) -/

theorem endWalk (hs : b.KeepsLimits s) : b.KeepsLimits s.endWalk where
  scores := hs.scores
  trees := hs.trees
  enrol := hs.enrol
  walks h := by
    rw [State.endWalk, List.length_tail]
    exact (Nat.sub_le _ _).trans (hs.walks h)

/-- R20: the search queue takes a request while it holds fewer than 6. -/
theorem queueWalk (hs : b.KeepsLimits s) (r : WalkRequest) : b.KeepsLimits (s.queueWalk r).1 := by
  unfold State.queueWalk
  split
  · rename_i hroom
    refine ⟨hs.scores, hs.trees, hs.enrol, fun _ => ?_⟩
    rw [List.length_append, List.length_singleton]
    exact hroom
  · exact hs

/-! ### Searches -/

theorem commandCandidate (hs : b.KeepsLimits s) (t : Tree) (target : List Nat) (p : Candidate × Nat) : b.KeepsLimits (s.commandCandidate t target p) := by
  unfold State.commandCandidate
  dsimp only
  split
  · split
    · exact hs
    · exact .ite ((hs.onHome id).offerCtl t _) (.ite ((hs.onHome id).offerCtl t _) hs)
  · exact hs

theorem setupProbe (hs : b.KeepsLimits s) (t : Tree) (step : SearchStep) (first count : Nat) : b.KeepsLimits (s.setupProbe t step first count) :=
  (hs.onSearch t _).foldl (fun p hv => hv.commandCandidate t _ p) _

theorem startSearch (hs : b.KeepsLimits s) (t : Tree) (cause : SearchCause) : b.KeepsLimits (s.startSearch t cause) :=
  setupProbe (hs.onTree ⟨id, id, id⟩) t .baseline 0 0

theorem endSilence (hs : b.KeepsLimits s) (t : Tree) (h : HomeIndex) : b.KeepsLimits (State.endSilence t s h) := by
  unfold State.endSilence
  dsimp only
  split
  · split
    · exact (hs.onHome id).offerCtl t _
    · exact hs.onHome id
  · exact hs

/-- R115: the end of a search sets the dark counter to 0 and the hold-off to at most 1000. -/
theorem endSearch (hs : b.KeepsLimits s) (t : Tree) (o : SearchOutcome) (r : SearchReason) : b.KeepsLimits (s.endSearch t o r) := by
  have hsilent : b.KeepsLimits (homeIndexes.foldl (State.endSilence t) (s.onTree t TreeLine.forgetAwaited)) :=
    foldl (hs.onTree ⟨id, id, id⟩) (fun h hv => hv.endSilence t h) _
  exact event (hsilent.onTree ⟨fun _ => Nat.zero_le _, fun _ => holdOffAfter_le o, id⟩) _

theorem nextProbe (hs : b.KeepsLimits s) (t : Tree) (step : SearchStep) (first count : Nat) : b.KeepsLimits (s.nextProbe t step first count) :=
  .ite (hs.endSearch t _ _) (hs.setupProbe t _ _ _)

theorem examine (hs : b.KeepsLimits s) (t : Tree) (first count : Nat) : b.KeepsLimits (s.examine t first count) :=
  .ite (hs.nextProbe t _ _ _) (hs.nextProbe t _ _ _)

theorem popTrail (hs : b.KeepsLimits s) (t : Tree) : b.KeepsLimits (s.popTrail t) := by
  unfold State.popTrail
  dsimp only
  split
  · exact hs.nextProbe t _ _ _
  · exact (hs.onSearch t _).examine t _ _

theorem confirmClear (hs : b.KeepsLimits s) (t : Tree) (pos : Nat) : b.KeepsLimits (s.confirmClear t pos) := by
  unfold State.confirmClear
  split
  · exact hs
  · exact .ite ((hs.isolate _ _ _).onSearch t _) (.ite (hs.onSearch t _) hs)

theorem verdict (hs : b.KeepsLimits s) (t : Tree) (lit : Bool) : b.KeepsLimits (s.verdict t lit) := by
  unfold State.verdict
  dsimp only
  split
  case h_1 | h_7 | h_9 | h_10 => exact hs.endSearch t _ _
  case h_2 => exact .ite (hs.nextProbe t _ _ _) (hs.examine t _ _)
  case h_3 => exact hs.examine t _ _
  case h_4 => exact (hs.onSearch t _).examine t _ _
  case h_5 => exact (hs.confirmClear t _).nextProbe t _ _ _
  case h_6 | h_8 => exact hs.popTrail t

theorem observe (hs : b.KeepsLimits s) (t : Tree) (dark : Bool) : b.KeepsLimits (s.observe t dark) := by
  unfold State.observe
  dsimp only
  split
  · exact hs
  · exact .ite ((hs.onSearch t _).verdict t _) (hs.onSearch t _)

/-! ### Evidence -/

/-- R100: a charge saturates the score at 255. -/
theorem charge (hs : b.KeepsLimits s) (h : HomeIndex) (k : Evidence) : b.KeepsLimits (s.charge h k) := by
  have hraised : b.KeepsLimits (s.onHome h fun x => x.raiseScore k.weight) := hs.onHome fun _ => Home.raiseScore_le _ _
  unfold State.charge
  dsimp only
  split
  case h_1 | h_2 | h_3 => exact .ite (hraised.isolate h _ _) hraised
  case h_4 | h_5 => exact hraised
  all_goals exact hs.same rfl rfl rfl rfl

theorem evidence (hs : b.KeepsLimits s) (t : Tree) (h : HomeIndex) (k : Evidence) : b.KeepsLimits (s.evidence t h k) :=
  (hs.onTree (.countEvidence _ k)).charge h k

theorem chargeIdentity (hs : b.KeepsLimits s) (h : HomeIndex) : b.KeepsLimits (s.chargeIdentity h) :=
  charge (s := { s with identities := bump s.identities }) (hs.same rfl rfl rfl rfl) h .identity

/-- R113: an addition saturates the dark counter at 255. -/
theorem addDark (hs : b.KeepsLimits s) (t : Tree) (w : Nat) : b.KeepsLimits (s.addDark t w) := by
  have hadded : b.KeepsLimits (s.onTree t fun y => { y with darkCounter := satAdd 255 (s.tree t).darkCounter w }) :=
    hs.onTree ⟨fun _ => Nat.min_le_left _ _, id, id⟩
  exact .ite hs (.ite (startSearch (hadded.onTree ⟨id, id, id⟩) t _) hadded)

theorem overlap (hs : b.KeepsLimits s) (t : Tree) : b.KeepsLimits (s.overlap t) := addDark (hs.onTree ⟨id, id, id⟩) t 2

theorem dark (hs : b.KeepsLimits s) (t : Tree) : b.KeepsLimits (s.dark t) := addDark (hs.onTree ⟨id, id, id⟩) t 4

end State.KeepsLimits

end Sys2Proof.Machine
end

section
/-! SUPPORT. The limits through enrolment, the round and the requests (R20, R46 to R65, R100, R115), and that every command keeps them. -/

namespace Sys2Proof.Machine

namespace State.KeepsLimits

variable {b s : State}

/-! ### Captures and rejoins (R46 to R51) -/

theorem noteUnknown (hs : b.KeepsLimits s) (id : Identity) (t : Tree) (r : UnknownReason) : b.KeepsLimits (s.noteUnknown id t r) :=
  hs.onEnrol fun he => he.takeUnknown id t r

theorem dealCapture (hs : b.KeepsLimits s) (t : Tree) (id : Identity) : b.KeepsLimits (State.dealCapture t s id) := by
  have hq := hs.queueWalk (wholeWalk (.capture t) id)
  unfold State.dealCapture
  split
  · exact hs.onEnrol fun he => he
  · split <;> rename_i e <;> rw [e] at hq
    · exact hq
    · exact hq.same rfl rfl rfl rfl

/-- R46: the captures of a DISCOVER zone replace the capture list. -/
theorem capture (hs : b.KeepsLimits s) (t : Tree) (bursts : List (List Byte)) : b.KeepsLimits (s.capture t bursts) := by
  have hlist := captured_within bursts ⟨[], 0, 0⟩ ⟨Nat.zero_le _, List.nodup_nil⟩
  have hcaptured : b.KeepsLimits (s.onTree t fun x => { x with captures := (bursts.foldl CaptureFill.burst ⟨[], 0, 0⟩).list }) :=
    hs.onTree ⟨id, id, fun _ => hlist⟩
  exact foldl (hcaptured.onEnrol fun he => he) (fun id hv => hv.dealCapture t id) _

theorem admitCapture (hs : b.KeepsLimits s) (t : Tree) (id : Identity) : b.KeepsLimits (s.admitCapture t id) := by
  unfold State.admitCapture
  split
  · exact hs.onEnrol fun he => he
  · split
    · exact hs.noteUnknown ..
    · split
      · exact hs.noteUnknown ..
      · exact .ite (hs.noteUnknown ..) (.ite (hs.noteUnknown ..) (((hs.setHome fun _ => Nat.zero_le _).poolAdd t _).offerClaim _))

theorem ignoreCapture (hs : b.KeepsLimits s) : b.KeepsLimits s.ignoreCapture := hs.onEnrol fun he => he

theorem rejoin (hs : b.KeepsLimits s) (h : HomeIndex) (t : Tree) (id : Identity) : b.KeepsLimits (s.rejoin h t id) := by
  unfold State.rejoin
  dsimp only
  split
  · exact (hs.setHome (by exact hs.scores h)).offerCtl t _
  · exact hs.setHome (hs.scores h)

theorem rejoinMoved (hs : b.KeepsLimits s) (h : HomeIndex) (t : Tree) (id : Identity) : b.KeepsLimits (s.rejoinMoved h t id) := by
  unfold State.rejoinMoved
  dsimp only
  split
  · split
    · exact hs.noteUnknown ..
    · exact (((((hs.leavePool _).drainTag _).poolAdd t _).setHome (by exact hs.scores h)).giveTag t _ h).offerCtl t _
  · exact hs.noteUnknown ..

theorem localConflict (hs : b.KeepsLimits s) (h : HomeIndex) (t : Tree) (id : Identity) : b.KeepsLimits (s.localConflict h t id) := by
  have hbarred : b.KeepsLimits ((s.onEnrol fun e => e.bar id).event (.identityConflict id h (s.home h).tree (.localTree t))) :=
    (hs.onEnrol fun he => he.bar id).event _
  exact .ite (hbarred.abandonClaim h) (hbarred.chargeIdentity h)

theorem actCapture (hs : b.KeepsLimits s) (t : Tree) (id : Identity) : b.KeepsLimits (s.actCapture t id) := by
  unfold State.actCapture
  dsimp only
  split
  · exact hs.admitCapture t id
  · split
    case h_1 => exact hs.admitCapture t id
    case h_2 => exact (hs.freeEntry _).admitCapture t id
    case h_3 => exact .ite (hs.rejoin ..) (hs.rejoinMoved ..)
    case h_4 | h_5 => exact .ite (hs.rejoin ..) (hs.localConflict ..)
    case h_6 | h_7 => exact .ite hs.ignoreCapture (hs.localConflict ..)
    case h_8 | h_9 => exact hs.ignoreCapture

/-! ### The claim protocol (R55 to R61) -/

theorem sendObject (hs : b.KeepsLimits s) (c : Station) (id : Identity) (i : Byte) (k : ObjectKind) : b.KeepsLimits (s.sendObject c id i k) :=
  hs.same rfl rfl rfl rfl
theorem sendRelease (hs : b.KeepsLimits s) (c : Station) (id : Identity) (i : Byte) : b.KeepsLimits (s.sendRelease c id i) := hs.same rfl rfl rfl rfl
theorem unmatched (hs : b.KeepsLimits s) : b.KeepsLimits s.unmatched := hs.onEnrol fun he => he

theorem hearClaim (hs : b.KeepsLimits s) (c : Station) (id : Identity) (i : Byte) : b.KeepsLimits (s.hearClaim c id i) := by
  have hq := (hs.onEnrol (f := fun e => e.forget id) fun he => he.forget id).queueWalk (wholeWalk (.claim c i) id)
  unfold State.hearClaim
  dsimp only
  split <;> rename_i e <;> rw [e] at hq
  · exact hq
  · exact hq.sendObject ..

/-- A claim given up for another station's: the entry freed, the identity barred and the event queued. -/
theorem abandonBarred (hs : b.KeepsLimits s) (h : HomeIndex) (id : Identity) (e : EventKind) :
    b.KeepsLimits (((s.abandonClaim h).onEnrol fun x => x.bar id).event e) :=
  ((hs.abandonClaim h).onEnrol fun he => he.bar id).event e

theorem actClaim (hs : b.KeepsLimits s) (c : Station) (i : Byte) (id : Identity) : b.KeepsLimits (s.actClaim c i id) := by
  unfold State.actClaim
  dsimp only
  split
  · exact hs
  · split
    case h_1 => exact hs
    case h_2 => exact (hs.closeEntry ..).sendRelease ..
    case h_3 => exact (hs.onHome fun hx => hx).sendRelease ..
    case h_4 => exact hs.onHome fun hx => hx
    case h_5 | h_6 | h_7 => exact (hs.sendObject ..).chargeIdentity _
    case h_8 => exact hs.sendObject ..
    case h_9 => exact hs.abandonBarred ..

theorem actRelease (hs : b.KeepsLimits s) (c : Station) (id : Identity) : b.KeepsLimits (s.actRelease c id) := by
  unfold State.actRelease
  split
  · exact hs
  · split
    case h_1 | h_2 => exact hs.onHome fun hx => hx
    all_goals exact hs

theorem objectWait (hs : b.KeepsLimits s) (h : HomeIndex) : b.KeepsLimits (s.objectWait h) := by
  unfold State.objectWait
  split
  · exact hs
  · exact .ite (hs.abandonClaim h) (.ite (hs.onHome id) ((hs.onHome id).offerClaim h))

theorem lateObject (hs : b.KeepsLimits s) (h : HomeIndex) (st : Station) (id : Identity) (k : ObjectKind) : b.KeepsLimits (s.lateObject h st id k) := by
  cases k with
  | wait => exact hs
  | held => exact .ite ((hs.event _).chargeIdentity h) (hs.event _)

theorem takeObject (hs : b.KeepsLimits s) (st : Station) (id : Identity) (i : Byte) (k : ObjectKind) : b.KeepsLimits (s.takeObject st id i k) := by
  unfold State.takeObject
  split
  · exact hs.unmatched
  · split
    · split
      · exact hs.abandonBarred ..
      · exact hs.objectWait _
    · exact hs.lateObject ..

theorem takeRelease (hs : b.KeepsLimits s) (r : Station) (id : Identity) (i : Byte) : b.KeepsLimits (s.takeRelease r id i) := by
  unfold State.takeRelease
  split
  · exact hs.unmatched
  · exact .ite (hs.succeedClaim ..) (.ite (hs.onHome fun hx => hx) hs)

theorem hearRelease (hs : b.KeepsLimits s) (src : Station) (id : Identity) (r c i : Byte) : b.KeepsLimits (s.hearRelease src id r c i) := by
  unfold State.hearRelease
  split
  · exact hs
  · exact .ite (hs.takeRelease ..) (hs.queueWalk _)

theorem claimSent (hs : b.KeepsLimits s) (f : Frame) : b.KeepsLimits (s.claimSent f) := by
  unfold State.claimSent
  split
  · exact .ite (hs.onHome id) hs
  all_goals exact hs

theorem dropped (hs : b.KeepsLimits s) (f : Frame) : b.KeepsLimits (s.dropped f) := by
  unfold State.dropped
  split
  · exact .ite ((hs.onHome id).offerClaim _) hs
  · exact hs.onLink _
  all_goals exact hs

theorem reofferFrame (hs : b.KeepsLimits s) (f : HeldFrame) : b.KeepsLimits (s.reofferFrame f) := by
  unfold State.reofferFrame
  split
  · exact hs.reofferClaim _
  · split
    · exact hs.offerShare ..
    · exact hs
  · split
    · exact (hs.onShare _).offerOvercommit ..
    · exact hs
  · split
    · exact (hs.onMeter _).offerHoldFull ..
    · exact hs

/-! ### Reach measurement (R63 to R65) -/

/-- R65: a new home that is freed joins the unknown list, and the admission list where there is room and it is not listed. -/
theorem failMeasurement (hs : b.KeepsLimits s) (h : HomeIndex) (r : UnknownReason) : b.KeepsLimits (s.failMeasurement h r) := by
  unfold State.failMeasurement
  dsimp only
  split
  · exact hs.setHome (hs.scores h)
  · split
    · refine ((hs.freeEntry h).noteUnknown ..).onEnrol fun he => ?_
      split
      · rename_i hroom
        exact he.joinAdmission hroom.1 (Option.isNone_iff_eq_none.1 hroom.2)
      · exact he
    · exact hs.freeEntry h

theorem failAttempt (hs : b.KeepsLimits s) (h : HomeIndex) : b.KeepsLimits (s.failAttempt h) :=
  .ite (failMeasurement (hs.onHome id) h _) (hs.onHome id)

theorem acceptAttempt (hs : b.KeepsLimits s) (h : HomeIndex) (t : Tree) (reach : Nat) (m : Sample) : b.KeepsLimits (s.acceptAttempt h t reach m) := by
  unfold State.acceptAttempt
  dsimp only
  split
  · exact (hs.setHome (by exact hs.scores h)).offerCtl t _
  · exact hs.setHome (hs.scores h)

theorem takeSample (hs : b.KeepsLimits s) (h : HomeIndex) (t : Tree) (n : Nat) (x : Option Sample) : b.KeepsLimits (s.takeSample h t n x) := by
  unfold State.takeSample
  dsimp only
  split
  · exact hs.failAttempt h
  · split
    · exact hs.failMeasurement h _
    · rename_i x _
      have htaken : b.KeepsLimits (s.onHome h fun y => { y with samples := (s.home h).samples ++ [x] }) := hs.onHome id
      refine .ite htaken ?_
      split
      · split
        · exact htaken.acceptAttempt ..
        · exact htaken
      · exact htaken.failAttempt h

theorem zone (hs : b.KeepsLimits s) (t : Tree) (z : ZoneRx) : b.KeepsLimits (s.zone t z) := by
  have htaken : b.KeepsLimits (s.onTree t fun y => { y with zoneTaken := true }) := hs.onTree ⟨id, id, id⟩
  unfold State.zone
  dsimp only
  split
  · exact hs
  · refine .ite hs ?_
    split
    · exact htaken.capture t _
    · exact .ite (htaken.takeSample ..) htaken

/-! ### The round -/

theorem addSince (hs : b.KeepsLimits s) (w : Window) : b.KeepsLimits (s.addSince w) := hs.onHome id

theorem swapTree (hs : b.KeepsLimits s) (t : Tree) : b.KeepsLimits (s.swapTree t) := by
  unfold State.swapTree
  dsimp only
  split
  · exact foldl (hs.setTree (by exact (hs.trees t).trans ⟨id, id, id⟩)) (fun w hv => hv.addSince w) _
  · exact hs

theorem reportSent (hs : b.KeepsLimits s) (t : Tree) (m : CtlMsg) : b.KeepsLimits (State.reportSent t s m) := by
  have hannounced : b.KeepsLimits (s.announced t m.tag) := by
    unfold State.announced
    dsimp only
    split
    · exact hs
    · exact .ite (hs.onHome id) hs
  have hsoaking : b.KeepsLimits (s.delaySent t m.tag) := by
    unfold State.delaySent
    split
    · exact hs
    · exact .ite (hs.onHome id) hs
  unfold State.reportSent
  split
  case h_1 => exact hs.onTree (.freeTag _ _)
  case h_2 | h_3 => exact hannounced
  case h_4 => exact hsoaking
  all_goals exact hs

theorem sendHeader (hs : b.KeepsLimits s) (t : Tree) : b.KeepsLimits (s.sendHeader t) := by
  unfold State.sendHeader
  dsimp only
  split
  · exact foldl ((hs.emit _).onTree (.sendHeader _)) (fun m hv => hv.reportSent t m) _
  · exact hs

theorem roundBoundary (hs : b.KeepsLimits s) : b.KeepsLimits s.roundBoundary := by
  have hticked := (hs.onClock RoundClock.boundary).mapHomes (f := fun _ x => x.boundaryTick ((s.onClock RoundClock.boundary).runsFor x))
    fun h => by rw [Home.boundaryTick_score]; exact id
  exact (hticked.foldl (fun t hv => hv.swapTree t) Tree.all).foldl (fun t hv => hv.sendHeader t) Tree.all

theorem finishBuild (hs : b.KeepsLimits s) (t : Tree) (st : Stage1) (e xAll : Nat) : b.KeepsLimits (s.finishBuild t st e xAll) := by
  unfold State.finishBuild
  refine mapHomes (hs.onTree ⟨id, id, id⟩) fun h hx => ?_
  rw [Home.afterBuild_score]
  exact hx

theorem mapPoint (hs : b.KeepsLimits s) : b.KeepsLimits s.mapPoint := by
  have hused : b.KeepsLimits { s with eUsed := s.share.e, clock := { s.clock with mapPassed := true } } := hs.same rfl rfl rfl rfl
  unfold State.mapPoint
  dsimp only
  split
  · exact hused
  · exact (hused.foldl (fun build hv => hv.finishBuild ..) _).same rfl rfl rfl rfl

theorem epochEnd (hs : b.KeepsLimits s) : b.KeepsLimits { s with trees := s.trees.map TreeLine.epochEnd } where
  scores := hs.scores
  trees t := by
    simp only [State.tree, Quad_get_map]
    exact (hs.trees t).trans (.epochEnd _)
  enrol := hs.enrol
  walks := hs.walks

theorem periodClose (hs : b.KeepsLimits s) (m : Moment) : b.KeepsLimits (s.periodClose m) := by
  have hclosed := hs.mapHomes (f := fun _ x => x.atClose m) fun h => by rw [Home.atClose_score]; exact id
  unfold State.periodClose
  exact (hclosed.onMeter _).wakeWalk.onCal _

/-! ### Bursts, quiet windows and packets -/

theorem deliverPayload (hs : b.KeepsLimits s) (t : Tree) (h : HomeIndex) (ps : Option (List (List Byte))) : b.KeepsLimits (s.deliverPayload t h ps) := by
  unfold State.deliverPayload
  split
  · exact hs.onTree ⟨id, id, id⟩
  · exact onHome (hs.foldl (fun p hv => hv.emit _) _) fun hx => by rw [Home.deliver_score]; exact hx

theorem accumulateDrift (hs : b.KeepsLimits s) (t : Tree) (h : HomeIndex) (δ : Int) : b.KeepsLimits (s.accumulateDrift t h δ) := by
  unfold State.accumulateDrift
  dsimp only
  refine .ite hs (.ite (hs.setHome (hs.scores h)) ?_)
  split
  · split
    · exact hs
    · exact .ite ((hs.setHome (by exact hs.scores h)).offerCtl t _) (hs.setHome (hs.scores h))
  · exact hs

theorem judgeBurst (hs : b.KeepsLimits s) (c : Config) (t : Tree) (h : HomeIndex) (δ : Int) (m l : Nat) : b.KeepsLimits (s.judgeBurst c t h δ m l) := by
  have hdrift : b.KeepsLimits (if beyond δ c.drift then s.evidence t h .drift else s) := .ite (hs.evidence ..) hs
  exact .ite (hdrift.overlap t) hdrift

theorem lostReturn (hs : b.KeepsLimits s) (c : Config) (h : HomeIndex) (δ : Int) : b.KeepsLimits (s.lostReturn c h δ) :=
  .ite (.ite (hs.onHome id) (hs.onHome id)) hs

theorem goodServed (hs : b.KeepsLimits s) (c : Config) (t : Tree) (h : HomeIndex) (r : BurstRx) (w : Window) (δ : Int) (d : Head) (m : Nat) :
    b.KeepsLimits (s.goodServed c t h r w δ d m) := by
  have hreported : b.KeepsLimits ((s.onHome h fun y => { y with missed := 0 }).recordReport h d.report) := onHome (hs.onHome id) id
  exact (((hreported.deliverPayload t h _).onHome id).accumulateDrift t h δ).judgeBurst c t h δ m _

theorem goodLost (hs : b.KeepsLimits s) (c : Config) (t : Tree) (h : HomeIndex) (r : BurstRx) (w : Window) (δ : Int) (d : Head) (m : Nat) :
    b.KeepsLimits (s.goodLost c t h r w δ d m) := by
  have hheard : b.KeepsLimits (s.onHome h fun y => { y with missed := 0 }) := hs.onHome id
  have hreported : b.KeepsLimits ((s.onHome h fun y => { y with missed := 0 }).recordReport h d.report) := hheard.onHome id
  unfold State.goodLost
  dsimp only
  split
  · have hpaid := hheard.deliverPayload t h (burstPackets r d.bytes w.payload)
    exact .ite ((hpaid.judgeBurst ..).lostReturn ..) ((hpaid.lostReturn ..).judgeBurst ..)
  · exact (((hreported.deliverPayload t h _).onHome id).lostReturn c h δ).judgeBurst ..

theorem missWindow (hs : b.KeepsLimits s) (h : HomeIndex) : b.KeepsLimits (s.missWindow h) :=
  hs.onHome fun hx => by
    dsimp only
    split <;> exact hx

theorem takeBurst (hs : b.KeepsLimits s) (c : Config) (t : Tree) (w : Window) (r : BurstRx) : b.KeepsLimits (s.takeBurst c t w r) := by
  unfold State.takeBurst
  dsimp only
  split
  · exact .ite (hs.missWindow _) hs
  · exact hs.onTree ⟨id, id, id⟩
  · exact .ite (.ite (hs.goodLost ..) (hs.goodServed ..)) hs

theorem takeGuard (hs : b.KeepsLimits s) (t : Tree) (before : Option Window) (lit : Bool) (w : Window) (r : BurstRx) :
    b.KeepsLimits (s.takeGuard t before lit w r) := .ite (hs.evidence ..) hs

theorem burst (hs : b.KeepsLimits s) (c : Config) (t : Tree) (r : BurstRx) : b.KeepsLimits (s.burst c t r) := by
  unfold State.burst
  dsimp only
  split
  · exact hs
  · have htaken : b.KeepsLimits (s.onTree t fun y => { y with windowsTaken := y.windowsTaken + 1, lastBlockLit := litAt (r.levels.getLastD 0) }) :=
      hs.onTree ⟨id, id, id⟩
    exact .ite ((htaken.takeGuard ..).takeBurst ..) ((htaken.takeBurst ..).takeGuard ..)

theorem handQuiet (hs : b.KeepsLimits s) (t : Tree) (observed dark : Bool) : b.KeepsLimits (s.handQuiet t observed dark) :=
  .ite (.ite (hs.observe t dark) hs) (.ite (hs.dark t) hs)

theorem quietWindow (hs : b.KeepsLimits s) (c : Config) (t : Tree) (level : Byte) : b.KeepsLimits (s.quietWindow c t level) := by
  unfold State.quietWindow
  dsimp only
  split
  · exact handQuiet (hs.onTree ⟨id, id, id⟩) t _ _
  · split
    · exact handQuiet (hs.onTree ⟨id, id, id⟩) t _ _
    · exact hs

theorem downstream (hs : b.KeepsLimits s) (home : Nat) (packet : List Byte) : b.KeepsLimits (s.downstream home packet) := by
  have hrefused : b.KeepsLimits s.refuseDownstream := hs.same rfl rfl rfl rfl
  unfold State.downstream
  split
  · dsimp only
    split
    · exact .ite ((hs.onHome fun hx => by rw [Home.onOpen_score]; exact hx).emit _) hrefused
    · exact hrefused
  · exact hrefused

/-! ### The emission walk -/

theorem enqueue (hs : b.KeepsLimits s) (r : Record) : b.KeepsLimits (s.enqueue r) :=
  .ite (((hs.onMeter _).onMeter _).offerHoldFull ..) (hs.onMeter _)

theorem walkStep (hs : b.KeepsLimits s) : b.KeepsLimits s.walkStep := by
  have hpassed : b.KeepsLimits { s with emission := { s.emission with passes := 0 } } := hs.same rfl rfl rfl rfl
  unfold State.walkStep
  dsimp only
  split
  · split
    · exact .ite ((hpassed.enqueue _).setHome (hpassed.scores _)) ((hpassed.enqueue _).endClosing _)
    · exact hs.same rfl rfl rfl rfl
  · exact hs.same rfl rfl rfl rfl

/-! ### What the owning blocks of requests do -/

theorem takeAdmission (hs : b.KeepsLimits s) (rx : Rx) (a : Admission) : b.KeepsLimits (s.takeAdmission rx a).state := by
  unfold State.takeAdmission
  split
  · rename_i ha
    exact hs.onEnrol (f := fun _ => _) fun he => he.admitEntry ha
  · split
    · exact hs
    · exact hs.onEnrol (f := fun e => { e with droppedAdmissions := bump e.droppedAdmissions }) fun he => he

theorem retire (hs : b.KeepsLimits s) (h : HomeIndex) : b.KeepsLimits (s.retire h).state := by
  unfold State.retire
  split
  case h_2 => exact hs.freeEntry h
  case h_6 | h_7 | h_8 | h_9 => exact hs.closeEntry ..
  all_goals exact hs

/-- R12: a pardoned entry has score 0. -/
theorem pardon (hs : b.KeepsLimits s) (h : HomeIndex) : b.KeepsLimits (s.pardon h).state := by
  have hpardoned : b.KeepsLimits (s.pardonHome h) := by
    have hset : b.KeepsLimits ((s.leaveIsolated (s.home h)).setHome h ({ s.home h with score := 0 }.toMeasuring .announcing)) :=
      (hs.leaveIsolated _).setHome fun _ => Nat.zero_le _
    unfold State.pardonHome
    dsimp only
    split
    · exact (hset.onTree ⟨id, id, id⟩).offerCtl ..
    · exact hset
  unfold State.pardon
  split
  case h_9 => exact hpardoned
  all_goals exact hs

theorem setClass (hs : b.KeepsLimits s) (h : HomeIndex) (g p : Nat) : b.KeepsLimits (s.setClass h g p).state := by
  have hwritten : b.KeepsLimits (s.writeClass h g p) := by
    unfold State.writeClass
    dsimp only
    split
    · exact (hs.setHome (by exact hs.scores h)).onTree ⟨id, id, id⟩
    · exact hs.setHome (hs.scores h)
  unfold State.setClass
  split
  case h_6 | h_7 | h_8 | h_9 =>
    split
    · exact hs
    · exact hwritten
  all_goals exact hs

theorem searchRequest (hs : b.KeepsLimits s) (t : Tree) : b.KeepsLimits (s.searchRequest t).state := by
  unfold State.searchRequest
  split
  · exact hs
  · split
    · exact hs
    · exact hs.startSearch t _

theorem abortRequest (hs : b.KeepsLimits s) (t : Tree) : b.KeepsLimits (s.abortRequest t).state := by
  unfold State.abortRequest
  dsimp only
  split
  · exact hs
  · exact hs.endSearch t _ _

theorem stopRequest (hs : b.KeepsLimits s) (t : Tree) : b.KeepsLimits (s.stopRequest t).state := by
  have hended : b.KeepsLimits (if (s.tree t).search.running then s.endSearch t .aborted .stop else s) := .ite (hs.endSearch t _ _) hs
  unfold State.stopRequest
  split
  · refine mapHomes (f := fun _ x => x.stopMeasuring t) (hended.onTree ⟨id, id, id⟩) fun h hx => ?_
    rw [Home.stopMeasuring_score]
    exact hx
  · exact hs

theorem assignAgain (hs : b.KeepsLimits s) (t : Tree) (h : HomeIndex) : b.KeepsLimits (State.assignAgain t s h) := by
  unfold State.assignAgain
  dsimp only
  split
  · split
    · exact .ite hs (hs.offerCtl t _)
    · exact hs
  · exact hs

theorem laserOffAgain (hs : b.KeepsLimits s) (t : Tree) (h : HomeIndex) : b.KeepsLimits (State.laserOffAgain t s h) := by
  have hset : b.KeepsLimits (s.setHome h { s.home h with refresh := some 0, refreshDue := false }) := hs.setHome (hs.scores h)
  unfold State.laserOffAgain
  dsimp only
  split
  · split
    · exact hset.offerCtl t _
    · exact hset
  · exact hs

theorem startTree (hs : b.KeepsLimits s) (c : Config) (t : Tree) : b.KeepsLimits (s.startTree c t) := by
  have hmeasuring : b.KeepsLimits ((s.onTree t fun x => x.start c).mapHomes fun _ x => if x.servedOn t then x.toMeasuring .announcing else x) :=
    mapHomes (hs.onTree ⟨id, id, id⟩) fun h hx => by split <;> exact hx
  exact foldl (hmeasuring.foldl (fun h hv => hv.assignAgain t h) _) (fun h hv => hv.laserOffAgain t h) _

theorem startRequest (hs : b.KeepsLimits s) (t : Tree) : b.KeepsLimits (s.startRequest t).state := by
  unfold State.startRequest
  split
  · exact hs
  · split
    · exact hs
    · rw [State.accept_state]
      exact hs.startTree _ t

theorem applyTime (hs : b.KeepsLimits s) (m : Moment) (w : Nat) : b.KeepsLimits (s.applyTime m w) := by
  have hmarked : b.KeepsLimits (if s.cal.isStep m then s.mapHomes fun _ x => x.markStep else s) :=
    .ite (hs.mapHomes fun h => by rw [Home.markStep_score]; exact id) hs
  unfold State.applyTime
  exact (hmarked.onClock _).onCal _

theorem configure (hs : b.KeepsLimits s) (rx : Rx) (args : List Byte) : b.KeepsLimits (s.configure rx args).state := by
  unfold State.configure State.ranged
  split
  · exact hs
  · split
    · exact hs
    · rename_i c _
      split
      · exact hs
      · have hset : b.KeepsLimits { s with config := some c, share := s.share.purge c.ranks, cal := { s.cal with closeTime := c.close } } :=
          hs.same rfl rfl rfl rfl
        exact hset.foldl (fun t hv => hv.onTree ⟨id, id, id⟩) _

theorem releaseRecord (hs : b.KeepsLimits s) (n : BitVec 16) : b.KeepsLimits (s.releaseRecord n).state := by
  have hdropped : b.KeepsLimits s.dropHead := by
    unfold State.dropHead
    dsimp only
    split <;> exact hs.same rfl rfl rfl rfl
  unfold State.releaseRecord
  split
  · exact hs
  · split
    · exact hdropped
    · exact hs

theorem find (hs : b.KeepsLimits s) (rx : Rx) (n : BitVec 16) (args : List Byte) : b.KeepsLimits (s.find rx n args) := by
  unfold State.find
  split
  · exact conclude hs
  · rename_i id start count _
    have hq := hs.queueWalk ⟨.find rx.src n, id, start, count⟩
    split <;> rename_i e <;> rw [e] at hq
    · exact hq
    · exact conclude hq

theorem collect (hs : b.KeepsLimits s) (rx : Rx) (n : BitVec 16) : b.KeepsLimits (s.collect rx n) := by
  unfold State.collect
  split
  · exact conclude hs
  · exact hs.same rfl rfl rfl rfl

/-! ### Frames received and requests -/

variable {rx : Rx}

theorem receive (hs : b.KeepsLimits s) {f : State → State} (hf : ∀ {v : State}, b.KeepsLimits v → b.KeepsLimits (f v)) :
    b.KeepsLimits (s.receive rx f) := .ite (hf hs.countReceived) hs

theorem receivePeer (hs : b.KeepsLimits s) {f : State → State} (hf : ∀ {v : State}, b.KeepsLimits v → b.KeepsLimits (f v)) :
    b.KeepsLimits (s.receivePeer rx f) :=
  hs.receive fun hv => by
    split
    · exact hv
    · exact .ite (hf hv) (hv.onLink _)

theorem request (hs : b.KeepsLimits s) {n : BitVec 16} {k : Byte} {top : Nat} {only : Bool} {act : State → State}
    (ha : ∀ {v : State}, b.KeepsLimits v → b.KeepsLimits (act v)) : b.KeepsLimits (s.request rx n k top only act) :=
  hs.receive fun hv => by
    split
    · exact .ite (conclude hv) hv
    · exact .ite hv (.ite (conclude hv) (ha hv))

/-- A request answered by its owning block keeps what the block keeps. -/
theorem ranged (hs : b.KeepsLimits s) {α : Type} {n : BitVec 16} {k : Byte} {top : Nat} {only : Bool} {read : Option α} {f : State → α → Answer}
    (hf : ∀ {v : State} (a : α), b.KeepsLimits v → b.KeepsLimits (f v a).state) :
    b.KeepsLimits (s.request rx n k top only (State.answer rx n k fun v => v.ranged read (f v))) :=
  hs.request fun hv => conclude <| by
    cases read with
    | none => exact hv
    | some a => exact hf a hv

theorem unknownKind (hs : b.KeepsLimits s) (payload : List Byte) : b.KeepsLimits (s.unknownKind rx payload) :=
  .ite (conclude hs) (.ite (conclude hs) hs)

end State.KeepsLimits

/-! ### Every command -/

/-- Every command but PIN_RESET keeps what is within its limit there. -/
theorem exec_keepsLimits {c : Instr} {s s' : State} (hc : ∀ stn mgt, c ≠ .pinReset stn mgt) (hx : exec c s = .next s') : s.KeepsLimits s' := by
  cases c
  case pinReset stn mgt => exact absurd rfl (hc stn mgt)
  all_goals
    injection hx with hx
    subst hx
    have hs := (State.KeepsLimits.refl s).begin
    generalize s.begin = v at hs
    beta_reduce
  case roundBoundary => exact hs.roundBoundary
  case controlMessageReoffer t place => exact hs.reoffer t place
  case heldFrameReoffer f => exact hs.reofferFrame f
  case soakEnd h => exact .ite (hs.onHome id) hs
  case claimHoldExpiry h =>
    split
    · exact .ite (hs.succeedClaim h none) hs
    · exact hs
  case probeSettled t => exact .ite (hs.onSearch t _) hs
  case epochEnd =>
    refine .ite (State.KeepsLimits.epochEnd ((hs.onClock _).mapHomes fun h hx => ?_)) hs
    rw [Home.refreshTick_score, Home.halve_score]
    exact (Nat.div_le_self _ _).trans hx
  case laserOffRefresh h =>
    have hset : s.KeepsLimits (v.setHome h { v.home h with refresh := some 0, refreshDue := false }) := hs.setHome (hs.scores h)
    refine .ite ?_ hs
    split
    · exact .ite hset (hset.offerCtl _ _)
    · exact hset
  case sharePeriodEnd => exact .ite (hs.onClock _).shareEnd hs
  case secondTick =>
    refine .ite (State.KeepsLimits.onCal (State.KeepsLimits.onEnrol ((hs.onClock _).mapHomes fun h => ?_) fun he => he.secondTick) _) hs
    rw [Home.secondTick_score]
    exact id
  case lostTimeout h =>
    split
    · exact .ite (hs.closeEntry ..) hs
    · exact hs
  case periodClose =>
    split
    · exact hs.periodClose _
    · exact hs
  case forwardRetentionExpiry h => exact .ite (hs.freeEntry h) hs
  case mapPoint => exact .ite hs hs.mapPoint
  case burstReceived t r =>
    split
    · exact hs.burst _ t r
    · exact hs
  case zoneReceived t z => exact hs.zone t z
  case quietWindowMeasured t level =>
    split
    · exact hs.quietWindow _ t level
    · exact hs
  case downstreamPacket home packet => exact hs.downstream home packet
  case captureCheckComplete =>
    split
    · exact hs.endWalk.actCapture ..
    · exact hs
  case claimCheckComplete =>
    split
    · exact hs.endWalk.actClaim ..
    · exact hs
  case releaseCheckComplete =>
    split
    · exact hs.endWalk.actRelease ..
    · exact hs
  case findWalkComplete r =>
    split
    · split
      · exact hs.same rfl rfl rfl rfl
      · exact hs.endWalk.same rfl rfl rfl rfl
    · exact hs
  case emissionWalk => exact .ite hs.walkStep hs
  case idleGapElapsed | linkCollision =>
    split
    · exact (hs.onLink _).emit _
    all_goals exact hs
  case frameSent =>
    split
    · exact ((hs.onLink _).emit _).claimSent _
    · exact hs
  case jamEnd =>
    split
    · exact .ite (((hs.onLink _).onLink _).dropped _) ((hs.onLink _).onLink _)
    · exact hs
  case backoffEnd | badFrame bytes =>
    split
    · exact hs.onLink _
    · exact hs
  case unknownClass rx cls payload => exact .ite (hs.onLink _) hs
  case claim rx payload =>
    refine hs.receivePeer fun hv => ?_
    split
    · exact hv.hearClaim ..
    · exact hv
  case object rx payload =>
    refine hs.receivePeer fun hv => ?_
    split
    · split
      · exact hv.takeObject ..
      · exact hv.unmatched
    · exact hv
  case release rx payload =>
    refine hs.receivePeer fun hv => ?_
    split
    · exact hv.hearRelease ..
    · exact hv
  case share rx payload =>
    refine hs.receive fun hv => ?_
    split
    · exact hv.takeShare ..
    · exact hv
  case event rx payload | response rx payload => exact hs.receive id
  case configure rx num args => exact hs.receive fun hv => (hv.configure rx args).conclude
  case time rx num args => exact hs.ranged fun a hv => hv.applyTime ..
  case tariff rx num args => exact hs.ranged fun a hv => hv.same rfl rfl rfl rfl
  case admitHome rx num args => exact hs.ranged fun a hv => hv.takeAdmission rx a
  case withdraw rx num args =>
    refine hs.ranged fun a hv => ?_
    split
    · exact hv.onEnrol (f := fun e => e.forget a) fun he => he.forget a
    · exact hv
  case unbar rx num args =>
    refine hs.ranged fun a hv => ?_
    split
    · exact hv.onEnrol (f := fun e => { e with barred := e.barred.filter fun i => !decide (i = a) }) fun he => he.unbar a
    · exact hv
  case retire rx num args => exact hs.ranged fun h hv => hv.retire h
  case pardon rx num args => exact hs.ranged fun h hv => hv.pardon h
  case setClass rx num args => exact hs.ranged fun a hv => hv.setClass ..
  case search rx num args => exact hs.ranged fun t hv => hv.searchRequest t
  case abortSearch rx num args => exact hs.ranged fun t hv => hv.abortRequest t
  case stopTree rx num args => exact hs.ranged fun t hv => hv.stopRequest t
  case startTree rx num args => exact hs.ranged fun t hv => hv.startRequest t
  case queryHome rx num args =>
    refine hs.ranged fun h hv => ?_
    unfold State.queryHome
    split <;> exact hv
  case readLists rx num args => exact hs.ranged fun _ hv => hv
  case queryStation rx num args =>
    refine hs.ranged fun _ hv => ?_
    dsimp only
    split <;> exact hv
  case releaseRecord rx num args => exact hs.ranged fun n hv => hv.releaseRecord n
  case find rx num args => exact hs.request fun hv => hv.find rx num args
  case collect rx num args => exact hs.request fun hv => hv.collect rx num
  case unknownRequestKind rx payload => exact .ite (hs.receive fun hv => hv.unknownKind payload) hs

/-- What holds after a reset and does not leave the limits every step keeps. -/
theorem KeptByEveryStep.of_keepsLimits {inv : State → Prop} (hq : ∀ s q, inv s → inv { s with pending := q })
    (hreset : ∀ (stn mgt : Station) (q : List Instr), inv { State.afterReset stn mgt with pending := q })
    (hkeeps : ∀ {s s' : State}, s.KeepsLimits s' → inv s → inv s') : KeptByEveryStep inv := by
  refine KeptByEveryStep.of_exec hq fun c s s' hs hx => ?_
  by_cases hc : ∃ stn mgt, c = .pinReset stn mgt
  · obtain ⟨stn, mgt, rfl⟩ := hc
    injection hx with hx
    exact hx ▸ hreset stn mgt _
  · exact hkeeps (exec_keepsLimits (fun stn mgt e => hc ⟨stn, mgt, e⟩) hx) hs

/-- Settles O10: after a reset the counts and the lists are within their limits, and no other command takes one beyond its own. -/
theorem countsAndListsKept : Obligations.CountsAndListsKept :=
  ⟨KeptByEveryStep.of_keepsLimits (fun _ _ hs => hs) (fun stn mgt _ => State.scoresSound_afterReset stn mgt) fun k => k.scoresSound,
    KeptByEveryStep.of_keepsLimits (fun _ _ hs => hs) (fun stn mgt _ => State.listsSound_afterReset stn mgt) fun k => k.listsSound⟩

end Sys2Proof.Machine
end

section
/-! SUPPORT. EPOCH_END and SECOND_TICK (R53, R67, R106, R107, R111, R113, R115, R138, R143, R145, R151): what each does with an entry, a tree and the calendar clock, and the two
commands put together. -/

namespace Sys2Proof.Machine

/-! ### An entry at an epoch end (R106, R107, R111) -/

theorem Home.pendingToMeters_rescored (x : Home) (n : Nat) : ({ x with score := n } : Home).pendingToMeters = { x.pendingToMeters with score := n } := by
  unfold Home.pendingToMeters Home.onOpen
  dsimp only
  split <;> rfl

/-- R106, R107: the score is halved, and pending goes to the meters when it falls from 32 or more to below 32. -/
theorem Home.halve_eq (x : Home) :
    x.halve = { (if 32 ≤ x.score ∧ x.score / 2 < 32 then x.pendingToMeters else x) with score := x.score / 2 } := by
  have hleaves : (x.watched && !({ x with score := x.score / 2 } : Home).watched) = true ↔ 32 ≤ x.score ∧ x.score / 2 < 32 := by
    simp [Home.watched]
  unfold Home.halve
  dsimp only
  rw [if_congr hleaves rfl rfl]
  split
  · exact x.pendingToMeters_rescored _
  · rfl

/-- R111: the refresh count of an ISOLATED entry of a RUNNING tree rises, and one that would reach 100 is due instead. -/
theorem Home.refreshTick_ticks {x : Home} {running : Bool} (h : (decide (x.state = .isolated) && running) = true) :
    x.refreshTick running =
      { x with refresh := x.refresh.map fun n => if n < 99 then n + 1 else n
               refreshDue := x.refreshDue || x.refresh.any fun n => decide (99 ≤ n) } := by
  have hticks : x.state = .isolated ∧ running = true := by simpa using h
  unfold Home.refreshTick
  cases hr : x.refresh with
  | none =>
    cases x
    cases hr
    simp
  | some n =>
    dsimp only
    rw [if_pos hticks]
    cases x
    cases hr
    split
    · rename_i hn
      simp [hn, Nat.not_le.2 hn]
    · rename_i hn
      simp [hn, Nat.not_lt.1 hn]

theorem Home.refreshTick_rests {x : Home} {running : Bool} (h : (decide (x.state = .isolated) && running) = false) : x.refreshTick running = x := by
  have hrests : ¬(x.state = .isolated ∧ running = true) := by simpa using h
  unfold Home.refreshTick
  split
  · rfl
  · exact if_neg hrests

theorem Home.refreshTick_eq (x : Home) (running : Bool) :
    let ticks : Bool := decide (x.state = .isolated) && running
    x.refreshTick running =
      { x with refresh := if ticks then x.refresh.map (fun n => if n < 99 then n + 1 else n) else x.refresh
               refreshDue := x.refreshDue || (ticks && x.refresh.any fun n => decide (99 ≤ n)) } := by
  cases hticks : decide (x.state = .isolated) && running with
  | true => exact Home.refreshTick_ticks hticks
  | false =>
    rw [Home.refreshTick_rests hticks]
    dsimp only
    rw [Bool.false_and, Bool.or_false, if_neg Bool.false_ne_true]

/-- R106, R107, R111: an entry at an epoch end, halving first. -/
theorem Home.epochEnd_eq (x : Home) (running : Bool) :
    let ticks : Bool := decide (x.state = .isolated) && running
    x.halve.refreshTick running =
      { (if 32 ≤ x.score ∧ x.score / 2 < 32 then x.pendingToMeters else x) with
        score := x.score / 2
        refresh := if ticks then x.refresh.map (fun n => if n < 99 then n + 1 else n) else x.refresh
        refreshDue := x.refreshDue || (ticks && x.refresh.any fun n => decide (99 ≤ n)) } := by
  rw [Home.refreshTick_eq, Home.halve_eq]
  split
  · rw [Home.pendingToMeters_frame]
  · rfl

/-- The part after EPOCH_END: its due mark taken, every entry and every tree at the epoch end. -/
def State.epochEnded (s : State) : State :=
  { s.mapHomes fun _ x => x.halve.refreshTick (s.runsFor x) with
    clock := { s.clock with epochDue := false }, trees := s.trees.map TreeLine.epochEnd, out := [] }

theorem exec_epochEnd {s : State} (h : s.clock.epochDue = true) : exec .epochEnd s = .next s.epochEnded :=
  congrArg Host.Outcome.next (if_pos h)

theorem State.epochEnded_home (s : State) (h : HomeIndex) : s.epochEnded.home h = (s.home h).halve.refreshTick (s.runsFor (s.home h)) :=
  s.mapHomes_home (fun _ x => x.halve.refreshTick (s.runsFor x)) h

theorem State.epochEnded_tree (s : State) (t : Tree) : s.epochEnded.tree t = (s.tree t).epochEnd := Quad_get_map _ _ _

/-! ### An entry at a second tick (R67, R151) -/

theorem Home.secondTick_eq (x : Home) (running : Bool) :
    x.secondTick running =
      { (if inService x.state = true ∧ (x.silence = .search ∨ running = false) then x.onOpen Bank.withhold else x) with
        lostTimer := if x.state = .lost ∧ running = true then min 3600 (x.lostTimer + 1) else x.lostTimer } := by
  have hwithheld : (inService x.state && (decide (x.silence = .search) || !running)) = true ↔
      inService x.state = true ∧ (x.silence = .search ∨ running = false) := by simp
  unfold Home.secondTick
  dsimp only
  rw [if_congr hwithheld rfl rfl]
  generalize hy : (if inService x.state = true ∧ (x.silence = .search ∨ running = false) then x.onOpen Bank.withhold else x) = y
  have hkept : y.state = x.state ∧ y.lostTimer = x.lostTimer := by
    subst hy
    split
    · rw [Home.onOpen_frame]
      exact ⟨rfl, rfl⟩
    · exact ⟨rfl, rfl⟩
  obtain ⟨hstate, htimer⟩ := hkept
  rw [← hstate, ← htimer]
  split <;> rfl

/-! ### The calendar clock at a second tick (R138, R143, R145) -/

namespace Calendar

variable {c : Calendar}

/-- R143: the table in force after a waiting one has been installed. -/
theorem installTable_eq (c : Calendar) : c.installTable = { c with table := c.waiting.getD c.table, waiting := none } := by
  unfold Calendar.installTable
  cases hw : c.waiting with
  | none =>
    cases c
    cases hw
    rfl
  | some table => rfl

theorem tick_unset (h : c.set = false) : c.tick = { c with table := c.waiting.getD c.table, waiting := none } := by
  unfold Calendar.tick
  rw [installTable_eq]
  exact if_neg (Bool.eq_false_iff.1 h)

/-- A set clock one second later, with the table in force and its band (R138, R142). -/
def advanced (c : Calendar) : Calendar :=
  { c with
    table := c.waiting.getD c.table, waiting := none, now := c.now.advance, weekday := weekdayAdvance c.now c.weekday
    band := bandAt (c.waiting.getD c.table) (weekdayAdvance c.now c.weekday) c.now.advance.time }

theorem tick_set (h : c.set = true) : c.tick = c.advanced.closeTest := by
  unfold Calendar.tick
  rw [installTable_eq]
  exact if_pos h

/-- R145: the close test touches the next close moment and the closes fired alone. -/
theorem closeTest_frame (c : Calendar) : c.closeTest = { c with nextClose := c.closeTest.nextClose, closesFired := c.closeTest.closesFired } := by
  unfold Calendar.closeTest
  split
  · rfl
  · split <;> rfl

theorem closeTest_none (h : c.nextClose = none) : c.closeTest = c := by simp only [Calendar.closeTest, h]

theorem closeTest_reached {close : Moment} (h : c.nextClose = some close) (hr : closeReached c.now close = true) :
    c.closeTest = { c with closesFired := c.closesFired ++ [c.now], nextClose := some (closeAfter c.now c.closeTime) } := by
  simp only [Calendar.closeTest, h, hr]
  rfl

theorem closeTest_ahead {close : Moment} (h : c.nextClose = some close) (hr : closeReached c.now close = false) : c.closeTest = c := by
  simp only [Calendar.closeTest, h, hr]
  rfl

end Calendar

/-! ### The commands -/

/-- The part after SECOND_TICK: its due mark taken, every entry, the unknown list and the calendar clock one second later. -/
def State.secondTicked (s : State) : State :=
  { s.mapHomes fun _ x => x.secondTick (s.runsFor x) with
    clock := { s.clock with secondDue := false }, enrol := s.enrol.secondTick, cal := s.cal.tick, out := [] }

theorem exec_secondTick {s : State} (h : s.clock.secondDue = true) : exec .secondTick s = .next s.secondTicked :=
  congrArg Host.Outcome.next (if_pos h)

theorem State.secondTicked_home (s : State) (h : HomeIndex) : s.secondTicked.home h = (s.home h).secondTick (s.runsFor (s.home h)) :=
  s.mapHomes_home (fun _ x => x.secondTick (s.runsFor x)) h

/-- What a second tick leaves of the calendar clock as it stands, set or not. -/
theorem Calendar.tick_frame (c : Calendar) :
    c.tick = { c with
      table := c.waiting.getD c.table, waiting := none, now := c.tick.now, weekday := c.tick.weekday, band := c.tick.band
      nextClose := c.tick.nextClose, closesFired := c.tick.closesFired } := by
  by_cases h : c.set = true
  · rw [Calendar.tick_set h, Calendar.closeTest_frame]
    rfl
  · rw [Calendar.tick_unset (Bool.eq_false_iff.2 h)]

/-- R138, R145: a set clock after a second tick. -/
theorem Calendar.tick_of_set {c : Calendar} (h : c.set = true) :
    c.tick.now = c.now.advance ∧ c.tick.weekday = weekdayAdvance c.now c.weekday ∧ c.tick.band = bandAt c.tick.table c.tick.weekday c.tick.now.time ∧
      (c.nextClose = none → c.tick.closesFired = c.closesFired ∧ c.tick.nextClose = none) ∧
      ∀ close, c.nextClose = some close →
        (closeReached c.tick.now close = true →
          c.tick.closesFired = c.closesFired ++ [c.tick.now] ∧ c.tick.nextClose = some (closeAfter c.tick.now c.closeTime)) ∧
        (closeReached c.tick.now close = false → c.tick.closesFired = c.closesFired ∧ c.tick.nextClose = some close) := by
  have hnow : c.tick.now = c.advanced.now := by rw [Calendar.tick_set h, Calendar.closeTest_frame]
  refine ⟨hnow, ?_, ?_, fun hn => ?_, fun close hn => ⟨fun hr => ?_, fun hr => ?_⟩⟩
  · rw [Calendar.tick_set h, Calendar.closeTest_frame]; rfl
  · rw [Calendar.tick_set h, Calendar.closeTest_frame]; rfl
  · rw [Calendar.tick_set h, Calendar.closeTest_none (c := c.advanced) hn]
    exact ⟨rfl, hn⟩
  · rw [hnow] at hr ⊢
    rw [Calendar.tick_set h, Calendar.closeTest_reached (c := c.advanced) hn hr]
    exact ⟨rfl, rfl⟩
  · rw [hnow] at hr
    rw [Calendar.tick_set h, Calendar.closeTest_ahead (c := c.advanced) hn hr]
    exact ⟨rfl, hn⟩

/-- Settles O50: each entry, each tree and the calendar clock as their own operations leave them, nothing else touched. -/
theorem epochEndsAndSecondTicks : Obligations.EpochEndsAndSecondTicks := by
  refine ⟨fun s hdue => ⟨_, exec_epochEnd hdue, rfl, fun h => ?_, s.epochEnded_tree⟩,
    fun s hdue => ⟨_, exec_secondTick hdue, ?_, fun hset => ?_, fun hunset => ?_, fun h => ?_⟩⟩
  · exact (s.epochEnded_home h).trans ((s.home h).epochEnd_eq _)
  · exact congrArg (fun cal => { s.secondTicked with cal := cal }) s.cal.tick_frame
  · exact Calendar.tick_of_set hset
  · change s.cal.tick = { s.cal with table := s.cal.tick.table, waiting := none }
    rw [Calendar.tick_unset hunset]
  · exact (s.secondTicked_home h).trans ((s.home h).secondTick_eq _)

end Sys2Proof.Machine
end

section
/-! SUPPORT. LASER_OFF_REFRESH and CONTROL_MESSAGE_REOFFER (R7, R26, R28, R111): where a message stands in the queue, what an urgent one finds at a queue of 16, and what becomes of a
kept message that is offered again. -/

namespace Sys2Proof.Machine

/-! ### The place of a message in the queue (R26) -/

theorem CtlMsg.urgent_iff (m : CtlMsg) : m.urgent = true ↔ m.kind = .laserOff ∨ ∃ on, m.kind = .silence on := by
  unfold CtlMsg.urgent
  cases m.kind <;> simp [CtlKind.urgent]

theorem CtlMsg.laserOffFor_iff (m : CtlMsg) (tag : Nat) : m.laserOffFor tag = true ↔ m.kind = .laserOff ∧ m.tag = tag := by
  simp [CtlMsg.laserOffFor]

theorem CtlMsg.silences_iff (m : CtlMsg) (tag : Nat) : m.silences tag = true ↔ m.tag = tag ∧ ∃ on, m.kind = .silence on := by
  unfold CtlMsg.silences
  cases m.kind <;> simp

theorem insertCtl_routine {m : CtlMsg} (hm : m.urgent = false) (q : List CtlMsg) : insertCtl m q = q ++ [m] := by
  induction q with
  | nil => rfl
  | cons x xs ih => rw [insertCtl, hm, Bool.false_and, if_neg Bool.false_ne_true, ih, List.cons_append]

/-- R26: in a queue with its urgent messages in front an urgent message joins the tail of these. -/
theorem insertCtl_urgent {m : CtlMsg} (hm : m.urgent = true) {q : List CtlMsg} (hq : q.Pairwise fun a b => b.urgent = true → a.urgent = true) :
    insertCtl m q = q.filter CtlMsg.urgent ++ m :: q.filter fun y => y.urgent = false := by
  induction q with
  | nil => rfl
  | cons x xs ih =>
    obtain ⟨hfront, hxs⟩ := List.pairwise_cons.1 hq
    rw [insertCtl, hm, Bool.true_and]
    cases hx : x.urgent with
    | true =>
      rw [Bool.not_true, if_neg Bool.false_ne_true, ih hxs, List.filter_cons_of_pos hx, List.filter_cons_of_neg (by simp [hx]), List.cons_append]
    | false =>
      have hbehind : ∀ y ∈ xs, y.urgent = false := fun y hy => Bool.eq_false_iff.2 fun hu => Bool.eq_false_iff.1 hx (hfront y hy hu)
      have hnone : (x :: xs).filter CtlMsg.urgent = [] :=
        List.filter_eq_nil_iff.2 (List.forall_mem_cons.2 ⟨Bool.eq_false_iff.1 hx, fun y hy => Bool.eq_false_iff.1 (hbehind y hy)⟩)
      have hall : ((x :: xs).filter fun y => y.urgent = false) = x :: xs :=
        List.filter_eq_self.2 (List.forall_mem_cons.2 ⟨decide_eq_true hx, fun y hy => decide_eq_true (hbehind y hy)⟩)
      rw [hnone, hall, Bool.not_false, if_pos rfl, List.nil_append]

/-! ### An urgent message at a queue of 16 (R28) -/

section Full

variable {x : TreeLine} {m last : CtlMsg} {before : List CtlMsg}

theorem TreeLine.offer_place16 (x : TreeLine) (hm : ∀ n src, m.kind ≠ .delaySet n src) : x.offer m = x.place16 m := by
  unfold TreeLine.offer
  split
  · rename_i n src hk; exact absurd hk (hm n src)
  all_goals rfl

theorem CtlMsg.not_delaySet_of_urgent (hm : m.urgent = true) (n : Nat) (src : DelaySource) : m.kind ≠ .delaySet n src := fun hk => by
  rw [CtlMsg.urgent, hk] at hm
  cases hm

/-- A message its producer keeps by itself, no LASER-OFF of its tag being held. -/
theorem TreeLine.keep_joins (h : m.kind = .laserOff → ∀ y ∈ x.held, ¬ (y.kind = .laserOff ∧ y.tag = m.tag)) :
    x.keep m = { x with held := x.held ++ [m] } := by
  unfold TreeLine.keep
  split
  · rename_i hk
    have hnone : (x.held.any fun y => y.laserOffFor m.tag) = false :=
      List.any_eq_false.2 fun y hy => fun hoff => h hk y hy ((y.laserOffFor_iff m.tag).1 hoff)
    rw [hnone]
    rfl
  all_goals rfl

/-- R28: with 16 urgent messages an urgent one is kept. -/
theorem TreeLine.offer_kept (hm : m.urgent = true) (hq : x.queue = before ++ [last]) (hfull : 16 ≤ x.queue.length) (hlast : last.urgent = true) :
    x.offer m = x.keep m := by
  have hnewest : x.queue.getLast? = some last := by rw [hq, List.getLast?_concat]
  rw [x.offer_place16 (CtlMsg.not_delaySet_of_urgent hm), TreeLine.place16, if_neg (Nat.not_lt.2 hfull), if_pos hm, hnewest]
  exact if_pos hlast

/-- R28: at a queue of 16 an urgent message displaces the newest routine message. -/
theorem TreeLine.offer_displaces (hm : m.urgent = true) (hq : x.queue = before ++ [last]) (hfull : 16 ≤ x.queue.length) (hlast : last.urgent = false) :
    x.offer m = ({ x with queue := insertCtl m before } : TreeLine).lose last := by
  have hnewest : x.queue.getLast? = some last := by rw [hq, List.getLast?_concat]
  have hrest : x.queue.dropLast = before := by rw [hq, List.dropLast_concat]
  rw [x.offer_place16 (CtlMsg.not_delaySet_of_urgent hm), TreeLine.place16, if_neg (Nat.not_lt.2 hfull), if_pos hm, hnewest, hrest]
  exact if_neg (Bool.eq_false_iff.1 hlast)

/-- R28: a displaced routine message that is no DROP is kept by its producer. -/
theorem TreeLine.lose_keeps (hlast : last.urgent = false) (hdrop : last.kind ≠ .drop) :
    x.lose last = { x with lostMessages := min 65535 (x.lostMessages + 1), held := x.held ++ [{ last with count := 0, awaited := false }] } := by
  have hoff : last.kind ≠ .laserOff := fun hk => Bool.eq_false_iff.1 hlast ((last.urgent_iff).2 (.inl hk))
  unfold TreeLine.lose
  rw [CtlMsg.isDrop, decide_eq_false hdrop]
  exact TreeLine.keep_joins fun hk => absurd hk hoff

/-- R7, R28: a displaced DROP frees its draining tag. -/
theorem TreeLine.lose_drop (hdrop : last.kind = .drop) :
    x.lose last = ({ x with lostMessages := min 65535 (x.lostMessages + 1) } : TreeLine).freeTag last.tag := by
  unfold TreeLine.lose
  rw [CtlMsg.isDrop, decide_eq_true hdrop]
  rfl

end Full

/-! ### A kept message offered again (R28) -/

section Reoffer

variable {s : State} {t : Tree} {i : Nat} {m : CtlMsg}

/-- The tree with the kept message at a place taken from its producer. -/
def TreeLine.unkept (x : TreeLine) (i : Nat) : TreeLine := { x with held := x.held.eraseIdx i }

/-- An older SILENCE for the tag of the message, itself a SILENCE, is kept: that one comes first. -/
def TreeLine.silencedBefore (x : TreeLine) (i : Nat) (m : CtlMsg) : Bool := m.silences m.tag && (x.held.take i).any fun y => y.silences m.tag

theorem TreeLine.silencedBefore_of_kind (x : TreeLine) (hm : ∀ on, m.kind ≠ .silence on) : x.silencedBefore i m = false := by
  have hno : m.silences m.tag = false := Bool.eq_false_iff.2 fun h => by
    obtain ⟨-, on, hk⟩ := (m.silences_iff m.tag).1 h
    exact hm on hk
  rw [TreeLine.silencedBefore, hno, Bool.false_and]

theorem TreeLine.silencedBefore_oldest {x : TreeLine}
    (h : (∃ on, m.kind = .silence on) → ∀ y ∈ x.held.take i, ¬ (y.tag = m.tag ∧ ∃ on, y.kind = .silence on)) : x.silencedBefore i m = false := by
  refine Bool.eq_false_iff.2 fun hb => ?_
  obtain ⟨hm, hany⟩ := Bool.and_eq_true_iff.1 hb
  obtain ⟨y, hy, hys⟩ := List.any_eq_true.1 hany
  exact h ((m.silences_iff m.tag).1 hm).2 y hy ((y.silences_iff m.tag).1 hys)

theorem State.reoffer_eq (hm : (s.tree t).held[i]? = some m) (hb : (s.tree t).silencedBefore i m = false) :
    s.reoffer t i =
      if s.reasonStands t m then
        if (s.tree t).takes m then s.setTree t (((s.tree t).unkept i).offer (s.refreshDelay t m)) else s
      else s.setTree t ((s.tree t).unkept i) := by
  simp only [State.reoffer, hm]
  rw [← TreeLine.silencedBefore, hb, if_neg Bool.false_ne_true]
  cases s.reasonStands t m <;> rfl

/-- A message that is no DELAY-SET is offered again as it was kept. -/
theorem State.refreshDelay_same (s : State) (t : Tree) (hm : ∀ n src, m.kind ≠ .delaySet n src) : s.refreshDelay t m = m := by
  unfold State.refreshDelay
  split
  · rename_i n src hk; exact absurd hk (hm n src)
  all_goals rfl

/-- R28: with room in the queue every kept message is taken. -/
theorem TreeLine.takes_of_room {x : TreeLine} (h : x.queue.length < 16) (m : CtlMsg) : x.takes m = true := by
  rw [TreeLine.takes, decide_eq_true h, Bool.true_or]

end Reoffer

/-- A DROP, a LASER-ON or a TAG-ASSIGN: the routine messages that carry nothing of their home as it stands. -/
def CtlKind.plain (k : CtlKind) : Prop := k = .drop ∨ k = .laserOn ∨ ∃ id, k = .tagAssign id

section Plain

variable {m : CtlMsg} (hm : m.kind.plain)

include hm

theorem CtlKind.plain.not_delaySet (n : Nat) (src : DelaySource) : m.kind ≠ .delaySet n src := by
  obtain hk | hk | ⟨id, hk⟩ := hm <;> rw [hk] <;> exact CtlKind.noConfusion

theorem CtlKind.plain.not_silence (on : Bool) : m.kind ≠ .silence on := by
  obtain hk | hk | ⟨id, hk⟩ := hm <;> rw [hk] <;> exact CtlKind.noConfusion

theorem CtlKind.plain.routine : m.urgent = false := by
  obtain hk | hk | ⟨id, hk⟩ := hm <;> rw [CtlMsg.urgent, hk] <;> rfl

/-- R28: with 16 messages in the queue such a message is not taken. -/
theorem CtlKind.plain.takes_full {x : TreeLine} (h : ¬ x.queue.length < 16) : x.takes m = false := by
  obtain hk | hk | ⟨id, hk⟩ := hm <;> rw [TreeLine.takes, decide_eq_false h, hk] <;> rfl

end Plain

/-- The part with the kept message at a place of a tree taken and the tree's queue as given. -/
def State.keptTaken (s : State) (t : Tree) (place : Nat) (queue : List CtlMsg) : State :=
  { s with out := [], trees := s.trees.set t.idx { s.tree t with queue := queue, held := (s.tree t).held.eraseIdx place } }

section Commands

variable {s : State} {t : Tree} {place : Nat} {m : CtlMsg}

theorem exec_reoffer (hm : (s.tree t).held[place]? = some m) (hb : (s.tree t).silencedBefore place m = false) :
    exec (.controlMessageReoffer t place) s =
      .next (if s.reasonStands t m then
        if (s.tree t).takes m then s.begin.setTree t (((s.tree t).unkept place).offer (s.refreshDelay t m)) else s.begin
      else s.keptTaken t place (s.tree t).queue) :=
  congrArg Host.Outcome.next (State.reoffer_eq (s := s.begin) hm hb)

/-- R28: a DROP, LASER-ON or TAG-ASSIGN whose reason stands joins the tail when there is room, and stays kept when there is none. -/
theorem exec_reoffer_plain (hheld : (s.tree t).held[place]? = some m) (hr : s.reasonStands t m = true) (hm : m.kind.plain) :
    exec (.controlMessageReoffer t place) s =
      .next (if (s.tree t).queue.length < 16 then s.keptTaken t place ((s.tree t).queue ++ [m]) else { s with out := [] }) := by
  rw [exec_reoffer hheld (TreeLine.silencedBefore_of_kind _ hm.not_silence), if_pos hr, State.refreshDelay_same s t hm.not_delaySet]
  by_cases hroom : (s.tree t).queue.length < 16
  · rw [if_pos hroom, if_pos (TreeLine.takes_of_room hroom m), TreeLine.offer_routine ((s.tree t).unkept place) m hm.not_delaySet hm.routine hroom]
    rfl
  · rw [if_neg hroom, if_neg (Bool.eq_false_iff.1 (hm.takes_full hroom))]
    rfl

/-- R28: an urgent message whose reason stands joins the urgent ones when there is room; of the SILENCE messages of a tag the oldest comes first. -/
theorem exec_reoffer_urgent (hheld : (s.tree t).held[place]? = some m) (hr : s.reasonStands t m = true) (hm : m.urgent = true)
    (hroom : (s.tree t).queue.length < 16) (hb : (s.tree t).silencedBefore place m = false) :
    exec (.controlMessageReoffer t place) s = .next (s.keptTaken t place (insertCtl m (s.tree t).queue)) := by
  rw [exec_reoffer hheld hb, if_pos hr, if_pos (TreeLine.takes_of_room hroom m), State.refreshDelay_same s t (CtlMsg.not_delaySet_of_urgent hm),
    TreeLine.offer_urgent ((s.tree t).unkept place) m hm hroom]
  rfl

/-- R28: a DELAY-SET whose reason stands joins the tail with the EQ of its home as it now stands. -/
theorem exec_reoffer_delay {eq0 eq : Nat} {src : DelaySource} {h : HomeIndex} (hheld : (s.tree t).held[place]? = some m)
    (hr : s.reasonStands t m = true) (hm : m.kind = .delaySet eq0 src) (howner : (s.tree t).place m.tag = some (.held h)) (heq : (s.home h).eq = some eq)
    (hroom : (s.tree t).queue.length < 16) (hnone : ∀ y ∈ (s.tree t).queue, y.delaySetFor m.tag = false) :
    exec (.controlMessageReoffer t place) s = .next (s.keptTaken t place ((s.tree t).queue ++ [{ m with kind := .delaySet eq src }])) := by
  have hrefreshed : s.refreshDelay t m = { m with kind := .delaySet eq src } := by
    simp only [State.refreshDelay, hm, TreeLine.owner, howner, Option.bind_some, heq, Option.getD_some]
  have hfresh : (s.tree t).hasFreshDelay m.tag = false := List.any_eq_false.2 fun y hy => by rw [hnone y hy]; exact Bool.false_ne_true
  have hjoins : ((s.tree t).unkept place).offer { m with kind := .delaySet eq src } =
      { (s.tree t).unkept place with queue := (s.tree t).queue ++ [{ m with kind := .delaySet eq src }] } := by
    rw [← insertCtl_routine (m := { m with kind := .delaySet eq src }) rfl (s.tree t).queue]
    exact (if_neg (Bool.eq_false_iff.1 hfresh)).trans (if_pos hroom)
  rw [exec_reoffer hheld (TreeLine.silencedBefore_of_kind _ fun on hk => by rw [hm] at hk; cases hk), if_pos hr,
    if_pos (TreeLine.takes_of_room hroom m), hrefreshed, hjoins]
  rfl

/-- R28: a LASER-ON whose home is not MEASURING any more is discarded. -/
theorem exec_reoffer_laserOn_gone (hheld : (s.tree t).held[place]? = some m) (hm : m.kind = .laserOn)
    (hgone : ∀ h, (s.tree t).place m.tag = some (.held h) → (s.home h).state ≠ .measuring) :
    exec (.controlMessageReoffer t place) s = .next (s.keptTaken t place (s.tree t).queue) := by
  have hreason : s.reasonStands t m = false := by
    simp only [State.reasonStands, hm, TreeLine.owner]
    split
    · rename_i h hp
      exact decide_eq_false (hgone h hp)
    all_goals rfl
  rw [exec_reoffer hheld (TreeLine.silencedBefore_of_kind _ fun on hk => by rw [hm] at hk; cases hk), hreason]
  rfl

end Commands

/-! ### LASER_OFF_REFRESH (R111) -/

section Refresh

variable {s : State} {h : HomeIndex} {t : Tree} {tag : Nat}

/-- A LASER-OFF for the tag stands in the queue with sending count 0 or is held: no other is queued (R111). -/
def TreeLine.laserOffWaits (x : TreeLine) (tag : Nat) : Bool :=
  (x.queue.any fun m => m.laserOffFor tag && decide (m.count = 0)) || x.held.any fun m => m.laserOffFor tag

theorem TreeLine.laserOffWaits_iff (x : TreeLine) (tag : Nat) :
    x.laserOffWaits tag = true ↔ (∃ m ∈ x.queue, m.kind = .laserOff ∧ m.tag = tag ∧ m.count = 0) ∨ ∃ m ∈ x.held, m.kind = .laserOff ∧ m.tag = tag := by
  simp only [TreeLine.laserOffWaits, Bool.or_eq_true, List.any_eq_true, Bool.and_eq_true, CtlMsg.laserOffFor_iff, decide_eq_true_eq, and_assoc]

/-- R111: the refresh count returns to 0, and a LASER-OFF is offered unless one waits. -/
theorem exec_laserOffRefresh (hstate : (s.home h).state = .isolated) (hdue : (s.home h).refreshDue = true) (htree : (s.home h).tree = some t)
    (htag : (s.home h).tag = some tag) :
    exec (.laserOffRefresh h) s =
      .next (if (s.tree t).laserOffWaits tag then
        { s with homes := s.homes.set h { s.home h with refresh := some 0, refreshDue := false }, out := [] }
      else
        { s with homes := s.homes.set h { s.home h with refresh := some 0, refreshDue := false }, out := []
                 trees := s.trees.set t.idx ((s.tree t).offer ⟨.laserOff, tag, 0, false⟩) }) := by
  refine congrArg Host.Outcome.next ((if_pos (show (s.home h).state = .isolated ∧ (s.home h).refreshDue = true from ⟨hstate, hdue⟩)).trans ?_)
  rw [State.begin_home]
  simp only [htree, htag]
  rfl

end Refresh

/-- Settles O51: each by the place its message finds, in the queue, in that of the newest routine message, or with its producer. -/
theorem messagesOfferedAgain : Obligations.MessagesOfferedAgain := by
  refine ⟨fun s h t tag hstate hdue htree htag => ?_, fun m q hq => ?_, fun x m hm => ?_, fun s t place m hheld => ?_⟩
  · have hrefresh := exec_laserOffRefresh hstate hdue htree htag
    have hfree : (∀ m ∈ (s.tree t).queue, ¬ (m.kind = .laserOff ∧ m.tag = tag ∧ m.count = 0)) →
        (∀ m ∈ (s.tree t).held, ¬ (m.kind = .laserOff ∧ m.tag = tag)) → ¬ (s.tree t).laserOffWaits tag = true := fun hqueue hheld hw => by
      obtain ⟨m, hm, hoff⟩ | ⟨m, hm, hoff⟩ := ((s.tree t).laserOffWaits_iff tag).1 hw
      · exact hqueue m hm hoff
      · exact hheld m hm hoff
    refine ⟨fun hw => ?_, fun hqueue hheld hroom => ?_, fun hqueue hheld => ?_⟩
    · rw [hrefresh, if_pos (((s.tree t).laserOffWaits_iff tag).2 hw)]
    · rw [hrefresh, if_neg (hfree hqueue hheld), TreeLine.offer_urgent _ _ rfl hroom]
    · rw [hrefresh, if_neg (hfree hqueue hheld)]
  · rw [if_congr m.urgent_iff.symm rfl rfl]
    split
    · rename_i hu
      exact insertCtl_urgent hu hq
    · rename_i hu
      exact insertCtl_routine (Bool.eq_false_iff.2 hu) q
  · have hu : m.urgent = true := m.urgent_iff.2 hm
    refine ⟨x.offer_urgent m hu, fun before last hq hfull => ⟨fun hlast hnone => ?_, fun hlast => ?_, fun hlast => ?_⟩⟩
    · rw [TreeLine.offer_kept hu hq hfull (last.urgent_iff.2 hlast), TreeLine.keep_joins hnone]
    · have hroutine : last.urgent = false ∧ last.kind ≠ .drop := by
        obtain hk | ⟨id, hk⟩ | ⟨eq, src, hk⟩ := hlast <;> rw [CtlMsg.urgent, hk] <;> exact ⟨rfl, CtlKind.noConfusion⟩
      rw [TreeLine.offer_displaces hu hq hfull hroutine.1, TreeLine.lose_keeps hroutine.1 hroutine.2]
    · have hroutine : last.urgent = false := by rw [CtlMsg.urgent, hlast]; rfl
      refine ⟨_, rfl, ?_, fun k => ?_⟩
      · rw [TreeLine.offer_displaces hu hq hfull hroutine, TreeLine.lose_drop hlast, TreeLine.freeTag_frame]
      · rw [TreeLine.offer_displaces hu hq hfull hroutine, TreeLine.lose_drop hlast]
        exact TreeLine.freeTag_place _ _ _
  · refine ⟨fun hr hm => exec_reoffer_plain hheld hr hm, fun hr hm hroom hb => ?_, fun eq0 eq src h hr hm howner heq hroom hnone => ?_, fun hm hgone => ?_⟩
    · exact exec_reoffer_urgent hheld hr (m.urgent_iff.2 hm) hroom (TreeLine.silencedBefore_oldest hb)
    · exact exec_reoffer_delay hheld hr hm howner heq hroom hnone
    · exact exec_reoffer_laserOn_gone hheld hm hgone

end Sys2Proof.Machine
end

section
/-! SUPPORT. Homes told by control messages in a run over a list: what the set-up of a probe (R122) and the end of a search (R134) leave of homes and tree. -/

namespace Sys2Proof.Machine

/-! ### One home told -/

/-- A home of the tree rewritten, with the control message its record calls for offered (R122, R134). -/
def State.tell (s : State) (t : Tree) (h : HomeIndex) (f : Home → Home) (msg : Home → Option CtlMsg) : State :=
  match msg (s.home h) with
  | some m => (s.onHome h f).offerCtl t m
  | none => s.onHome h f

section Tell

variable {s : State} {t : Tree} {h : HomeIndex} {f : Home → Home} {msg : Home → Option CtlMsg}

theorem State.onHome_same (hf : f (s.home h) = s.home h) : s.onHome h f = s := by
  rw [State.onHome, hf]
  exact congrArg (fun v => { s with homes := v }) (Vector.set_getElem_self h.isLt)

/-- A home that is left as it is and sent nothing. -/
theorem State.tell_nothing (hf : f (s.home h) = s.home h) (hm : msg (s.home h) = none) : s.tell t h f msg = s := by
  simp only [State.tell, hm, State.onHome_same hf]

theorem Quad_set_get {α : Type} (q : Quad α) (i : Fin 4) : q.set i (q.get i) = q := by
  fin_cases i <;> rfl

theorem State.tell_eq (s : State) (t : Tree) (h : HomeIndex) (f : Home → Home) (msg : Home → Option CtlMsg) :
    s.tell t h f msg = { s with
      homes := s.homes.set h (f (s.home h))
      trees := s.trees.set t.idx ((msg (s.home h)).toList.foldl TreeLine.offer (s.tree t)) } := by
  unfold State.tell
  cases msg (s.home h) with
  | some m => rfl
  | none => exact congrArg (fun v => { s.onHome h f with trees := v }) (Quad_set_get s.trees t.idx).symm

theorem State.tell_home (s : State) (t : Tree) (h k : HomeIndex) (f : Home → Home) (msg : Home → Option CtlMsg) :
    (s.tell t h f msg).home k = if k = h then f (s.home h) else s.home k := by
  rw [State.tell_eq]
  exact s.onHome_home h k f

theorem State.tell_tree (s : State) (t : Tree) (h : HomeIndex) (f : Home → Home) (msg : Home → Option CtlMsg) :
    (s.tell t h f msg).tree t = (msg (s.home h)).toList.foldl TreeLine.offer (s.tree t) := by
  rw [State.tell_eq]
  exact (Quad_get_set _ _ _ _).trans (if_pos rfl)

end Tell

/-! ### A run over a list that holds each home once -/

/-- Each home of the list is rewritten as it stood before the run, the messages are offered in the order of the list, and nothing else changes. -/
theorem State.foldl_tell {α : Type} (t : Tree) (key : α → HomeIndex) (f : α → Home → Home) (msg : α → Home → Option CtlMsg) (xs : List α)
    (hnd : (xs.map key).Nodup) (s : State) :
    ∃ s' : State, xs.foldl (fun u p => u.tell t (key p) (f p) (msg p)) s = s' ∧
      s' = { s with
        homes := s'.homes
        trees := s.trees.set t.idx ((xs.filterMap fun p => msg p (s.home (key p))).foldl TreeLine.offer (s.tree t)) } ∧
      (∀ p ∈ xs, s'.home (key p) = f p (s.home (key p))) ∧ ∀ h, (∀ p ∈ xs, key p ≠ h) → s'.home h = s.home h := by
  induction xs generalizing s with
  | nil => exact ⟨s, rfl, congrArg (fun v => { s with trees := v }) (Quad_set_get s.trees t.idx).symm, fun p hp => absurd hp List.not_mem_nil, fun _ _ => rfl⟩
  | cons p xs ih =>
    rw [List.map_cons, List.nodup_cons] at hnd
    obtain ⟨hp, hxs⟩ := hnd
    have hother : ∀ q ∈ xs, key q ≠ key p := fun q hq e => hp (e ▸ List.mem_map_of_mem hq)
    have hkept : ∀ k, k ≠ key p → (s.tell t (key p) (f p) (msg p)).home k = s.home k := fun k hk => by rw [State.tell_home, if_neg hk]
    obtain ⟨s', hrun, hframe, hin, hout⟩ := ih hxs (s.tell t (key p) (f p) (msg p))
    refine ⟨s', hrun, ?_, fun q hq => ?_, fun h hh => ?_⟩
    · have hmsgs : (xs.filterMap fun q => msg q ((s.tell t (key p) (f p) (msg p)).home (key q))) = xs.filterMap fun q => msg q (s.home (key q)) :=
        List.filterMap_congr fun q hq => by rw [hkept _ (hother q hq)]
      have hall : ((p :: xs).filterMap fun q => msg q (s.home (key q))) =
          (msg p (s.home (key p))).toList ++ xs.filterMap fun q => msg q (s.home (key q)) := by
        rw [List.filterMap_cons]
        cases msg p (s.home (key p)) <;> rfl
      rw [hmsgs, State.tell_tree] at hframe
      rw [hall, List.foldl_append, hframe, State.tell_eq]
      simp only [Quad_set_set]
    · obtain rfl | hq := List.mem_cons.1 hq
      · rw [hout _ hother, State.tell_home, if_pos rfl]
      · rw [hin q hq, hkept _ (hother q hq)]
    · rw [hout h fun q hq => hh q (List.mem_cons_of_mem p hq), hkept h fun e => hh p List.mem_cons_self e.symm]

end Sys2Proof.Machine
end

section
/-! SUPPORT. The start of a search (R119, R120, R122): the frozen candidate list, a candidate commanded, and the tree a start leaves when none of its homes is silenced. -/

namespace Sys2Proof.Machine

/-! ### The candidate list (R119) -/

section Candidates

variable (s : State) (t : Tree)

theorem State.insertRanked_eq (a : HomeIndex) (l : List HomeIndex) : s.insertRanked a l = l.orderedInsert (fun a b => s.ranksBefore a b = true) a := by
  induction l with
  | nil => rfl
  | cons b bs ih => rw [State.insertRanked, List.orderedInsert, ih]

/-- The candidates are an insertion sort of the entries in service. -/
theorem State.candidatesOf_eq :
    s.candidatesOf t = ((homeIndexes.filter fun h => (s.home h).servedOn t).insertionSort fun a b => s.ranksBefore a b = true).filterMap fun h =>
      (s.home h).identity.map fun id => ⟨h, id⟩ := by
  have hinsert : s.insertRanked = List.orderedInsert (fun a b => s.ranksBefore a b = true) := funext fun a => funext fun l => s.insertRanked_eq a l
  rw [State.candidatesOf, hinsert]
  rfl

/-- The candidate list is read off the home records alone. -/
theorem State.candidatesOf_congr {u v : State} (h : u.homes = v.homes) : u.candidatesOf t = v.candidatesOf t := by
  have hhome : u.home = v.home := funext fun k => congrArg (fun w : Vector Home 128 => w[k]) h
  have hranks : u.ranksBefore = v.ranksBefore := funext fun a => funext fun b => by rw [State.ranksBefore, hhome]; rfl
  rw [State.candidatesOf_eq, State.candidatesOf_eq, hranks, hhome]

/-- R119: exactly the entries in service on the tree, each with its identity. -/
theorem State.mem_candidatesOf (h : HomeIndex) (id : Identity) :
    ⟨h, id⟩ ∈ s.candidatesOf t ↔ inService (s.home h).state = true ∧ (s.home h).tree = some t ∧ (s.home h).identity = some id := by
  have hentry : ∀ k : HomeIndex, ((s.home k).identity.map fun i => (⟨k, i⟩ : Candidate)) = some ⟨h, id⟩ ↔ k = h ∧ (s.home k).identity = some id := fun k => by
    simp only [Option.map_eq_some_iff, Candidate.mk.injEq]
    exact ⟨fun ⟨_, hi, hk, e⟩ => ⟨hk, e ▸ hi⟩, fun ⟨hk, hi⟩ => ⟨id, hi, hk, rfl⟩⟩
  simp only [State.candidatesOf_eq, List.mem_filterMap, List.mem_insertionSort, List.mem_filter, hentry, mem_homeIndexes, true_and, Home.servedOn_iff]
  constructor
  · rintro ⟨k, ⟨hs, ht⟩, rfl, hi⟩
    exact ⟨hs, ht, hi⟩
  · rintro ⟨hs, ht, hi⟩
    exact ⟨h, ⟨hs, ht⟩, rfl, hi⟩

theorem State.ranksBefore_iff (a b : HomeIndex) :
    s.ranksBefore a b = true ↔ (s.home b).score < (s.home a).score ∨ ((s.home a).score = (s.home b).score ∧ a ≤ b) := by
  simp only [State.ranksBefore, Bool.or_eq_true, Bool.and_eq_true, decide_eq_true_eq, Fin.le_def]

/-- R119: highest score first, equal scores by increasing home index. -/
theorem State.candidatesOf_sorted :
    (s.candidatesOf t).Pairwise fun a b =>
      (s.home b.home).score < (s.home a.home).score ∨ ((s.home a.home).score = (s.home b.home).score ∧ a.home < b.home) := by
  have htotal : Std.Total fun a b : HomeIndex => s.ranksBefore a b = true := ⟨fun a b => by
    simp only [State.ranksBefore_iff, Fin.le_def]; omega⟩
  have htrans : IsTrans HomeIndex fun a b => s.ranksBefore a b = true := ⟨fun a b c => by
    simp only [State.ranksBefore_iff, Fin.le_def]; omega⟩
  have hranked := List.pairwise_insertionSort (fun a b => s.ranksBefore a b = true) (homeIndexes.filter fun h => (s.home h).servedOn t)
  have honce : ((homeIndexes.filter fun h => (s.home h).servedOn t).insertionSort fun a b => s.ranksBefore a b = true).Nodup :=
    (List.perm_insertionSort _ _).nodup_iff.2 ((List.nodup_finRange 128).filter _)
  rw [State.candidatesOf_eq, List.pairwise_filterMap]
  refine (hranked.and honce).imp fun {a b} hab x hx y hy => ?_
  obtain ⟨i, -, rfl⟩ := Option.map_eq_some_iff.1 hx
  obtain ⟨j, -, rfl⟩ := Option.map_eq_some_iff.1 hy
  exact ((s.ranksBefore_iff a b).1 hab.1).imp_right fun hle => ⟨hle.1, lt_of_le_of_ne hle.2 hab.2⟩

end Candidates

/-! ### A candidate commanded (R122) -/

/-- The candidate at a place must change its silence under a target set: present, with a tag, and silenced when it should not be or the reverse (R122). -/
def Home.mustChange (x : Home) (t : Tree) (target : List Nat) (p : Candidate × Nat) : Bool :=
  x.servedOn t && decide (x.identity = some p.1.identity) && x.tag.isSome && decide (p.2 ∈ target ↔ x.silence = .none)

theorem Home.mustChange_iff (x : Home) (t : Tree) (target : List Nat) (p : Candidate × Nat) :
    x.mustChange t target p = true ↔
      inService x.state = true ∧ x.tree = some t ∧ x.identity = some p.1.identity ∧ x.tag.isSome = true ∧ (p.2 ∈ target ↔ x.silence = .none) := by
  simp only [Home.mustChange, Bool.and_eq_true, decide_eq_true_eq, Home.servedOn_iff, and_assoc]

/-- The record of a candidate that the set-up has commanded. -/
def Home.commanded (t : Tree) (target : List Nat) (p : Candidate × Nat) (x : Home) : Home :=
  if x.mustChange t target p then { x with silence := if p.2 ∈ target then .search else .none } else x

/-- The SILENCE that commands a candidate, one of the probe's outstanding messages. -/
def silenceFor (target : List Nat) (p : Candidate × Nat) (x : Home) : CtlMsg := ⟨.silence (decide (p.2 ∈ target)), x.tag.getD 0, 0, true⟩

/-- The SILENCE that the set-up sends a candidate, if it sends one. -/
def Home.command (t : Tree) (target : List Nat) (p : Candidate × Nat) (x : Home) : Option CtlMsg :=
  if x.mustChange t target p then some (silenceFor target p x) else none

section Command

variable (s : State) (t : Tree) (target : List Nat) (p : Candidate × Nat)

theorem State.commandCandidate_eq :
    s.commandCandidate t target p = s.tell t p.1.home (Home.commanded t target p) (Home.command t target p) := by
  have hnone : (s.home p.1.home).mustChange t target p = false →
      s.tell t p.1.home (Home.commanded t target p) (Home.command t target p) = s := fun hno =>
    State.tell_nothing (by rw [Home.commanded, hno]; rfl) (by rw [Home.command, hno]; rfl)
  unfold State.commandCandidate State.present
  dsimp only
  split
  · rename_i hp
    split
    · rename_i htag
      exact (hnone (by simp [Home.mustChange, htag])).symm
    · rename_i tag htag
      have hchange : (s.home p.1.home).mustChange t target p = decide (p.2 ∈ target ↔ (s.home p.1.home).silence = .none) := by
        rw [Home.mustChange, hp, htag]; rfl
      split
      · rename_i hon
        rw [decide_eq_true (iff_of_true hon.1 hon.2)] at hchange
        simp [State.tell, Home.command, hchange, silenceFor, State.onHome, Home.commanded, hon.1, htag]
      · rename_i hon
        split
        · rename_i hoff
          rw [decide_eq_true (iff_of_false hoff.1 (by rw [hoff.2]; exact Silence.noConfusion))] at hchange
          simp [State.tell, Home.command, hchange, silenceFor, State.onHome, Home.commanded, hoff.1, htag]
        · rename_i hoff
          refine (hnone (hchange.trans (decide_eq_false fun e => ?_))).symm
          cases hsil : (s.home p.1.home).silence with
          | none => exact hon ⟨e.2 hsil, hsil⟩
          | search => exact hoff ⟨fun hin => Silence.noConfusion (hsil.symm.trans (e.1 hin)), hsil⟩
  · rename_i hp
    exact (hnone (by rw [Home.mustChange, Bool.eq_false_iff.2 hp]; rfl)).symm

variable {s t target p}

theorem State.commandCandidate_same (hno : (s.home p.1.home).mustChange t target p = false) : s.commandCandidate t target p = s := by
  rw [State.commandCandidate_eq]
  exact State.tell_nothing (by rw [Home.commanded, hno]; rfl) (by rw [Home.command, hno]; rfl)

end Command

/-! ### A probe set up (R122) -/

/-- The search context when a probe is set up: its number raised, nothing observed, its target set fixed (R121, R122). -/
def SearchContext.probed (k : SearchContext) (step : SearchStep) (first count : Nat) : SearchContext :=
  let c := { k with step := step, first := first, count := count, probe := k.probe + 1, phase := .settling, settle := 0, observations := 0, dark := 0 }
  { c with target := c.targetOf }

/-- The tree when a probe is set up, before a candidate is commanded. -/
def TreeLine.probed (y : TreeLine) (step : SearchStep) (first count : Nat) : TreeLine := { y with search := y.search.probed step first count }

theorem State.setupProbe_eq (s : State) (t : Tree) (step : SearchStep) (first count : Nat) :
    s.setupProbe t step first count =
      (s.tree t).search.candidates.zipIdx.foldl (fun u p => u.commandCandidate t ((s.tree t).search.probed step first count).target p)
        (s.onTree t fun y => y.probed step first count) := by
  have hself := s.onTree_self t fun y => y.probed step first count
  exact congrArg (fun y : TreeLine => y.search.candidates.zipIdx.foldl (fun u p => u.commandCandidate t y.search.target p)
    (s.onTree t fun y => y.probed step first count)) hself

/-- R122: a probe without a target set commands nobody while no home of its tree is silenced. -/
theorem State.setupProbe_unsilenced {s : State} {t : Tree} {step : SearchStep} {first count : Nat}
    (htarget : ((s.tree t).search.probed step first count).target = []) (hq : ∀ h, (s.home h).tree = some t → (s.home h).silence = .none) :
    s.setupProbe t step first count = s.onTree t fun y => y.probed step first count := by
  rw [State.setupProbe_eq, htarget]
  refine foldl_keeps (A := fun u => u = s.onTree t fun y => y.probed step first count) (fun u p hu => ?_) _ rfl
  subst hu
  refine State.commandCandidate_same (Bool.eq_false_iff.2 fun hm => ?_)
  obtain ⟨-, ht, -, -, hsil⟩ := (Home.mustChange_iff _ _ _ _).1 hm
  exact List.not_mem_nil (hsil.2 (hq _ ht))

/-! ### The tree when a search has started (R119, R122) -/

/-- The tree when its search has started and BASELINE is set up. -/
def TreeLine.searched (y : TreeLine) (cause : SearchCause) (ks : List Candidate) : TreeLine :=
  { y with
    searchSinceMap := true
    search := { running := true, cause := cause, candidates := ks, step := .baseline, first := 0, count := 0, trail := [], probe := 1, phase := .settling
                settle := 0, observations := 0, dark := 0, target := [], found := [], foundCount := 0, last := y.search.last } }

/-- R119, R122: with no home of the tree silenced a start queues nothing. -/
theorem State.startSearch_unsilenced {s : State} {t : Tree} (cause : SearchCause) (hq : ∀ h, (s.home h).tree = some t → (s.home h).silence = .none) :
    s.startSearch t cause = s.onTree t fun y => y.searched cause (s.candidatesOf t) := by
  have hsetup := State.setupProbe_unsilenced (t := t) (step := .baseline) (first := 0) (count := 0)
    (s := s.onTree t fun y => { y with
      searchSinceMap := true
      search := { SearchContext.idle y.search.last with running := true, cause := cause, candidates := s.candidatesOf t } }) rfl hq
  rw [State.onTree_onTree] at hsetup
  exact hsetup

/-- Settles O34: the start finds no home to command, and the candidates are sorted entries in service. -/
theorem searchStarts : Obligations.SearchStarts := by
  intro s c rx num args t ha hroom harg
  refine ⟨fun hrun hidle hq => ?_, fun hstop => ?_, fun hrun hsearch => ?_, s.mem_candidatesOf t, s.candidatesOf_sorted t⟩ <;>
    refine congrArg Host.Outcome.next ?_
  · have hf : s.heard.ranged (treeArg args) s.heard.searchRequest =
        ⟨s.heard.onTree t fun y => y.searched .request (s.candidatesOf t), .ok, toBE 1 (s.candidatesOf t).length⟩ := by
      rw [State.ranged_some _ harg, State.searchRequest]
      simp only [State.heard_tree, hrun, hidle, Bool.not_true, Bool.false_eq_true, if_false, State.startSearch_unsilenced (s := s.heard) .request hq]
      rw [State.onTree_self, State.candidatesOf_congr t (show s.heard.homes = s.homes from rfl)]
      rfl
    exact State.request_taken ha hroom hf rfl rfl rfl
  · refine State.request_refused ha hroom ?_ rfl
    rw [State.ranged_some _ harg, State.searchRequest]
    simp only [State.heard_tree, hstop, Bool.not_false, if_true]
    rfl
  · refine State.request_refused ha hroom ?_ rfl
    rw [State.ranged_some _ harg, State.searchRequest]
    simp only [State.heard_tree, hrun, hsearch, Bool.not_true, Bool.false_eq_true, if_false, if_true]
    rfl

end Sys2Proof.Machine
end

section
/-! SUPPORT. The end of a search (R134): its silenced homes told in order of home index, and the tree it leaves. -/

namespace Sys2Proof.Machine

/-! ### An offer does not look at the search (R26, R28) -/

/-- A tree with its quiet window's mark and its search context replaced. -/
def TreeLine.withProbe (y : TreeLine) (q : Bool) (k : SearchContext) : TreeLine := { y with quietTaken := q, search := k }

section WithProbe

variable (y : TreeLine) (q : Bool) (k : SearchContext)

theorem TreeLine.freeTag_withProbe (tag : Nat) : (y.withProbe q k).freeTag tag = (y.freeTag tag).withProbe q k := by
  unfold TreeLine.freeTag TreeLine.setPlace
  rw [show (y.withProbe q k).place tag = y.place tag from rfl]
  split
  · split <;> rfl
  · rfl

theorem TreeLine.keep_withProbe (m : CtlMsg) : (y.withProbe q k).keep m = (y.keep m).withProbe q k := by
  unfold TreeLine.keep
  rw [show (y.withProbe q k).held = y.held from rfl]
  cases m.kind with
  | laserOff => dsimp only; split <;> rfl
  | _ => rfl

theorem TreeLine.lose_withProbe (m : CtlMsg) : (y.withProbe q k).lose m = (y.lose m).withProbe q k := by
  unfold TreeLine.lose
  dsimp only
  split
  · exact TreeLine.freeTag_withProbe { y with lostMessages := bump y.lostMessages } q k m.tag
  · exact TreeLine.keep_withProbe { y with lostMessages := bump y.lostMessages } q k _

theorem TreeLine.place16_withProbe (m : CtlMsg) : (y.withProbe q k).place16 m = (y.place16 m).withProbe q k := by
  unfold TreeLine.place16
  rw [show (y.withProbe q k).queue = y.queue from rfl]
  split
  · rfl
  · split
    · split
      · rename_i x _
        split
        · exact y.keep_withProbe q k m
        · exact TreeLine.lose_withProbe { y with queue := insertCtl m y.queue.dropLast } q k x
      · exact y.keep_withProbe q k m
    · exact y.keep_withProbe q k m

theorem TreeLine.offer_withProbe (m : CtlMsg) : (y.withProbe q k).offer m = (y.offer m).withProbe q k := by
  unfold TreeLine.offer
  rw [show (y.withProbe q k).hasFreshDelay m.tag = y.hasFreshDelay m.tag from rfl, TreeLine.place16_withProbe]
  split
  · split <;> rfl
  all_goals rfl

theorem TreeLine.offers_withProbe (tags : List Nat) :
    tags.foldl (fun z tag => z.offer ⟨.silence false, tag, 0, false⟩) (y.withProbe q k) =
      (tags.foldl (fun z tag => z.offer ⟨.silence false, tag, 0, false⟩) y).withProbe q k := by
  induction tags generalizing y with
  | nil => rfl
  | cons tag tags ih => rw [List.foldl_cons, TreeLine.offer_withProbe, ih, List.foldl_cons]

end WithProbe

/-! ### The silences of a search ended (R134, 1) -/

/-- The SILENCE off that the end of a search sends a home, if it sends one. -/
def Home.release (t : Tree) (x : Home) : Option CtlMsg := if x.tree = some t ∧ x.silence = .search then x.tag.map (CtlMsg.new (.silence false)) else none

theorem State.endSilence_eq (s : State) (t : Tree) (h : HomeIndex) :
    State.endSilence t s h = s.tell t h (fun x => endedHome x t) (Home.release t) := by
  unfold State.endSilence
  dsimp only
  split
  · rename_i hs
    have hf : endedHome (s.home h) t = { s.home h with silence := .none } := if_pos hs
    have hm : Home.release t (s.home h) = (s.home h).tag.map (CtlMsg.new (.silence false)) := if_pos hs
    simp only [State.tell, hm, State.onHome, hf]
    cases (s.home h).tag <;> rfl
  · rename_i hs
    exact (State.tell_nothing (if_neg hs) (if_neg hs)).symm

theorem release_messages (s : State) (t : Tree) :
    (homeIndexes.filterMap fun h => Home.release t (s.home h)) = (silencedTags s t).map (CtlMsg.new (.silence false)) := by
  simp only [silencedTags, List.filterMap_filter, List.map_filterMap, Home.release, decide_eq_true_eq]
  exact List.filterMap_congr fun h _ => by split <;> rfl

/-! ### The end of a search (R134) -/

/-- What the end of a search leaves: silences ended, the tree ended with its hold-off, and EVENT SEARCH_END queued. -/
theorem State.endSearch_leaves {s : State} (t : Tree) (o : SearchOutcome) (r : SearchReason) (hl : s.link.total < 12) :
    (∀ h, (s.endSearch t o r).home h = endedHome (s.home h) t) ∧
      s.endSearch t o r = { s with
        homes := (s.endSearch t o r).homes
        trees := s.trees.set t.idx (endedTree s t o r (holdOffAfter o))
        link := s.link.take (searchEndFrame s t o r) } := by
  obtain ⟨v, hrun, hframe, hin, -⟩ := State.foldl_tell t id (fun _ x => endedHome x t) (fun _ => Home.release t) homeIndexes
    (by rw [List.map_id]; exact List.nodup_finRange 128) (s.onTree t TreeLine.forgetAwaited)
  have hsilent : homeIndexes.foldl (State.endSilence t) (s.onTree t TreeLine.forgetAwaited) = v := by
    rw [← hrun]
    exact congrArg (fun f => homeIndexes.foldl f (s.onTree t TreeLine.forgetAwaited)) (funext fun u => funext fun h => u.endSilence_eq t h)
  have htree : v.tree t = (silencedTags s t).foldl (fun y tag => y.offer ⟨.silence false, tag, 0, false⟩) (s.tree t).forgetAwaited := by
    have hmsgs := release_messages (s.onTree t TreeLine.forgetAwaited) t
    rw [hframe]
    refine (Quad_get_set _ _ _ _).trans ((if_pos rfl).trans ?_)
    refine (congrArg (fun ms => ms.foldl TreeLine.offer ((s.onTree t TreeLine.forgetAwaited).tree t)) hmsgs).trans ?_
    rw [State.onTree_self, List.foldl_map]
    rfl
  have hlink : v.link = s.link := by rw [hframe]; rfl
  have hend : s.endSearch t o r =
      (v.onTree t fun y => { y with search := SearchContext.idle (some ⟨o, r, (s.tree t).search.cause, (s.tree t).search.probe,
          (s.tree t).search.candidates.length, (s.tree t).search.foundCount⟩), darkCounter := 0, holdOff := holdOffAfter o }).onLink
        fun l => l.take (searchEndFrame s t o r) := by
    rw [State.endSearch, hsilent]
    exact State.event_room _ (by rw [State.onTree_link, hlink]; exact hl)
  rw [hend]
  refine ⟨fun h => hin h (mem_homeIndexes h), ?_⟩
  rw [State.onTree, htree, hframe]
  simp only [State.setTree, State.onLink, State.onTree, Quad_set_set]
  rfl

end Sys2Proof.Machine
end

section
/-! SUPPORT. The third observation of a probe (R124) and its verdict (R125 to R129, R131): the search's end or its next probe, with the isolation of a clear CONFIRM (R109, R127). -/

namespace Sys2Proof.Machine

/-! ### One tree replaced by an event -/

/-- The part after an event that replaced one tree. -/
def State.seenAs (s : State) (t : Tree) (y : TreeLine) : State := { s with trees := s.trees.set t.idx y, out := [] }

section SeenAs

variable (s : State) (t : Tree) (y : TreeLine)

@[simp] theorem State.seenAs_home (h : HomeIndex) : (s.seenAs t y).home h = s.home h := rfl
@[simp] theorem State.seenAs_link : (s.seenAs t y).link = s.link := rfl
@[simp] theorem State.seenAs_tree : (s.seenAs t y).tree t = y := (Quad_get_set _ _ _ _).trans (if_pos rfl)
@[simp] theorem State.seenAs_onTree (f : TreeLine → TreeLine) : (s.seenAs t y).onTree t f = s.seenAs t (f y) := by
  rw [State.onTree, State.seenAs_tree]
  simp only [State.setTree, State.seenAs, Quad_set_set]

end SeenAs

/-- R34: a reserved quiet window is taken and handed on. -/
theorem exec_quietWindow_taken {s : State} {c : Config} {t : Tree} (level : Byte) (hc : s.config = some c) (hq : (s.tree t).active.quiet = true)
    (ht : (s.tree t).quietTaken = false) :
    exec (.quietWindowMeasured t level) s =
      .next ((s.seenAs t { s.tree t with quietTaken := true }).handQuiet t true (decide (c.dark ≤ level.toNat))) :=
  exec_quietWindow level hc hq ht

/-- R124: the third observation of a probe is counted and gives the verdict. -/
theorem State.observe_third {s : State} {t : Tree} (dark : Bool) (hp : (s.tree t).search.phase = .observing) (ho : (s.tree t).search.observations = 2) :
    s.observe t dark =
      (s.onSearch t fun k => { k with observations := (s.tree t).search.observations + 1, dark := (s.tree t).search.dark + if dark then 1 else 0 }).verdict t
        (decide (2 ≤ (s.tree t).search.dark + if dark then 1 else 0)) := by
  have hthree : 3 ≤ (s.tree t).search.observations + 1 := by rw [ho]
  unfold State.observe
  dsimp only
  rw [hp]
  exact if_pos hthree

/-- R34, R124: the third observation of a probe gives the verdict, lit when 2 or 3 observations were DARK. -/
theorem exec_thirdObservation {s : State} {c : Config} {t : Tree} (level : Byte) (hc : s.config = some c) (hq : (s.tree t).active.quiet = true)
    (ht : (s.tree t).quietTaken = false) (hr : (s.tree t).search.running = true) (hp : (s.tree t).search.phase = .observing)
    (ho : (s.tree t).search.observations = 2) :
    exec (.quietWindowMeasured t level) s =
      .next ((s.seenAs t (observed (s.tree t) (decide (c.dark ≤ level.toNat)))).verdict t
        (decide (2 ≤ (s.tree t).search.dark + if decide (c.dark ≤ level.toNat) then 1 else 0))) := by
  have hthird := State.observe_third (s := s.seenAs t { s.tree t with quietTaken := true }) (t := t) (decide (c.dark ≤ level.toNat))
    (by rw [State.seenAs_tree]; exact hp) (by rw [State.seenAs_tree]; exact ho)
  rw [exec_quietWindow_taken level hc hq ht, State.handQuiet_searching _ (by rw [State.seenAs_tree]; exact hr), hthird, State.onSearch, State.seenAs_onTree,
    State.seenAs_tree]
  rfl

/-! ### The next probe, or the end at the limit (R131) -/

section NextProbe

variable {s : State} {t : Tree}

theorem State.nextProbe_goes (step : SearchStep) (first count : Nat) (hp : (s.tree t).search.probe < 40) :
    s.nextProbe t step first count = s.setupProbe t step first count := if_neg (Nat.not_le.2 hp)

theorem State.nextProbe_ends (step : SearchStep) (first count : Nat) (hp : 40 ≤ (s.tree t).search.probe) :
    s.nextProbe t step first count = s.endSearch t .unresolved .limit := if_pos hp

theorem State.examine_descends {first count : Nat} (hn : 2 ≤ count) : s.examine t first count = s.nextProbe t .descend first count := if_pos hn

theorem State.examine_confirms {first count : Nat} (hn : count < 2) : s.examine t first count = s.nextProbe t .confirm first count :=
  if_neg (Nat.not_le.2 hn)

theorem State.examine_nextProbe (s : State) (t : Tree) (first count : Nat) : ∃ step, s.examine t first count = s.nextProbe t step first count :=
  (le_or_gt 2 count).elim (fun h => ⟨_, State.examine_descends h⟩) fun h => ⟨_, State.examine_confirms h⟩

end NextProbe

/-- A tree with the trail of its search replaced. -/
def TreeLine.withTrail (y : TreeLine) (trail : List TrailEntry) : TreeLine := { y with search := { y.search with trail := trail } }

/-! ### Verdicts (R125 to R129) -/

section Verdict

variable {s : State} {t : Tree} {y : TreeLine}

theorem State.popTrail_final (htrail : y.search.trail = []) :
    (s.seenAs t y).popTrail t = (s.seenAs t (y.withTrail [])).nextProbe t .final y.search.first y.search.count := by
  have hy : y.withTrail [] = y := by rw [← htrail]; rfl
  rw [State.popTrail, hy]
  simp only [State.seenAs_tree, htrail]

theorem State.popTrail_top {e : TrailEntry} {rest : List TrailEntry} (htrail : y.search.trail = e :: rest) :
    (s.seenAs t y).popTrail t = (s.seenAs t (y.withTrail rest)).examine t e.first e.count := by
  rw [State.popTrail]
  simp only [State.seenAs_tree, htrail, State.onSearch, State.seenAs_onTree]
  rfl

theorem State.verdict_baseline_clear (hstep : y.search.step = .baseline) :
    (s.seenAs t y).verdict t false = (s.seenAs t y).endSearch t .clear .none := by
  unfold State.verdict
  rw [State.seenAs_tree]
  dsimp only
  rw [hstep]

theorem State.verdict_recheck_clear (hstep : y.search.step = .recheck) :
    (s.seenAs t y).verdict t false = (s.seenAs t y).endSearch t .found .none := by
  unfold State.verdict
  rw [State.seenAs_tree]
  dsimp only
  rw [hstep]

theorem State.verdict_final (hstep : y.search.step = .final) (lit : Bool) :
    (s.seenAs t y).verdict t lit = (s.seenAs t y).endSearch t .unresolved (if lit then .foreign else .candidates) := by
  unfold State.verdict
  rw [State.seenAs_tree]
  dsimp only
  rw [hstep]
  cases lit <;> rfl

theorem State.verdict_baseline_lit (hstep : y.search.step = .baseline) :
    (s.seenAs t y).verdict t true = if y.search.candidates.length = 0 then (s.seenAs t y).nextProbe t .final 0 0
      else (s.seenAs t y).examine t 0 y.search.candidates.length := by
  unfold State.verdict
  rw [State.seenAs_tree]
  dsimp only
  rw [hstep]

theorem State.verdict_descend_clear (hstep : y.search.step = .descend) :
    (s.seenAs t y).verdict t false = (s.seenAs t y).examine t y.search.first (halfCount y.search.count) := by
  unfold State.verdict
  rw [State.seenAs_tree]
  dsimp only
  rw [hstep]

theorem State.verdict_descend_lit (hstep : y.search.step = .descend) :
    (s.seenAs t y).verdict t true =
      (s.seenAs t (y.withTrail (⟨y.search.first, halfCount y.search.count, y.search.probe⟩ :: y.search.trail))).examine t
        (y.search.first + halfCount y.search.count) (y.search.count - halfCount y.search.count) := by
  unfold State.verdict
  rw [State.seenAs_tree]
  dsimp only
  rw [hstep, State.onSearch, State.seenAs_onTree]
  rfl

theorem State.verdict_pops (hstep : y.search.step = .confirm ∨ y.search.step = .recheck) : (s.seenAs t y).verdict t true = (s.seenAs t y).popTrail t := by
  unfold State.verdict
  rw [State.seenAs_tree]
  dsimp only
  obtain hstep | hstep := hstep <;> rw [hstep]

theorem State.verdict_confirm_clear (hstep : y.search.step = .confirm) :
    (s.seenAs t y).verdict t false = ((s.seenAs t y).confirmClear t y.search.first).nextProbe t .recheck y.search.first y.search.count := by
  unfold State.verdict
  rw [State.seenAs_tree]
  dsimp only
  rw [hstep]

/-- A DESCEND, and a lit BASELINE, CONFIRM or RECHECK, go on to a next probe with some trail. -/
theorem State.verdict_nextProbe {lit : Bool}
    (hstep : y.search.step = .descend ∨ (lit = true ∧ (y.search.step = .baseline ∨ y.search.step = .confirm ∨ y.search.step = .recheck))) :
    ∃ trail step first count, (s.seenAs t y).verdict t lit = (s.seenAs t (y.withTrail trail)).nextProbe t step first count := by
  have hexamine : ∀ trail first count, (s.seenAs t y).verdict t lit = (s.seenAs t (y.withTrail trail)).examine t first count →
      ∃ trail step first count, (s.seenAs t y).verdict t lit = (s.seenAs t (y.withTrail trail)).nextProbe t step first count :=
    fun trail first count hv => by
      obtain ⟨step, he⟩ := (s.seenAs t (y.withTrail trail)).examine_nextProbe t first count
      exact ⟨trail, step, first, count, hv.trans he⟩
  obtain hstep | ⟨rfl, hstep | hstep⟩ := hstep
  · cases lit with
    | false => exact hexamine y.search.trail _ _ (State.verdict_descend_clear hstep)
    | true => exact hexamine _ _ _ (State.verdict_descend_lit hstep)
  · have hv := State.verdict_baseline_lit (s := s) (t := t) hstep
    split at hv
    · exact ⟨y.search.trail, _, _, _, hv⟩
    · exact hexamine y.search.trail _ _ hv
  · have hv := State.verdict_pops (s := s) (t := t) hstep
    cases htrail : y.search.trail with
    | nil => exact ⟨_, _, _, _, hv.trans (State.popTrail_final htrail)⟩
    | cons e rest => exact hexamine _ _ _ (hv.trans (State.popTrail_top htrail))

end Verdict

/-! ### A clear CONFIRM (R109, R127) -/

/-- A tree on which a search has recorded a home as found (R127). -/
def TreeLine.recorded (y : TreeLine) (h : HomeIndex) : TreeLine := { y with search := y.search.recordFound h }

/-- A tree on which a search has isolated a home, with room for its LASER-OFF, and recorded it (R109, R127). -/
def TreeLine.convicted (y : TreeLine) (h : HomeIndex) (tag : Nat) : TreeLine :=
  { y.recorded h with isolations := min 65535 (y.isolations + 1), queue := insertCtl ⟨.laserOff, tag, 0, true⟩ y.queue }

/-- EVENT ISOLATED of a home that a search found. -/
def isolatedFrame (x : Home) (h : HomeIndex) : Frame := ⟨31, .event (.isolated h x.identity x.account x.tree x.tag x.score .search none), false⟩

/-- The part when a clear CONFIRM has isolated its candidate. -/
def State.convicts (s : State) (t : Tree) (y : TreeLine) (h : HomeIndex) (tag : Nat) : State :=
  { s.seenAs t (y.convicted h tag) with
    homes := s.homes.set h (s.home h).toIsolated
    link := s.link.take (isolatedFrame (s.home h) h) }

/-- R109: an entry of a tree isolated, with its LASER-OFF offered and its event queued. -/
theorem State.isolate_eq {s : State} {h : HomeIndex} {u : Tree} {tag : Nat} (cause : IsolateCause) (e : Option Evidence)
    (hu : (s.home h).tree = some u) (htag : (s.home h).tag = some tag) :
    s.isolate h cause e =
      ((s.setHome h (s.home h).toIsolated).onTree u fun y =>
          ({ y with isolations := bump y.isolations } : TreeLine).offer ⟨.laserOff, tag, 0, decide (cause = IsolateCause.search)⟩).event
        (.isolated h (s.home h).identity (s.home h).account (some u) (some tag) (s.home h).score cause e) := by
  unfold State.isolate
  simp only [hu, htag, State.offerCtl, State.onTree_onTree]
  rfl

theorem State.convicts_tree (s : State) (t : Tree) (y : TreeLine) (h : HomeIndex) (tag : Nat) : (s.convicts t y h tag).tree t = y.convicted h tag :=
  s.seenAs_tree t (y.convicted h tag)

section Confirm

variable {s : State} {t : Tree} {y : TreeLine} {x : Candidate}

theorem State.confirmClear_convicts {tag : Nat} (hx : y.search.candidates[y.search.first]? = some x) (hp : s.present t x = true)
    (htag : (s.home x.home).tag = some tag) (hl : s.link.total < 12) (hq : y.queue.length < 16) :
    (s.seenAs t y).confirmClear t y.search.first = s.convicts t y x.home tag := by
  have hon : (s.home x.home).tree = some t := State.present_tree hp
  have hoffer : ({ y with isolations := bump y.isolations } : TreeLine).offer ⟨.laserOff, tag, 0, true⟩ =
      { y with isolations := bump y.isolations, queue := insertCtl ⟨.laserOff, tag, 0, true⟩ y.queue } := TreeLine.offer_urgent _ _ rfl hq
  have hset : ∀ z, (s.seenAs t y).setHome x.home z = (s.setHome x.home z).seenAs t y := fun _ => rfl
  have hlink : ∀ (v : State) (f : Link → Link) (g : SearchContext → SearchContext), (v.onLink f).onSearch t g = (v.onSearch t g).onLink f := fun _ _ _ => rfl
  have hisolate : (s.seenAs t y).isolate x.home .search none =
      ((s.setHome x.home (s.home x.home).toIsolated).seenAs t
        { y with isolations := bump y.isolations, queue := insertCtl ⟨.laserOff, tag, 0, true⟩ y.queue }).onLink
        fun l => l.take (isolatedFrame (s.home x.home) x.home) := by
    rw [State.isolate_eq (s := s.seenAs t y) .search none hon htag, State.event_room _ (by exact hl), hset, State.seenAs_onTree, isolatedFrame, hon, htag, ← hoffer]
    rfl
  have hp' : (s.seenAs t y).present t x = true := hp
  rw [State.confirmClear, State.seenAs_tree, hx]
  simp only [hp', if_true]
  rw [hisolate, hlink, State.onSearch, State.seenAs_onTree]
  rfl

theorem State.confirmClear_records (hx : y.search.candidates[y.search.first]? = some x) (hs : (s.home x.home).state = .isolated)
    (hid : (s.home x.home).identity = some x.identity) : (s.seenAs t y).confirmClear t y.search.first = s.seenAs t (y.recorded x.home) := by
  have hp : (s.seenAs t y).present t x = false := by simp [State.present, Home.servedOn, hs, inService]
  have hiso : ((s.seenAs t y).home x.home).state = .isolated ∧ ((s.seenAs t y).home x.home).identity = some x.identity := ⟨hs, hid⟩
  rw [State.confirmClear, State.seenAs_tree, hx]
  simp only [hp, Bool.false_eq_true, if_false, if_pos hiso, State.onSearch, State.seenAs_onTree]
  rfl

theorem State.confirmClear_gone (hgone : ∀ x : Candidate, y.search.candidates[y.search.first]? = some x →
      s.present t x = false ∧ ((s.home x.home).state ≠ .isolated ∨ (s.home x.home).identity ≠ some x.identity)) :
    (s.seenAs t y).confirmClear t y.search.first = s.seenAs t y := by
  rw [State.confirmClear, State.seenAs_tree]
  split
  · rfl
  · rename_i x hx
    obtain ⟨hp, hiso⟩ := hgone x hx
    have hp' : (s.seenAs t y).present t x = false := hp
    have hno : ¬ (((s.seenAs t y).home x.home).state = .isolated ∧ ((s.seenAs t y).home x.home).identity = some x.identity) :=
      fun h => hiso.elim (· h.1) (· h.2)
    rw [hp', if_neg Bool.false_ne_true, if_neg hno]

end Confirm

end Sys2Proof.Machine
end

section
/-! SUPPORT. The set-up of a probe on the whole candidate list (R121, R122), the search that DARK starts (R114), and the verdicts put together. -/

namespace Sys2Proof.Machine

/-! ### The set-up (R121, R122) -/

/-- R121: the target set of a step. -/
theorem SearchContext.probed_target (k : SearchContext) (step : SearchStep) (first count : Nat) :
    (k.probed step first count).target =
      match step with
      | .baseline | .recheck => []
      | .descend => List.range' first ((count + 1) / 2) ++ k.trail.flatMap fun e => List.range' e.first e.count
      | .confirm => first :: k.trail.flatMap fun e => List.range' e.first e.count
      | .final => List.range k.candidates.length := by
  have hpositions : ∀ a n, positions a n = List.range' a n := fun _ _ => List.range'_eq_map_range.symm
  cases step <;> simp [SearchContext.probed, SearchContext.targetOf, SearchContext.trailPositions, hpositions, halfCount, List.range_eq_range']

theorem TreeLine.probed_eq (y : TreeLine) {step : SearchStep} {first count : Nat} {target : List Nat}
    (h : (y.search.probed step first count).target = target) :
    y.probed step first count = { y with search := { y.search with
      step := step, first := first, count := count, probe := y.search.probe + 1, phase := .settling, settle := 0, observations := 0, dark := 0
      target := target } } := by
  rw [← h]
  rfl

/-- The candidates that a set-up commands, each with its place. -/
def State.changedBy (s : State) (t : Tree) (target : List Nat) : List (Candidate × Nat) :=
  (s.tree t).search.candidates.zipIdx.filter fun p => (s.home p.1.home).mustChange t target p

/-- R122: each candidate that must change is silenced or freed, its SILENCE offered in position order, and nothing else changes. -/
theorem State.setupProbe_leaves (s : State) (t : Tree) (step : SearchStep) (first count : Nat) {target : List Nat}
    (htarget : ((s.tree t).search.probed step first count).target = target) (hnd : ((s.tree t).search.candidates.map Candidate.home).Nodup) :
    ∃ s' : State, s.setupProbe t step first count = s' ∧
      s' = { s with
        homes := s'.homes
        trees := s.trees.set t.idx (((s.changedBy t target).map fun p => silenceFor target p (s.home p.1.home)).foldl TreeLine.offer
          ((s.tree t).probed step first count)) } ∧
      (∀ p ∈ s.changedBy t target, s'.home p.1.home = { s.home p.1.home with silence := if p.2 ∈ target then .search else .none }) ∧
      ∀ h, (∀ p ∈ s.changedBy t target, p.1.home ≠ h) → s'.home h = s.home h := by
  have hkeys : ((s.tree t).search.candidates.zipIdx.map fun p => p.1.home).Nodup := by
    have hfst : ((s.tree t).search.candidates.zipIdx.map fun p => p.1.home) = (s.tree t).search.candidates.map Candidate.home := by
      conv_rhs => rw [← List.zipIdx_map_fst 0 (s.tree t).search.candidates, List.map_map]
      rfl
    rw [hfst]
    exact hnd
  obtain ⟨s', hrun, hframe, hin, hout⟩ := State.foldl_tell t (fun p : Candidate × Nat => p.1.home) (Home.commanded t target) (Home.command t target)
    (s.tree t).search.candidates.zipIdx hkeys (s.onTree t fun y => y.probed step first count)
  have hsetup : s.setupProbe t step first count = s' := by
    rw [State.setupProbe_eq, htarget, ← hrun]
    exact congrArg (fun f => (s.tree t).search.candidates.zipIdx.foldl f (s.onTree t fun y => y.probed step first count))
      (funext fun u => funext fun p => u.commandCandidate_eq t target p)
  have hmsgs : ((s.tree t).search.candidates.zipIdx.filterMap fun p => Home.command t target p (s.home p.1.home)) =
      (s.changedBy t target).map fun p => silenceFor target p (s.home p.1.home) := by
    rw [State.changedBy, ← List.filterMap_eq_map, List.filterMap_filter]
    rfl
  refine ⟨s', hsetup, ?_, fun p hp => ?_, fun h hh => ?_⟩
  · simp only [State.onTree_home, hmsgs, State.onTree_self] at hframe
    rw [hframe]
    simp only [State.onTree, State.setTree, Quad_set_set]
  · obtain ⟨hmem, hchange⟩ := List.mem_filter.1 hp
    rw [hin p hmem, Home.commanded]
    exact if_pos hchange
  · by_cases hcand : ∃ p ∈ (s.tree t).search.candidates.zipIdx, p.1.home = h
    · obtain ⟨p, hp, rfl⟩ := hcand
      have hkept : ¬ (s.home p.1.home).mustChange t target p = true := fun hm => hh p (List.mem_filter.2 ⟨hp, hm⟩) rfl
      rw [hin p hp, Home.commanded]
      exact if_neg hkept
    · exact hout h fun p hp e => hcand ⟨p, hp, e⟩

section Commanded

variable {s : State} {t : Tree} {target : List Nat} {x : Candidate} {place tag : Nat}

theorem State.present_iff : s.present t x = true ↔
    inService (s.home x.home).state = true ∧ (s.home x.home).tree = some t ∧ (s.home x.home).identity = some x.identity := by
  simp only [State.present, Bool.and_eq_true, decide_eq_true_eq, Home.servedOn_iff, and_assoc]

/-- R122: a present candidate whose silence differs from its place in the target set. -/
theorem State.commandCandidate_changes (htag : (s.home x.home).tag = some tag) (hp : s.present t x = true)
    (hc : place ∈ target ↔ (s.home x.home).silence = .none) :
    s.commandCandidate t target (x, place) = { s with
      homes := s.homes.set x.home { s.home x.home with silence := if place ∈ target then .search else .none }
      trees := s.trees.set t.idx ((s.tree t).offer ⟨.silence (decide (place ∈ target)), tag, 0, true⟩) } := by
  obtain ⟨hs, ht, hid⟩ := State.present_iff.1 hp
  have hchange : (s.home x.home).mustChange t target (x, place) = true := (Home.mustChange_iff _ _ _ _).2 ⟨hs, ht, hid, by rw [htag]; rfl, hc⟩
  rw [State.commandCandidate_eq, State.tell_eq]
  simp only [Home.commanded, Home.command, hchange, if_true, silenceFor, htag]
  rfl

end Commanded

/-! ### DARK starts a search (R114) -/

/-- R113, R114: DARK that takes the counter to 16 outside a hold-off starts a search of a RUNNING tree. -/
theorem State.dark_starts {s : State} {t : Tree} (hrun : (s.tree t).running = true) (hr : (s.tree t).search.running = false)
    (hd : 12 ≤ (s.tree t).darkCounter) (hh : (s.tree t).holdOff = 0) (hq : ∀ h, (s.home h).tree = some t → (s.home h).silence = .none) :
    s.dark t = s.onTree t fun y =>
      ({ y with darks := bump y.darks, darkCounter := satAdd 255 y.darkCounter 4, darkSearches := bump y.darkSearches } : TreeLine).searched .dark
        (s.candidatesOf t) := by
  have hstarts : 16 ≤ satAdd 255 (s.tree t).darkCounter 4 ∧ (s.tree t).running = true ∧ (s.tree t).holdOff = 0 := by
    refine ⟨?_, hrun, hh⟩
    unfold satAdd
    omega
  rw [State.dark, State.addDark]
  simp only [State.onTree_self, hr, Bool.false_eq_true, if_false, if_pos hstarts, State.onTree_onTree]
  rw [State.startSearch_unsilenced _ (by exact hq), State.onTree_onTree]
  exact congrArg (fun ks => s.onTree t fun y =>
    ({ y with darks := bump y.darks, darkCounter := satAdd 255 (s.tree t).darkCounter 4, darkSearches := bump y.darkSearches } : TreeLine).searched .dark ks)
    (State.candidatesOf_congr t rfl)

/-- R34, R113, R114: a dark quiet window that takes the counter to 16 outside a hold-off starts a search of a RUNNING tree. -/
theorem exec_quietWindow_starts {s : State} {c : Config} {t : Tree} {level : Byte} (hc : s.config = some c) (hq : (s.tree t).active.quiet = true)
    (ht : (s.tree t).quietTaken = false) (hrun : (s.tree t).running = true) (hr : (s.tree t).search.running = false) (hdark : c.dark ≤ level.toNat)
    (hd : 12 ≤ (s.tree t).darkCounter) (hh : (s.tree t).holdOff = 0) (hquiet : ∀ h, (s.home h).tree = some t → (s.home h).silence = .none) :
    exec (.quietWindowMeasured t level) s = .next (s.seenAs t (({ s.tree t with
      quietTaken := true
      darks := bump (s.tree t).darks
      darkCounter := satAdd 255 (s.tree t).darkCounter 4
      darkSearches := bump (s.tree t).darkSearches } : TreeLine).searched .dark (s.candidatesOf t))) := by
  have hks : (s.seenAs t { s.tree t with quietTaken := true }).candidatesOf t = s.candidatesOf t := State.candidatesOf_congr t rfl
  have hstarts := State.dark_starts (s := s.seenAs t { s.tree t with quietTaken := true }) (t := t) (by rw [State.seenAs_tree]; exact hrun)
    (by rw [State.seenAs_tree]; exact hr) (by rw [State.seenAs_tree]; exact hd) (by rw [State.seenAs_tree]; exact hh) hquiet
  rw [exec_quietWindow_taken level hc hq ht, State.handQuiet_idle _ (by rw [State.seenAs_tree]; exact hr), decide_eq_true hdark, if_pos rfl, hstarts,
    State.seenAs_onTree, hks]

/-! ### The verdicts put together -/

/-- An event is a third observation: the tree has been observed, and its verdict follows (R124). -/
def State.Decides (s : State) (i : Instr) (t : Tree) (d lit : Bool) : Prop :=
  exec i s = .next ((s.seenAs t (observed (s.tree t) d)).verdict t lit)

/-- An event ends the search of a tree whose quiet window it has measured (R134). -/
def State.Ends (s : State) (i : Instr) (t : Tree) (o : SearchOutcome) (r : SearchReason) (holdOff : Nat) : Prop :=
  ∃ s' : State, exec i s = .next s' ∧ (∀ h, s'.home h = endedHome (s.home h) t) ∧
    s' = { s with
      homes := s'.homes
      trees := s.trees.set t.idx { endedTree s t o r holdOff with quietTaken := true }
      link := s.link.take (searchEndFrame s t o r)
      out := [] }

/-- An event sets up the next probe of a tree whose quiet window it has measured, with the trail given (R122). -/
def State.Goes (s : State) (i : Instr) (t : Tree) (d : Bool) (trail : List TrailEntry) (step : SearchStep) (first count : Nat) : Prop :=
  exec i s = .next ((s.seenAs t ((observed (s.tree t) d).withTrail trail)).setupProbe t step first count)

/-- The next probe examines a range: DESCEND on 2 or more candidates, CONFIRM on fewer (R125, R126, R128). -/
def State.Examines (s : State) (i : Instr) (t : Tree) (d : Bool) (trail : List TrailEntry) (first count : Nat) : Prop :=
  (2 ≤ count → s.Goes i t d trail .descend first count) ∧ (count < 2 → s.Goes i t d trail .confirm first count)

/-- An event ends the search with reason LIMIT in the state that a 40th, clear CONFIRM leaves (R131). -/
def State.Limits (s u : State) (i : Instr) (t : Tree) : Prop :=
  ∃ s' : State, exec i s = .next s' ∧ (∀ h, s'.home h = endedHome (u.home h) t) ∧
    s' = { u with homes := s'.homes, trees := s.trees.set t.idx (endedTree u t .unresolved .limit 1000)
                  link := u.link.take (searchEndFrame u t .unresolved .limit) }

/-- What a probe has seen and its trail leave no mark on the tree that the end leaves, but for the quiet window's own. -/
theorem endedTree_observed (s : State) (t : Tree) (d : Bool) (trail : List TrailEntry) (o : SearchOutcome) (r : SearchReason) (n : Nat) :
    endedTree (s.seenAs t ((observed (s.tree t) d).withTrail trail)) t o r n = { endedTree s t o r n with quietTaken := true } := by
  have hoffers := (s.tree t).forgetAwaited.offers_withProbe true ((observed (s.tree t) d).withTrail trail).search (silencedTags s t)
  unfold endedTree
  rw [State.seenAs_tree]
  exact congrArg (fun y : TreeLine => { y with
    darkCounter := 0, holdOff := n, search := SearchContext.idle (some ⟨o, r, (s.tree t).search.cause, (s.tree t).search.probe,
      (s.tree t).search.candidates.length, (s.tree t).search.foundCount⟩) }) hoffers

theorem searchEndFrame_observed (s : State) (t : Tree) (d : Bool) (trail : List TrailEntry) (o : SearchOutcome) (r : SearchReason) :
    searchEndFrame (s.seenAs t ((observed (s.tree t) d).withTrail trail)) t o r = searchEndFrame s t o r := by
  unfold searchEndFrame
  rw [State.seenAs_tree]
  rfl

section Decides

variable {s u : State} {t : Tree} {i : Instr} {d lit : Bool} {trail : List TrailEntry} {step : SearchStep} {first count : Nat}

/-- A verdict that ends the search. -/
theorem State.Decides.ends {o : SearchOutcome} {r : SearchReason} (h : s.Decides i t d lit) (hl : s.link.total < 12)
    (hv : (s.seenAs t (observed (s.tree t) d)).verdict t lit = (s.seenAs t ((observed (s.tree t) d).withTrail trail)).endSearch t o r) :
    s.Ends i t o r (holdOffAfter o) := by
  obtain ⟨hhome, hframe⟩ := State.endSearch_leaves (s := s.seenAs t ((observed (s.tree t) d).withTrail trail)) t o r hl
  refine ⟨_, h.trans (congrArg _ hv), hhome, hframe.trans ?_⟩
  rw [endedTree_observed, searchEndFrame_observed]
  simp only [State.seenAs, Quad_set_set]

/-- R125, R128, R129: a clear BASELINE, a clear RECHECK, and FINAL. -/
theorem State.Decides.baseline_clear (h : s.Decides i t d lit) (hl : s.link.total < 12) (hstep : (s.tree t).search.step = .baseline) (hlit : lit = false) :
    s.Ends i t .clear .none 100 := by
  subst hlit
  exact h.ends (trail := (s.tree t).search.trail) hl (State.verdict_baseline_clear hstep)

theorem State.Decides.recheck_clear (h : s.Decides i t d lit) (hl : s.link.total < 12) (hstep : (s.tree t).search.step = .recheck) (hlit : lit = false) :
    s.Ends i t .found .none 100 := by
  subst hlit
  exact h.ends (trail := (s.tree t).search.trail) hl (State.verdict_recheck_clear hstep)

theorem State.Decides.final (h : s.Decides i t d lit) (hl : s.link.total < 12) (hstep : (s.tree t).search.step = .final) :
    s.Ends i t .unresolved (if lit then .foreign else .candidates) 1000 := by
  have hv := State.verdict_final (s := s) (t := t) (y := observed (s.tree t) d) hstep lit
  exact h.ends (trail := (s.tree t).search.trail) hl hv

/-- R131: after the 40th probe the search ends instead of going on. -/
theorem State.Decides.ends_limit (h : s.Decides i t d lit) (hl : s.link.total < 12) (hp : 40 ≤ (s.tree t).search.probe)
    (hstep : (s.tree t).search.step = .descend ∨ (lit = true ∧
      ((s.tree t).search.step = .baseline ∨ (s.tree t).search.step = .confirm ∨ (s.tree t).search.step = .recheck))) :
    s.Ends i t .unresolved .limit 1000 := by
  obtain ⟨trail, step, first, count, hv⟩ := State.verdict_nextProbe (s := s) (t := t) (y := observed (s.tree t) d) hstep
  exact h.ends hl (hv.trans (State.nextProbe_ends _ _ _ (by rw [State.seenAs_tree]; exact hp)))

/-- A verdict that goes on to a probe. -/
theorem State.Decides.goes (h : s.Decides i t d lit) (hp : (s.tree t).search.probe < 40)
    (hv : (s.seenAs t (observed (s.tree t) d)).verdict t lit =
      (s.seenAs t ((observed (s.tree t) d).withTrail trail)).nextProbe t step first count) : s.Goes i t d trail step first count :=
  h.trans (congrArg _ (hv.trans (State.nextProbe_goes _ _ _ (by rw [State.seenAs_tree]; exact hp))))

/-- A verdict that goes on to examine a range. -/
theorem State.Decides.examines (h : s.Decides i t d lit) (hp : (s.tree t).search.probe < 40)
    (hv : (s.seenAs t (observed (s.tree t) d)).verdict t lit = (s.seenAs t ((observed (s.tree t) d).withTrail trail)).examine t first count) :
    s.Examines i t d trail first count :=
  ⟨fun hn => h.goes hp (hv.trans (State.examine_descends hn)), fun hn => h.goes hp (hv.trans (State.examine_confirms hn))⟩

/-- R125: a lit BASELINE. -/
theorem State.Decides.baseline_lit (h : s.Decides i t d lit) (hp : (s.tree t).search.probe < 40) (hstep : (s.tree t).search.step = .baseline)
    (hlit : lit = true) :
    ((s.tree t).search.candidates.length = 0 → s.Goes i t d (s.tree t).search.trail .final 0 0) ∧
      (1 ≤ (s.tree t).search.candidates.length → s.Examines i t d (s.tree t).search.trail 0 (s.tree t).search.candidates.length) := by
  subst hlit
  have hv := State.verdict_baseline_lit (s := s) (t := t) (y := observed (s.tree t) d) hstep
  exact ⟨fun hn => h.goes hp (hv.trans (if_pos hn)), fun hn => h.examines hp (hv.trans (if_neg (Nat.one_le_iff_ne_zero.1 hn)))⟩

/-- R126: a DESCEND. -/
theorem State.Decides.descend (h : s.Decides i t d lit) (hp : (s.tree t).search.probe < 40) (hstep : (s.tree t).search.step = .descend) :
    (lit = false → s.Examines i t d (s.tree t).search.trail (s.tree t).search.first (halfCount (s.tree t).search.count)) ∧
      (lit = true → s.Examines i t d
        (⟨(s.tree t).search.first, halfCount (s.tree t).search.count, (s.tree t).search.probe⟩ :: (s.tree t).search.trail)
        ((s.tree t).search.first + halfCount (s.tree t).search.count) ((s.tree t).search.count - halfCount (s.tree t).search.count)) := by
  refine ⟨fun hlit => ?_, fun hlit => ?_⟩ <;> subst hlit
  · exact h.examines hp (State.verdict_descend_clear hstep)
  · exact h.examines hp (State.verdict_descend_lit hstep)

/-- R127, R128: a lit CONFIRM or RECHECK pops the trail. -/
theorem State.Decides.pops (h : s.Decides i t d lit) (hp : (s.tree t).search.probe < 40) (hlit : lit = true)
    (hstep : (s.tree t).search.step = .confirm ∨ (s.tree t).search.step = .recheck) :
    ((s.tree t).search.trail = [] → s.Goes i t d [] .final (s.tree t).search.first (s.tree t).search.count) ∧
      ∀ e rest, (s.tree t).search.trail = e :: rest → s.Examines i t d rest e.first e.count := by
  subst hlit
  have hv := State.verdict_pops (s := s) (t := t) (y := observed (s.tree t) d) hstep
  exact ⟨fun htrail => h.goes hp (hv.trans (State.popTrail_final htrail)), fun e rest htrail => h.examines hp (hv.trans (State.popTrail_top htrail))⟩

/-- R127: a clear CONFIRM, by the state `u` in which its candidate is left, goes on to RECHECK. -/
theorem State.Decides.confirmed (h : s.Decides i t d lit) (hlit : lit = false) (hstep : (s.tree t).search.step = .confirm)
    (hu : (s.seenAs t (observed (s.tree t) d)).confirmClear t (s.tree t).search.first = u) :
    exec i s = .next (u.nextProbe t .recheck (s.tree t).search.first (s.tree t).search.count) := by
  subst hlit hu
  exact h.trans (congrArg _ (State.verdict_confirm_clear hstep))

theorem State.Decides.rechecks (h : s.Decides i t d lit) (hlit : lit = false) (hstep : (s.tree t).search.step = .confirm)
    (hu : (s.seenAs t (observed (s.tree t) d)).confirmClear t (s.tree t).search.first = u) (hp : (u.tree t).search.probe < 40) :
    exec i s = .next (u.setupProbe t .recheck (s.tree t).search.first (s.tree t).search.count) :=
  (h.confirmed hlit hstep hu).trans (congrArg _ (State.nextProbe_goes _ _ _ hp))

/-- R131: a clear CONFIRM as the 40th probe. -/
theorem State.Decides.limits (h : s.Decides i t d lit) (hlit : lit = false) (hstep : (s.tree t).search.step = .confirm)
    (hu : (s.seenAs t (observed (s.tree t) d)).confirmClear t (s.tree t).search.first = u) (hp : 40 ≤ (u.tree t).search.probe) (hl : u.link.total < 12)
    {y : TreeLine} (htrees : u.trees = s.trees.set t.idx y) : s.Limits u i t := by
  obtain ⟨hhome, hframe⟩ := State.endSearch_leaves t .unresolved .limit hl
  refine ⟨_, (h.confirmed hlit hstep hu).trans (congrArg _ (State.nextProbe_ends _ _ _ hp)), hhome, hframe.trans ?_⟩
  rw [htrees, Quad_set_set]
  rfl

/-- R127, R131: what a clear CONFIRM as the 40th probe does by its candidate. -/
theorem State.Decides.confirm_limits (h : s.Decides i t d lit) (hl : s.link.total < 12) (hp : 40 ≤ (s.tree t).search.probe)
    (hstep : (s.tree t).search.step = .confirm) (hlit : lit = false) :
    (∀ (x : Candidate) (tag : Nat), (s.tree t).search.candidates[(s.tree t).search.first]? = some x → s.present t x = true →
      (s.home x.home).tag = some tag → s.link.total ≤ 10 → (s.tree t).queue.length < 16 →
      s.Limits (s.convicts t (observed (s.tree t) d) x.home tag) i t) ∧
    (∀ x : Candidate, (s.tree t).search.candidates[(s.tree t).search.first]? = some x → (s.home x.home).state = .isolated →
      (s.home x.home).identity = some x.identity → s.Limits (s.seenAs t ((observed (s.tree t) d).recorded x.home)) i t) ∧
    ((∀ x : Candidate, (s.tree t).search.candidates[(s.tree t).search.first]? = some x →
        s.present t x = false ∧ ((s.home x.home).state ≠ .isolated ∨ (s.home x.home).identity ≠ some x.identity)) →
      s.Limits (s.seenAs t (observed (s.tree t) d)) i t) := by
  refine ⟨fun x tag hx hpres htag hten hq => ?_, fun x hx hiso hid => ?_, fun hgone => ?_⟩
  · exact h.limits hlit hstep (State.confirmClear_convicts hx hpres htag hl hq) (by rw [State.convicts_tree]; exact hp)
      (Nat.lt_succ_of_le ((Link.take_total_le _ _).trans (Nat.succ_le_succ hten))) rfl
  · exact h.limits hlit hstep (State.confirmClear_records hx hiso hid) (by rw [State.seenAs_tree]; exact hp) hl rfl
  · exact h.limits hlit hstep (State.confirmClear_gone hgone) (by rw [State.seenAs_tree]; exact hp) hl rfl

/-- R127: what a clear CONFIRM does by its candidate before it goes on to RECHECK. -/
theorem State.Decides.confirm_rechecks (h : s.Decides i t d lit) (hp : (s.tree t).search.probe < 40) (hstep : (s.tree t).search.step = .confirm)
    (hlit : lit = false) {x : Candidate} (hx : (s.tree t).search.candidates[(s.tree t).search.first]? = some x) :
    (∀ tag : Nat, s.present t x = true → (s.home x.home).tag = some tag → s.link.total < 12 → (s.tree t).queue.length < 16 →
      exec i s = .next ((s.convicts t (observed (s.tree t) d) x.home tag).setupProbe t .recheck (s.tree t).search.first (s.tree t).search.count)) ∧
    ((s.home x.home).state = .isolated → (s.home x.home).identity = some x.identity →
      exec i s = .next ((s.seenAs t ((observed (s.tree t) d).recorded x.home)).setupProbe t .recheck (s.tree t).search.first (s.tree t).search.count)) ∧
    (s.present t x = false → ((s.home x.home).state ≠ .isolated ∨ (s.home x.home).identity ≠ some x.identity) →
      s.Goes i t d (s.tree t).search.trail .recheck (s.tree t).search.first (s.tree t).search.count) := by
  refine ⟨fun tag hpres htag hl hq => ?_, fun hiso hid => ?_, fun hpres hiso => ?_⟩
  · exact h.rechecks hlit hstep (State.confirmClear_convicts hx hpres htag hl hq) (by rw [State.convicts_tree]; exact hp)
  · exact h.rechecks hlit hstep (State.confirmClear_records hx hiso hid) (by rw [State.seenAs_tree]; exact hp)
  · refine h.rechecks hlit hstep (State.confirmClear_gone fun z hz => ?_) (by rw [State.seenAs_tree]; exact hp)
    obtain rfl : x = z := Option.some.inj (hx.symm.trans hz)
    exact ⟨hpres, hiso⟩

end Decides

/-- Settles O36: the third observation leads to the step's verdict, which ends the search or sets up the next probe, and a set-up is a run over the candidates. -/
theorem searchVerdicts : Obligations.SearchVerdicts := by
  refine ⟨?_, fun s t target x place tag htag => ⟨fun hp => ?_, fun hp => ⟨fun hin hsil => ?_, fun hout hsil => ?_, fun hsame => ?_⟩⟩, ?_, ?_⟩
  · intro s c t level hc hq ht hr hp ho dark lit k seen ends goes examines half
    have hd : s.Decides (.quietWindowMeasured t level) t dark lit := exec_thirdObservation level hc hq ht hr hp ho
    refine ⟨fun hl => ⟨hd.baseline_clear hl, hd.recheck_clear hl, fun hstep hlit => ?_, fun hstep hlit => ?_, hd.ends_limit hl, hd.confirm_limits hl⟩,
      fun hp => ⟨hd.baseline_lit hp, fun hstep => (hd.descend hp hstep).1, fun hstep => (hd.descend hp hstep).2, hd.pops hp,
        fun hstep hlit x hx => hd.confirm_rechecks hp hstep hlit hx⟩⟩ <;>
    · have hfinal := hd.final hl hstep
      rw [hlit] at hfinal
      exact hfinal
  · exact State.commandCandidate_same (Bool.eq_false_iff.2 fun hm => by
      obtain ⟨hs, ht, hid, -⟩ := (Home.mustChange_iff _ _ _ _).1 hm
      exact Bool.eq_false_iff.1 hp (State.present_iff.2 ⟨hs, ht, hid⟩))
  · rw [State.commandCandidate_changes htag hp (iff_of_true hin hsil), if_pos hin, decide_eq_true hin]
  · rw [State.commandCandidate_changes htag hp (iff_of_false hout fun e => Silence.noConfusion (hsil.symm.trans e)), if_neg hout, decide_eq_false hout]
  · refine State.commandCandidate_same (Bool.eq_false_iff.2 fun hm => ?_)
    obtain ⟨-, -, -, -, hc⟩ := (Home.mustChange_iff _ _ _ _).1 hm
    have hboth := hsame.symm.trans hc
    cases hsil : (s.home x.home).silence <;> simp [hsil] at hboth
  · intro s t step first count k trail target changed hnd
    have hchanged : s.changedBy t target = changed := List.filter_congr fun p _ => by
      rw [Bool.eq_iff_iff, Home.mustChange_iff, decide_eq_true_eq]
    obtain ⟨s', hsetup, hframe, hin, hout⟩ := s.setupProbe_leaves t step first count (target := target) (k.probed_target step first count) hnd
    rw [hchanged] at hframe hin hout
    refine ⟨s', hsetup, ?_, hin, hout, fun u hu => ?_, ?_⟩
    · have htree := congrArg (fun u : State => u.tree t) hframe
      rw [TreeLine.probed_eq _ (k.probed_target step first count)] at htree
      exact htree.trans ((Quad_get_set _ _ _ _).trans (if_pos rfl))
    · rw [hframe]
      exact (Quad_get_set _ _ _ _).trans (if_neg fun e => hu (Tree_idx_inj.1 e))
    · rw [hframe]
  · exact fun s c t level hc hq ht hrun hr hdark hd hh hquiet => exec_quietWindow_starts hc hq ht hrun hr hdark hd hh hquiet

end Sys2Proof.Machine
end

section
/-! SUPPORT. The calendar's arithmetic (R136, R138, R146): the seconds of a day, the days of a year, the moment one second later, and the duration of a billing period. -/

namespace Sys2Proof.Machine

/-! ### The seconds of a day (R136, R138) -/

theorem timeSeconds_lt {t : TimeOfDay} (h : timeValid t = true) : timeSeconds t < 86400 := by
  obtain ⟨hhh, hmm, hss⟩ := (timeValid_iff t).1 h
  unfold timeSeconds
  omega

/-- R138: before 23:59:59 a second later is the same day. -/
theorem timeAdvance_sameDay {t : TimeOfDay} (h : timeValid t = true) (hne : t ≠ ⟨23, 59, 59⟩) :
    (timeAdvance t).2 = false ∧ timeSeconds (timeAdvance t).1 = timeSeconds t + 1 := by
  obtain ⟨hhh, hmm, hss⟩ := (timeValid_iff t).1 h
  unfold timeAdvance
  split
  · exact ⟨rfl, rfl⟩
  · split
    · refine ⟨rfl, ?_⟩
      simp only [timeSeconds]
      omega
    · split
      · refine ⟨rfl, ?_⟩
        simp only [timeSeconds]
        omega
      · refine absurd (?_ : t = ⟨23, 59, 59⟩) hne
        rw [TimeOfDay.mk.injEq]
        omega

/-- The time of day of a number of seconds (R146). -/
theorem timeSeconds_ofSeconds (n : Nat) : timeSeconds ⟨n / 3600, n / 60 % 60, n % 60⟩ = n := by
  dsimp only [timeSeconds]
  omega

theorem timeValid_ofSeconds {n : Nat} (h : n < 86400) : timeValid ⟨n / 3600, n / 60 % 60, n % 60⟩ = true := by
  rw [timeValid_iff]
  dsimp only
  omega

/-! ### The days of a year (R136) -/

theorem daysBefore_succ (year : Nat) {month : Nat} (h : 1 ≤ month) :
    daysBefore year (month + 1) = daysBefore year month + monthLength year month := by
  obtain ⟨k, rfl⟩ := Nat.exists_eq_succ_of_ne_zero (Nat.pos_iff_ne_zero.1 h)
  rfl

theorem daysBefore_mono (year : Nat) : Monotone (daysBefore year) := by
  refine monotone_nat_of_le_succ fun month => ?_
  obtain rfl | h := Nat.eq_zero_or_pos month
  · exact Nat.le_refl 0
  · rw [daysBefore_succ year h]
    exact Nat.le_add_right _ _

/-- R136: the twelve months of a year lead to 1 January of the next. -/
theorem daysBefore_yearEnd (year : Nat) : 365 * (year + 1) + (year + 1 + 3) / 4 = 365 * year + (year + 3) / 4 + daysBefore year 13 := by
  have hdays : daysBefore year 13 = 337 + monthLength year 2 := by
    simp only [daysBefore, monthLength]
    omega
  rw [hdays]
  unfold monthLength leapYear
  by_cases h : year % 4 = 0
  · simp only [h, decide_true, if_true]
    omega
  · simp only [h, decide_false, Bool.false_eq_true, if_false]
    omega

/-- A valid date lies before 1 January of the next year. -/
theorem Moment.dayNumber_lt {m : Moment} (h : m.valid = true) : m.dayNumber < 365 * (m.year + 1) + (m.year + 1 + 3) / 4 := by
  obtain ⟨-, hlo, hhi, hday, hlen, -⟩ := (Moment.valid_iff m).1 h
  have hmonth : daysBefore m.year m.month + monthLength m.year m.month ≤ daysBefore m.year 13 := by
    rw [← daysBefore_succ m.year hlo]
    exact daysBefore_mono m.year (Nat.succ_le_succ hhi)
  rw [daysBefore_yearEnd, Moment.dayNumber]
  omega

/-- R136: 31 December 99 is day 36524. -/
theorem Moment.dayNumber_le {m : Moment} (h : m.valid = true) : m.dayNumber ≤ 36524 := by
  have hlt := Moment.dayNumber_lt h
  obtain ⟨hyear, -⟩ := (Moment.valid_iff m).1 h
  omega

/-! ### One second later (R138) -/

/-- R138: the date after a valid one other than 31 December 99 is one day later. -/
theorem Moment.nextDate_dayNumber {m : Moment} (h : m.valid = true) (hne : ¬ (m.year = 99 ∧ m.month = 12 ∧ m.day = 31)) :
    m.nextDate.dayNumber = m.dayNumber + 1 := by
  obtain ⟨hyear, hlo, hhi, hday, hlen, -⟩ := (Moment.valid_iff m).1 h
  unfold Moment.nextDate
  split
  · simp only [Moment.dayNumber]
    omega
  · have hlast : m.day = monthLength m.year m.month := by omega
    split
    · simp only [Moment.dayNumber, daysBefore_succ m.year hlo]
      omega
    · have hmonth : m.month = 12 := by omega
      have hyearEnd := daysBefore_yearEnd m.year
      rw [daysBefore_succ m.year (by decide)] at hyearEnd
      rw [hmonth] at hlast
      have hless : m.year < 99 := by
        refine lt_of_le_of_ne hyear fun e => hne ⟨e, hmonth, hlast.trans rfl⟩
      simp only [Moment.dayNumber, if_pos hless, hmonth, hlast]
      have hjan : daysBefore (m.year + 1) 1 = 0 := rfl
      have hdec : monthLength m.year 12 = 31 := rfl
      omega

/-- R138: at 23:59:59 the date moves on, and before that the time of day alone. -/
theorem Moment.advance_midnight {m : Moment} (h : m.time = ⟨23, 59, 59⟩) : m.advance = { m.nextDate with time := ⟨0, 0, 0⟩ } := by
  rw [Moment.advance, h]
  rfl

theorem Moment.advance_sameDay {m : Moment} (h : m.valid = true) (hne : m.time ≠ ⟨23, 59, 59⟩) :
    m.advance = { m with time := (timeAdvance m.time).1 } := by
  obtain ⟨-, -, -, -, -, htime⟩ := (Moment.valid_iff m).1 h
  obtain ⟨hday, -⟩ := timeAdvance_sameDay htime hne
  unfold Moment.advance
  split
  · rename_i t e
    rw [e]
  · rename_i t e
    rw [e] at hday
    cases hday

theorem Moment.advance_number {m : Moment} (h : m.valid = true) (hne : m ≠ ⟨99, 12, 31, ⟨23, 59, 59⟩⟩) : m.advance.number = m.number + 1 := by
  obtain ⟨-, -, -, -, -, htime⟩ := (Moment.valid_iff m).1 h
  by_cases hlast : m.time = ⟨23, 59, 59⟩
  · have hdate : ¬ (m.year = 99 ∧ m.month = 12 ∧ m.day = 31) := by
      rintro ⟨hy, hm, hd⟩
      exact hne (by rw [← hy, ← hm, ← hd, ← hlast])
    have hnext : m.advance.dayNumber = m.dayNumber + 1 := by
      rw [Moment.advance_midnight hlast]
      exact Moment.nextDate_dayNumber h hdate
    have hmid : m.advance.time = ⟨0, 0, 0⟩ := by rw [Moment.advance_midnight hlast]
    simp only [Moment.number, hnext, hmid, hlast, timeSeconds]
    omega
  · obtain ⟨-, hsec⟩ := timeAdvance_sameDay htime hlast
    rw [Moment.advance_sameDay h hlast, Moment.number, Moment.number]
    dsimp only
    rw [hsec]
    rfl

theorem weekdayAdvance_eq {m : Moment} {weekday : Nat} (h : m.valid = true) (hw : weekday ≤ 6) :
    weekdayAdvance m weekday = if m.time = ⟨23, 59, 59⟩ then (weekday + 1) % 7 else weekday := by
  obtain ⟨-, -, -, -, -, htime⟩ := (Moment.valid_iff m).1 h
  unfold weekdayAdvance
  by_cases hlast : m.time = ⟨23, 59, 59⟩
  · rw [if_pos hlast, hlast, if_pos (show (timeAdvance ⟨23, 59, 59⟩).2 = true from rfl)]
    split <;> omega
  · obtain ⟨hday, -⟩ := timeAdvance_sameDay htime hlast
    rw [if_neg hlast, hday]
    rfl

/-- Settles O19: the carries of the time of day, of the month and of the year each raise the moment number by one. -/
theorem oneSecondOfTheCalendar : Obligations.OneSecondOfTheCalendar :=
  ⟨fun _ h hne => ⟨Moment.advance_valid h, Moment.advance_number h hne⟩, rfl, fun _ _ h hw => weekdayAdvance_eq h hw⟩

/-! ### The duration of a period (R146) -/

theorem duration_backward {a b : Moment} (h : b.number < a.number) : duration a b = (0, ⟨0, 0, 0⟩) := if_pos h

/-- R146: days and time of day of the seconds between two valid moments, a day borrowed when the end's time of day is before the start's. -/
theorem duration_forward {a b : Moment} (ha : a.valid = true) (hb : b.valid = true) (h : a.number ≤ b.number) :
    86400 * (duration a b).1 + timeSeconds (duration a b).2 = b.number - a.number ∧ timeValid (duration a b).2 = true ∧ (duration a b).1 ≤ 36524 := by
  obtain ⟨-, -, -, -, -, hta⟩ := (Moment.valid_iff a).1 ha
  obtain ⟨-, -, -, -, -, htb⟩ := (Moment.valid_iff b).1 hb
  have hsa := timeSeconds_lt hta
  have hsb := timeSeconds_lt htb
  have hdays := Moment.dayNumber_le hb
  unfold duration
  rw [if_neg (Nat.not_lt.2 h)]
  dsimp only
  rw [timeSeconds_ofSeconds]
  unfold Moment.number at h ⊢
  by_cases hborrow : timeSeconds b.time < timeSeconds a.time
  · simp only [if_pos hborrow]
    exact ⟨by omega, timeValid_ofSeconds (by omega), by omega⟩
  · simp only [if_neg hborrow]
    exact ⟨by omega, timeValid_ofSeconds (by omega), by omega⟩

/-- R146: a record over a period carries CLOCK_STEP from its bank, or because its end is before its start. -/
theorem Home.record_clockStep {k : Bank} {a : Moment} (x : Home) (h : HomeIndex) (n : BitVec 16) (b : Moment) (final : Bool) (hk : k.periodStart = some a) :
    (x.record h n k (some b) final).clockStep = true ↔ k.clockStep = true ∨ b.number < a.number := by
  simp only [Home.record, hk, Bool.or_eq_true, decide_eq_true_eq]

/-- Settles O18: the seconds between two moments, split into days and a time of day. -/
theorem periodDuration : Obligations.PeriodDuration :=
  ⟨fun _ _ ha hb h => duration_forward ha hb h, fun _ _ h => duration_backward h, fun x h n _ _ b final hk => x.record_clockStep h n b final hk⟩

end Sys2Proof.Machine
end

section
/-! SUPPORT. TIME (R140, R155), ABORT-SEARCH (R132) and STOP-TREE (R41, R62, R133): what each leaves of the clocks, the homes and the tree, and their answers behind a SEARCH_END. -/

namespace Sys2Proof.Machine

/-! ### TIME (R140, R155) -/

/-- R140: the step figures touch the count and the latest step alone. -/
theorem Calendar.markStep_eq (c : Calendar) (m : Moment) :
    c.markStep m = { c with
      stepCount := if c.isStep m then min 65535 (c.stepCount + 1) else c.stepCount
      lastStep := if c.isStep m then
          some (if c.now.number < m.number then .ahead (m.number - c.now.number) else .back (c.now.number - m.number))
        else c.lastStep } := by
  unfold Calendar.markStep
  split <;> rfl

/-- R145: a close fires with the time held when the next close moment has been reached. -/
theorem Calendar.closeTest_closesFired (c : Calendar) :
    c.closeTest.closesFired = match c.nextClose with
      | some close => if closeReached c.now close then c.closesFired ++ [c.now] else c.closesFired
      | none => c.closesFired := by
  cases hn : c.nextClose with
  | none => rw [Calendar.closeTest_none hn]
  | some close =>
    cases hr : closeReached c.now close with
    | true => rw [Calendar.closeTest_reached hn hr]; exact (if_pos hr).symm
    | false => rw [Calendar.closeTest_ahead hn hr]; exact (if_neg (Bool.eq_false_iff.1 hr)).symm

/-- R140: what an accepted TIME leaves of the calendar clock. -/
theorem Calendar.apply_leaves (c : Calendar) (m : Moment) (weekday : Nat) :
    c.apply m weekday = { c with
      set := true, now := m, weekday := weekday, band := bandAt c.table weekday m.time, nextClose := some (closeAfter m c.closeTime)
      stepCount := if c.isStep m then min 65535 (c.stepCount + 1) else c.stepCount
      lastStep := if c.isStep m then
          some (if c.now.number < m.number then .ahead (m.number - c.now.number) else .back (c.now.number - m.number))
        else c.lastStep
      closesFired := match c.nextClose with
        | some close => if closeReached m close then c.closesFired ++ [m] else c.closesFired
        | none => c.closesFired } := by
  unfold Calendar.apply
  rw [Calendar.markStep_eq]
  dsimp only
  rw [Calendar.closeTest_frame, Calendar.closeTest_closesFired]
  rfl

theorem State.applyTime_eq (s : State) (m : Moment) (weekday : Nat) :
    s.applyTime m weekday = { s with
      homes := (s.applyTime m weekday).homes, clock := { s.clock with epochInSecond := 0, secondDue := false }, cal := s.cal.apply m weekday } := by
  unfold State.applyTime
  dsimp only
  split <;> rfl

/-- R155: a step is marked in every metered open bank. -/
theorem State.applyTime_home (s : State) (m : Moment) (weekday : Nat) (h : HomeIndex) :
    (s.applyTime m weekday).home h =
      if s.cal.isStep m && stepMarked (s.home h).state then (s.home h).onOpen fun b => { b with clockStep := true } else s.home h := by
  unfold State.applyTime
  cases s.cal.isStep m with
  | true => exact s.mapHomes_home (fun _ x => x.markStep) h
  | false => rfl

theorem exec_time {s : State} {rx : Rx} {c : Config} {args : List Byte} {m : Moment} {weekday : Nat} (num : BitVec 16) (ha : s.asked rx c 0)
    (hroom : s.link.roomFor false = true) (harg : timeArgs args = some (m, weekday)) :
    exec (.time rx num args) s = .next { s with
      cal := s.cal.apply m weekday, homes := (s.applyTime m weekday).homes, clock := { s.clock with epochInSecond := 0, secondDue := false }
      link := s.link.answered rx num 2 .ok ((s.cal.apply m weekday).timeBody (s.cal.isStep m)), out := [] } := by
  have hhomes : (s.heard.applyTime m weekday).homes = (s.applyTime m weekday).homes := homes_ext fun h =>
    (s.heard.applyTime_home m weekday h).trans (s.applyTime_home m weekday h).symm
  refine congrArg Host.Outcome.next (State.request_taken ha hroom (State.ranged_some _ harg) rfl (s.heard.applyTime_link m weekday) ?_)
  rw [s.heard.applyTime_eq m weekday, hhomes]
  rfl

/-! ### An answer behind an urgent frame (R168, R173) -/

/-- A request accepted by a block that has queued a frame of its own is answered behind it. -/
theorem State.request_answered {s v : State} {rx : Rx} {c : Config} {top : Nat} {num : BitVec 16} {kind : Byte} {b : Bool} {f : State → Answer}
    {status : Status} {body : List Byte} (h : s.asked rx c top) (hf : f s.heard = ⟨v, status, body⟩) (hr : refuses kind status = false)
    (hroom : v.link.roomFor false = true) :
    s.begin.request rx num kind top b (State.answer rx num kind f) = { v with link := v.link.take (responseFrame rx.src num kind status body) } := by
  rw [State.request_heard num kind b _ h, State.answer, hf,
    State.conclude_taken hr (show s.heard.addressed rx = true from h.addressed) hroom]

/-- R168: an urgent frame taken takes no place from the routine ones. -/
theorem Link.take_routine_urgent (l : Link) {f : Frame} (hf : f.content.urgent = true) : (l.take f).routine ≤ l.routine := by
  refine ((Link.choose_routine_le _).trans_eq (Link.routine_eq _)).trans_eq ?_
  dsimp only
  rw [l.routine_eq, insertFrame_countP, hf]
  rfl

/-- R168: with two places left, one of them for a routine frame, an answer finds room behind an urgent frame. -/
theorem Link.roomFor_take_urgent {l : Link} {f : Frame} (hf : f.content.urgent = true) (ht : l.total ≤ 10) (hr : l.routine < 8) :
    (l.take f).roomFor false = true :=
  Link.roomFor_routine.2
    ⟨((l.take_total_le f).trans (Nat.succ_le_succ ht)).trans_lt (by decide), (l.take_routine_urgent hf).trans_lt hr⟩

/-! ### A tree stopped (R41, R62) -/

theorem Home.stopMeasuring_eq (x : Home) (t : Tree) : x.stopMeasuring t = stoppedHome x t :=
  if_congr (Home.standsOn_iff x .measuring t) rfl rfl

/-- The part with a tree's transmitter off, its maps emptied and its MEASURING homes ANNOUNCING, whatever its search does. -/
def State.transmitterOff (s : State) (t : Tree) : State := (s.onTree t stoppedTree).mapHomes fun _ x => stoppedHome x t

theorem State.transmitterOff_home (s : State) (t : Tree) (h : HomeIndex) : (s.transmitterOff t).home h = stoppedHome (s.home h) t :=
  (s.onTree t stoppedTree).mapHomes_home (fun _ x => stoppedHome x t) h

theorem State.transmitterOff_eq (s : State) (t : Tree) :
    s.transmitterOff t = { s with homes := (s.transmitterOff t).homes, trees := s.trees.set t.idx (stoppedTree (s.tree t)) } := rfl

/-- R41, R133: STOP-TREE ends a running search before the tree stops. -/
theorem State.stopTree_eq (s : State) (t : Tree) :
    s.stopTree t = (if (s.tree t).search.running then s.endSearch t .aborted .stop else s).transmitterOff t := by
  have hhome : (fun (_ : HomeIndex) (x : Home) => x.stopMeasuring t) = fun _ x => stoppedHome x t := funext fun _ => funext fun x => x.stopMeasuring_eq t
  rw [State.stopTree, hhome]
  rfl

/-! ### The three requests -/

section Requests

variable {s : State} {rx : Rx} {c : Config} {num : BitVec 16} {args : List Byte} {t : Tree}

/-- R132 to R134: the part when a request it has heard has ended the tree's search ABORTED, with the entries given. -/
def State.aborted (s : State) (t : Tree) (r : SearchReason) (homes : Vector Home 128) : State :=
  { s with
    homes := homes, trees := s.trees.set t.idx (endedTree s t .aborted r 100)
    link := s.link.received.take (searchEndFrame s t .aborted r), out := [] }

theorem State.aborted_tree (r : SearchReason) (homes : Vector Home 128) : (s.aborted t r homes).tree t = endedTree s t .aborted r 100 :=
  (Quad_get_set _ _ _ _).trans (if_pos rfl)

theorem State.endSearch_heard (t : Tree) (r : SearchReason) (ht : s.link.total ≤ 10) :
    ∃ homes : Vector Home 128, s.heard.endSearch t .aborted r = s.aborted t r homes ∧ ∀ h : HomeIndex, homes[h] = endedHome (s.home h) t := by
  obtain ⟨hhome, hframe⟩ := State.endSearch_leaves (s := s.heard) t .aborted r (Nat.lt_of_le_of_lt ht (by decide))
  exact ⟨_, hframe, hhome⟩

theorem exec_abortSearch (ha : s.asked rx c 0) (harg : treeArg args = some t) (hrun : (s.tree t).search.running = true) (ht : s.link.total ≤ 10)
    (hr : s.link.routine < 8) :
    ∃ s' : State, exec (.abortSearch rx num args) s = .next s' ∧ (∀ h, s'.home h = endedHome (s.home h) t) ∧
      s' = { s with
        homes := s'.homes
        trees := s.trees.set t.idx (endedTree s t .aborted .request 100)
        link := (s.link.received.take (searchEndFrame s t .aborted .request)).take
          (responseFrame rx.src num 11 .ok (toBE 1 (s.tree t).search.probe ++ toBE 1 (s.tree t).search.foundCount))
        out := [] } := by
  obtain ⟨homes, hend, hhome⟩ := State.endSearch_heard t .request ht
  have hf : s.heard.ranged (treeArg args) s.heard.abortRequest =
      ⟨s.aborted t .request homes, .ok, toBE 1 (s.tree t).search.probe ++ toBE 1 (s.tree t).search.foundCount⟩ := by
    rw [State.ranged_some _ harg, State.abortRequest, hend]
    simp only [State.heard_tree, hrun, Bool.not_true, Bool.false_eq_true, if_false]
  exact ⟨_, congrArg Host.Outcome.next (State.request_answered ha hf rfl (Link.roomFor_take_urgent rfl ht hr)), hhome, rfl⟩

theorem State.stopRequest_running (harg : treeArg args = some t) (hrun : (s.tree t).running = true) :
    s.heard.ranged (treeArg args) s.heard.stopRequest = ⟨s.heard.stopTree t, .ok, []⟩ := by
  rw [State.ranged_some _ harg, State.stopRequest, State.heard_tree, if_pos hrun, State.accept]

theorem exec_stopTree_unsearched (ha : s.asked rx c 0) (harg : treeArg args = some t) (hrun : (s.tree t).running = true)
    (hidle : (s.tree t).search.running = false) (hroom : s.link.roomFor false = true) :
    exec (.stopTree rx num args) s = .next { s with
      homes := (s.transmitterOff t).homes, trees := s.trees.set t.idx (stoppedTree (s.tree t)), link := s.link.answered rx num 12 .ok [], out := [] } := by
  have hstop : s.heard.stopTree t = s.heard.transmitterOff t := by
    rw [State.stopTree_eq, if_neg (by rw [State.heard_tree, hidle]; decide)]
  have hf := State.stopRequest_running (s := s) harg hrun
  rw [hstop] at hf
  exact congrArg Host.Outcome.next (State.request_taken ha hroom hf rfl rfl rfl)

theorem exec_stopTree_searched (ha : s.asked rx c 0) (harg : treeArg args = some t) (hrun : (s.tree t).running = true)
    (hsearch : (s.tree t).search.running = true) (ht : s.link.total ≤ 10) (hr : s.link.routine < 8) :
    ∃ s' : State, exec (.stopTree rx num args) s = .next s' ∧ (∀ h, s'.home h = stoppedHome (endedHome (s.home h) t) t) ∧
      s' = { s with
        homes := s'.homes
        trees := s.trees.set t.idx (stoppedTree (endedTree s t .aborted .stop 100))
        link := (s.link.received.take (searchEndFrame s t .aborted .stop)).take (responseFrame rx.src num 12 .ok [])
        out := [] } := by
  obtain ⟨homes, hend, hhome⟩ := State.endSearch_heard t .stop ht
  have hf := State.stopRequest_running (s := s) harg hrun
  rw [State.stopTree_eq, if_pos (show (s.heard.tree t).search.running = true from hsearch), hend] at hf
  refine ⟨_, congrArg Host.Outcome.next (State.request_answered ha hf rfl (Link.roomFor_take_urgent rfl ht hr)), fun h => ?_, ?_⟩
  · exact ((s.aborted t .stop homes).transmitterOff_home t h).trans (congrArg (stoppedHome · t) (hhome h))
  · rw [State.transmitterOff_eq, State.aborted_tree]
    simp only [State.aborted, Quad_set_set]

theorem exec_stopTree_stopped (ha : s.asked rx c 0) (harg : treeArg args = some t) (hstop : (s.tree t).running = false)
    (hroom : s.link.roomFor false = true) :
    exec (.stopTree rx num args) s = .next { s with link := s.link.received.refused.take (responseFrame rx.src num 12 .state []), out := [] } := by
  have hf : s.heard.ranged (treeArg args) s.heard.stopRequest = s.heard.refuse .state := by
    rw [State.ranged_some _ harg, State.stopRequest, if_neg (by rw [State.heard_tree, hstop]; decide)]
  exact congrArg Host.Outcome.next (State.request_refused ha hroom hf rfl)

end Requests

/-- Settles O35: TIME leaves the calendar clock as its own operation does, and both ends of a search queue SEARCH_END before the answer. -/
theorem timeAbortAndStop : Obligations.TimeAbortAndStop := by
  refine ⟨?_, fun s c rx num args t ha harg => ⟨exec_abortSearch ha harg, fun hrun hidle hroom =>
    ⟨_, exec_stopTree_unsearched ha harg hrun hidle hroom, s.transmitterOff_home t, rfl⟩, exec_stopTree_searched ha harg,
    exec_stopTree_stopped ha harg⟩⟩
  intro s c rx num args m wd ha harg hroom step
  refine ⟨_, exec_time num ha hroom harg, rfl, ?_⟩
  dsimp only
  rw [s.cal.apply_leaves m wd]
  exact ⟨rfl, rfl, rfl, rfl, rfl, rfl, rfl, rfl, rfl, rfl, rfl, s.applyTime_home m wd⟩

end Sys2Proof.Machine
end

section
/-! SUPPORT. EMISSION_WALK by what it finds at its entry (R15, R19, R156 to R159), and COLLECT and RELEASE-RECORD by what the hold queue holds (R161, R162, R173). -/

namespace Sys2Proof.Machine

/-! ### EMISSION_WALK -/

section Walk

variable {s : State} {h : HomeIndex}

/-- R15: an untagged CLOSING entry with no forward-to is freed alone. -/
theorem State.endClosing_frees (hf : (s.home h).forwardTo = none) (hs : (s.home h).state = .closing) (ht : (s.home h).tag = none) :
    s.endClosing h = { s with homes := s.homes.set h Home.free, forwardList := s.forwardList.filter fun i => i ≠ h } := by
  have hfree : s.endClosing h = s.freeEntry h := by simp only [State.endClosing, hf]
  exact hfree.trans (State.freeEntry_unpooled (by rw [hs]; rfl) ht)

/-- R156, R157: with 48 records in the hold queue the walk blocks at an entry with a record to give. -/
theorem exec_emissionWalk_blocks (hw : s.emission.state = .walking) (hp : s.emission.pointer = h)
    (hx : (s.home h).closedWaiting = true ∨ (s.home h).state = .closing) (hl : 48 ≤ s.meter.hold.length) :
    exec .emissionWalk s = .next { s with emission := { s.emission with state := .blocked }, out := [] } := by
  subst hp
  have hb : ((s.home s.emission.pointer).closedWaiting || decide ((s.home s.emission.pointer).state = .closing)) = true := by
    simpa using hx
  exact congrArg Host.Outcome.next ((if_pos hw).trans ((if_pos hb).trans (if_neg (Nat.not_lt.2 hl))))

theorem nextIndex_eq (h : HomeIndex) : nextIndex h = ⟨(h.val + 1) % 128, Nat.mod_lt _ (by decide)⟩ := by
  unfold nextIndex
  split
  · rename_i hlt
    exact Fin.ext (Nat.mod_eq_of_lt hlt).symm
  · refine Fin.ext (show 0 = (h.val + 1) % 128 from ?_)
    omega

/-- R156: an entry with no work is passed, and the 128th pass in a row ends the walk. -/
theorem exec_emissionWalk_passes (hw : s.emission.state = .walking) (hp : s.emission.pointer = h)
    (hc : (s.home h).closedWaiting = false) (hs : (s.home h).state ≠ .closing) (hn : s.emission.passes ≤ 127) :
    exec .emissionWalk s =
      .next { s with emission := ⟨nextIndex h, if s.emission.passes = 127 then .idle else .walking, s.emission.passes + 1⟩, out := [] } := by
  subst hp
  have hb : ((s.home s.emission.pointer).closedWaiting || decide ((s.home s.emission.pointer).state = .closing)) = false := by
    simpa using ⟨hc, hs⟩
  have hlast : (128 ≤ s.emission.passes + 1) = (s.emission.passes = 127) := propext (by omega)
  have hcount : min 128 (s.emission.passes + 1) = s.emission.passes + 1 := by omega
  refine congrArg Host.Outcome.next ((if_pos hw).trans ((if_neg (Bool.eq_false_iff.1 hb)).trans ?_))
  simp only [State.begin_emission, hlast, hcount]
  rfl

end Walk

/-- Settles O47: the walk's entry and the room in the hold queue decide what the examination does. -/
theorem emissionWalkActs : Obligations.EmissionWalkActs := by
  refine fun s h hw hp => ⟨fun hc hl => ?_, fun hc hs hf ht hl => ?_, exec_emissionWalk_blocks hw hp, fun hc hs hn => ?_⟩
  · rw [exec_emissionWalk_record hw hp (.inl hc) (by omega), if_pos hc, State.emitOrdinary, State.enqueue_within _ (by exact hl)]
    rfl
  · rw [exec_emissionWalk_record hw hp (.inr hs) (by omega), if_neg (by rw [hc]; decide), State.emitFinal, State.enqueue_within _ (by exact hl)]
    exact congrArg Host.Outcome.next (State.endClosing_frees (by exact hf) (by exact hs) (by exact ht))
  · rw [exec_emissionWalk_passes hw hp hc hs hn, nextIndex_eq]

/-! ### COLLECT and RELEASE-RECORD -/

theorem State.dropHead_eq (s : State) :
    s.dropHead = { s with
      meter := { s.meter with hold := s.meter.hold.tail }
      emission := if s.emission.state = .blocked then { s.emission with state := .walking } else s.emission } := by
  unfold State.dropHead
  dsimp only [State.onMeter]
  split <;> rfl

section Requests

variable {s : State} {c : Config} {rx : Rx} {num : BitVec 16} {args : List Byte}

theorem exec_collect (ha : s.asked rx c 1) : exec (.collect rx num args) s = .next (s.heard.collect rx num) :=
  congrArg Host.Outcome.next (State.request_heard num 18 true _ ha)

theorem State.collect_head {r : Record} {rest : List Record} (hh : s.meter.hold = r :: rest) :
    s.collect rx num = s.respondTwo rx.src num 18 (toBE 1 s.meter.hold.length ++ r.bytes.take 64) (r.bytes.drop 64) := by
  simp only [State.collect, hh]

theorem State.collect_empty (hh : s.meter.hold = []) : s.collect rx num = s.conclude rx num 18 (s.refuse .empty) := by
  simp only [State.collect, hh]

theorem State.releaseRecord_empty (n : BitVec 16) (hh : s.meter.hold = []) : s.releaseRecord n = s.refuse .empty := by
  simp only [State.releaseRecord, hh]

theorem State.releaseRecord_notHead {r : Record} {rest : List Record} {n : BitVec 16} (hh : s.meter.hold = r :: rest) (hn : r.number ≠ n) :
    s.releaseRecord n = ⟨s, .notHead, toBE 2 r.number.toNat⟩ := by
  simp only [State.releaseRecord, hh, hn, if_false]

theorem State.releaseRecord_head {r : Record} {rest : List Record} {n : BitVec 16} (hh : s.meter.hold = r :: rest) (hn : r.number = n) :
    s.releaseRecord n = ⟨s.dropHead, .ok, toBE 1 rest.length⟩ := by
  simp only [State.releaseRecord, hh, hn, if_true]

end Requests

/-- Settles O40: the hold queue and the room for two frames decide COLLECT, and the head's number decides RELEASE-RECORD. -/
theorem holdQueueRequests : Obligations.HoldQueueRequests := by
  intro s c rx num args ha hroom
  refine ⟨fun r rest hh ht hr => ?_, fun hne hfull => ?_, fun hh => ?_, fun n harg hh => ?_, fun r rest n harg hh hn => ?_,
    fun r rest n harg hh hn => ?_⟩
  · have htwo : s.heard.link.total + 2 ≤ 12 ∧ s.heard.link.routine + 2 ≤ 8 := ⟨Nat.add_le_add_right ht 2, Nat.add_le_add_right hr 2⟩
    rw [exec_collect ha, State.collect_head (s := s.heard) hh]
    exact congrArg (fun l => Host.Outcome.next { s.heard with link := l }) (if_pos htwo)
  · obtain ⟨r, rest, hh⟩ := List.exists_cons_of_ne_nil hne
    have hone : ¬ (s.link.total + 2 ≤ 12 ∧ s.link.routine + 2 ≤ 8) := by omega
    rw [exec_collect ha, State.collect_head (s := s.heard) hh]
    exact congrArg (fun l => Host.Outcome.next { s.heard with link := l }) (if_neg hone)
  · rw [exec_collect ha, State.collect_empty (s := s.heard) hh,
      State.conclude_refused rfl (show s.heard.addressed rx = true from ha.addressed) hroom]
    rfl
  · have hf : s.heard.ranged (recordArg args) s.heard.releaseRecord = s.heard.refuse .empty :=
      (State.ranged_some _ harg).trans (State.releaseRecord_empty n hh)
    exact congrArg Host.Outcome.next (State.request_refused ha hroom hf rfl)
  · have hf : s.heard.ranged (recordArg args) s.heard.releaseRecord = ⟨s.heard, .notHead, toBE 2 r.number.toNat⟩ :=
      (State.ranged_some _ harg).trans (State.releaseRecord_notHead hh hn)
    exact congrArg Host.Outcome.next (State.request_refused ha hroom hf rfl)
  · have hf : s.heard.ranged (recordArg args) s.heard.releaseRecord = ⟨s.heard.dropHead, .ok, toBE 1 rest.length⟩ :=
      (State.ranged_some _ harg).trans (State.releaseRecord_head hh hn)
    have htail : s.heard.meter.hold.tail = rest := congrArg List.tail hh
    rw [State.dropHead_eq, htail] at hf
    exact congrArg Host.Outcome.next (State.request_taken ha hroom hf rfl rfl rfl)

end Sys2Proof.Machine
end

section
/-! SUPPORT. The records of the hold queue (R159, R160, R162): a step lets them stand, puts one with the counter's number at the tail, or takes the head. -/

namespace Sys2Proof.Machine

/-! ### The records and what leaves them alone -/

/-- The records of the hold queue and the number the next one takes. -/
def State.records (s : State) : List Record × BitVec 16 := (s.meter.hold, s.meter.nextNumber)

theorem State.Fixed.records {s s' : State} (h : s.Fixed s') : s'.records = s.records := by
  rw [State.records, h.meter]
  rfl

theorem State.RoundOnly.records {s s' : State} (h : s.RoundOnly s') : s'.records = s.records := by
  rw [h]
  rfl

theorem State.ite_records {s a b : State} {P : Prop} [Decidable P] (ha : a.records = s.records) (hb : b.records = s.records) :
    (if P then a else b).records = s.records := by
  split
  · exact ha
  · exact hb

section Operations

variable (s : State)

theorem State.offerHoldFull_records (depth : Nat) (head tail : BitVec 16) : (s.offerHoldFull depth head tail).records = s.records := by
  unfold State.offerHoldFull
  dsimp only
  split <;> split <;> rfl

theorem State.reofferFrame_records (f : HeldFrame) : (s.reofferFrame f).records = s.records := by
  cases f with
  | claim h => exact (s.reofferClaim_fixed h).records
  | share =>
    dsimp only [State.reofferFrame]
    split <;> rfl
  | overcommit =>
    dsimp only [State.reofferFrame]
    split
    · rw [State.offerOvercommit_frame]
      rfl
    · rfl
  | holdFull =>
    dsimp only [State.reofferFrame]
    split
    · exact State.offerHoldFull_records ..
    · rfl

theorem State.shareEnd_records : s.shareEnd.records = s.records := by
  rw [State.shareEnd_eq, State.endShare_frame]
  rfl

theorem State.mapPoint_records : s.mapPoint.records = s.records := by
  cases hc : s.config with
  | none => simp only [State.mapPoint, hc]; rfl
  | some c => rw [State.mapPoint_frame hc]; rfl

theorem State.downstream_records (home : Nat) (packet : List Byte) : (s.downstream home packet).records = s.records := by
  unfold State.downstream
  dsimp only
  (repeat' split) <;> rfl

/-- R154: a period close counts the skipped swaps and touches no record. -/
theorem State.periodClose_records (m : Moment) : (s.periodClose m).records = s.records := (State.wakeWalk_fixed _).records

theorem State.claimSent_records (f : Frame) : (s.claimSent f).records = s.records := by
  unfold State.claimSent
  (repeat' split) <;> rfl

theorem State.dropped_records (f : Frame) : (s.dropped f).records = s.records := by
  unfold State.dropped
  split
  · exact State.ite_records (State.offerClaim_fixed _ _).records rfl
  all_goals rfl

/-! ### Frames received and requests -/

theorem State.hearRelease_records (src : Station) (id : Identity) (r c i : Byte) : (s.hearRelease src id r c i).records = s.records := by
  unfold State.hearRelease
  split
  · rfl
  · exact State.ite_records (s.takeRelease_fixed _ _ _).records (s.queueWalk_fixed _).records

theorem State.takeShare_records (st : Station) (f d : Nat) : (s.takeShare st f d).records = s.records := by
  unfold State.takeShare
  split
  · rfl
  · exact State.ite_records rfl rfl

theorem State.find_records (rx : Rx) (num : BitVec 16) (args : List Byte) : (s.find rx num args).records = s.records := by
  unfold State.find
  split
  · exact (State.conclude_fixed ..).records
  · rename_i id start count _
    have hq := (s.queueWalk_fixed ⟨.find rx.src num, id, start, count⟩).records
    split <;> rename_i e <;> rw [e] at hq
    · exact hq
    · exact (State.conclude_fixed ..).records.trans hq

/-- R161: COLLECT leaves the head record where it is. -/
theorem State.collect_records (rx : Rx) (num : BitVec 16) : (s.collect rx num).records = s.records := by
  unfold State.collect
  split
  · exact (State.conclude_fixed ..).records
  · rfl

theorem State.unknownKind_records (rx : Rx) (payload : List Byte) : (s.unknownKind rx payload).records = s.records :=
  State.ite_records (State.conclude_fixed ..).records (State.ite_records (State.conclude_fixed ..).records rfl)

theorem State.applyConfig_records (c : Config) : (s.applyConfig c).records = s.records :=
  (State.Fixed.foldl (f := fun v t => v.onTree t fun x => x.start c) (fun v t => v.onTree_fixed t _) _ _).records

theorem State.applyTime_records (m : Moment) (weekday : Nat) : (s.applyTime m weekday).records = s.records := by
  unfold State.applyTime
  dsimp only
  split <;> rfl

theorem State.takeAdmission_records (rx : Rx) (a : Admission) : (s.takeAdmission rx a).state.records = s.records := by
  unfold State.takeAdmission
  (repeat' split) <;> rfl

theorem State.retire_records (h : HomeIndex) : (s.retire h).state.records = s.records := by
  unfold State.retire
  split
  case h_2 => exact (s.freeEntry_fixed h).records
  case h_6 | h_7 | h_8 | h_9 => exact (s.closeEntry_fixed h _ _).records
  all_goals rfl

theorem State.pardon_records (h : HomeIndex) : (s.pardon h).state.records = s.records := by
  unfold State.pardon
  split
  case h_9 => exact (s.pardonHome_fixed h).records
  all_goals rfl

theorem State.setClass_records (h : HomeIndex) (g p : Nat) : (s.setClass h g p).state.records = s.records := by
  unfold State.setClass
  split
  case h_6 | h_7 | h_8 | h_9 =>
    split
    · rfl
    · exact (s.writeClass_fixed h g p).records
  all_goals rfl

theorem State.ranged_records {α : Type} {s : State} {read : Option α} {f : α → Answer} (hf : ∀ a, (f a).state.records = s.records) :
    (s.ranged read f).state.records = s.records := by
  cases read with
  | none => rfl
  | some a => exact hf a

/-- No request of the kinds 1 to 13 touches a record. -/
theorem owningBlock_records (k : Nat) (rx : Rx) (args : List Byte) : (owningBlock k rx args s).state.records = s.records := by
  unfold owningBlock
  split
  case h_1 =>
    rw [State.configure]
    split
    · rfl
    · refine State.ranged_records fun c => ?_
      split
      · rfl
      · exact s.applyConfig_records c
  case h_14 => rfl
  all_goals refine State.ranged_records fun arg => ?_
  case h_2 => exact s.applyTime_records _ _
  case h_3 => rfl
  case h_4 => exact s.takeAdmission_records rx arg
  case h_5 | h_6 => split <;> rfl
  case h_7 => exact s.retire_records arg
  case h_8 => exact s.pardon_records arg
  case h_9 => exact s.setClass_records _ _ _
  case h_10 =>
    unfold State.searchRequest
    split
    · rfl
    · split
      · rfl
      · exact (s.startSearch_fixed arg .request).records
  case h_11 =>
    unfold State.abortRequest
    dsimp only
    split
    · rfl
    · exact (s.endSearch_fixed arg .aborted .request).records
  case h_12 =>
    unfold State.stopRequest
    split
    · exact (s.stopTree_fixed arg).records
    · rfl
  case h_13 =>
    unfold State.startRequest
    split
    · rfl
    · split
      · rfl
      · rw [State.accept_state]
        exact (s.startTree_fixed _ arg).records

end Operations

section Heard

variable {s : State} {rx : Rx} {f : State → State}

theorem State.receive_records (hf : ∀ v, (f v).records = v.records) : (s.receive rx f).records = s.records := State.ite_records (hf _) rfl

theorem State.receivePeer_records (hf : ∀ v, (f v).records = v.records) : (s.receivePeer rx f).records = s.records := by
  refine State.receive_records fun v => ?_
  split
  · rfl
  · exact State.ite_records (hf v) rfl

variable {num : BitVec 16} {kind : Byte} {top : Nat} {b : Bool}

/-- A request is refused by the link checks, which touch no record, or is given to its owning block (R171 to R173). -/
theorem State.request_refusedOrActs (act : State → State) :
    (s.request rx num kind top b act).records = s.records ∨ s.request rx num kind top b act = act s.countReceived := by
  have hrefuse : ∀ st : Status, (s.countReceived.conclude rx num kind (s.countReceived.refuse st)).records = s.records := fun st =>
    (State.conclude_fixed ..).records
  unfold State.request State.receive
  dsimp only
  split
  · split
    · exact .inl (State.ite_records (hrefuse _) rfl)
    · split
      · exact .inl rfl
      · split
        · exact .inl (hrefuse _)
        · exact .inr rfl
  · exact .inl rfl

theorem State.request_records (hf : ∀ v, (f v).records = v.records) : (s.request rx num kind top b f).records = s.records := by
  obtain h | h := State.request_refusedOrActs (s := s) (rx := rx) (num := num) (kind := kind) (top := top) (b := b) f
  · exact h
  · rw [h]
    exact hf _

theorem State.answer_records {g : State → Answer} (hg : ∀ v, (g v).state.records = v.records) (v : State) :
    (State.answer rx num kind g v).records = v.records := (State.conclude_fixed ..).records.trans (hg v)

theorem State.request_owningBlock_records (k : Nat) (args : List Byte) :
    (s.request rx num kind top b (State.answer rx num kind (owningBlock k rx args))).records = s.records :=
  State.request_records <| State.answer_records fun v => owningBlock_records v k rx args

end Heard

/-! ### A record joins, a record leaves -/

/-- What a step may do with the records: they stand, one with the counter's number joins the tail while there is room, or the head leaves. -/
inductive RecordsStep (p q : List Record × BitVec 16) : Prop
  | stand (h : q = p)
  | joined (r : Record) (room : p.1.length < 48) (number : r.number = p.2) (h : q = (p.1 ++ [r], p.2 + 1))
  | left (h : q = (p.1.tail, p.2))

/-- R159: an enqueued record is the new tail, and the counter moves on. -/
theorem State.enqueue_records (s : State) (r : Record) : (s.enqueue r).records = (s.meter.hold ++ [r], s.meter.nextNumber + 1) := by
  unfold State.enqueue
  extract_lets s'
  change (ite _ _ _ : State).records = s'.records
  exact State.ite_records (State.offerHoldFull_records ..) rfl

/-- R156, R157: the walk enqueues a record only while fewer than 48 are held. -/
theorem State.walkStep_recordsStep (s : State) : RecordsStep s.records s.walkStep.records := by
  unfold State.walkStep
  dsimp only
  split
  · split
    · rename_i hroom
      split
      · exact .joined _ hroom rfl (State.enqueue_records _ _)
      · exact .joined _ hroom rfl ((State.endClosing_fixed _ _).records.trans (State.enqueue_records _ _))
    · exact .stand rfl
  · exact .stand rfl

/-- R162: RELEASE-RECORD takes the head at most. -/
theorem State.releaseRecord_recordsStep (s : State) (n : BitVec 16) : RecordsStep s.records (s.releaseRecord n).state.records := by
  unfold State.releaseRecord
  split
  · exact .stand rfl
  · split
    · exact .left (by rw [State.dropHead_eq]; rfl)
    · exact .stand rfl

/-! ### Every command -/

theorem exec_recordsStep {c : Instr} {s s' : State} (hc : ∀ stn mgt, c ≠ .pinReset stn mgt) (hx : exec c s = .next s') :
    RecordsStep s.records s'.records := by
  cases c
  case pinReset stn mgt => exact absurd rfl (hc stn mgt)
  all_goals
    injection hx with hx
    subst hx
    change RecordsStep s.begin.records _
    generalize s.begin = v
    beta_reduce
  case emissionWalk =>
    split
    · exact v.walkStep_recordsStep
    · exact .stand rfl
  case releaseRecord rx num args =>
    obtain h | h := State.request_refusedOrActs (s := v) (rx := rx) (num := num) (kind := 19) (top := 1) (b := true)
      (State.answer rx num 19 fun u => u.ranged (recordArg args) u.releaseRecord)
    · exact .stand h
    · rw [h]
      rw [State.answer, (State.conclude_fixed ..).records]
      cases recordArg args with
      | none => exact .stand rfl
      | some n => exact State.releaseRecord_recordsStep v.countReceived n
  all_goals refine .stand ?_
  case roundBoundary => exact v.boundary_roundOnly.records
  case controlMessageReoffer t place => exact (v.reoffer_fixed t place).records
  case heldFrameReoffer f => exact v.reofferFrame_records f
  case sharePeriodEnd => exact State.ite_records (State.shareEnd_records _) rfl
  case mapPoint => exact State.ite_records rfl v.mapPoint_records
  case forwardRetentionExpiry h => exact State.ite_records (v.freeEntry_fixed h).records rfl
  case zoneReceived t z => exact (v.zone_fixed t z).records
  case downstreamPacket home packet => exact v.downstream_records home packet
  case soakEnd | epochEnd | probeSettled | secondTick | unknownClass => exact State.ite_records rfl rfl
  case findWalkComplete | idleGapElapsed | linkCollision | backoffEnd | badFrame => (repeat' split) <;> rfl
  case periodClose =>
    split
    · exact v.periodClose_records _
    · rfl
  case claimHoldExpiry h =>
    split
    · exact State.ite_records (v.succeedClaim_fixed h none).records rfl
    · rfl
  case laserOffRefresh h =>
    refine State.ite_records ?_ rfl
    split
    · exact State.ite_records rfl (State.offerCtl_fixed _ _ _).records
    · rfl
  case lostTimeout h =>
    split
    · exact State.ite_records (v.closeEntry_fixed h _ _).records rfl
    · rfl
  case burstReceived t b =>
    split
    · exact (v.burst_fixed _ t b).records
    · rfl
  case quietWindowMeasured t level =>
    split
    · exact (v.quietWindow_fixed _ t level).records
    · rfl
  case captureCheckComplete =>
    split
    · exact (State.actCapture_fixed _ _ _).records
    · rfl
  case claimCheckComplete =>
    split
    · exact (State.actClaim_fixed _ _ _ _).records
    · rfl
  case releaseCheckComplete =>
    split
    · exact (State.actRelease_fixed _ _ _).records
    · rfl
  case frameSent =>
    split
    · exact State.claimSent_records _ _
    · rfl
  case jamEnd =>
    split
    · exact State.ite_records (State.dropped_records _ _) rfl
    · rfl
  case claim rx payload =>
    refine State.receivePeer_records fun u => ?_
    split
    · exact (u.hearClaim_fixed _ _ _).records
    · rfl
  case object rx payload =>
    refine State.receivePeer_records fun u => ?_
    split
    · split
      · exact (u.takeObject_fixed _ _ _ _).records
      · exact u.unmatched_fixed.records
    · rfl
  case release rx payload =>
    refine State.receivePeer_records fun u => ?_
    split
    · exact u.hearRelease_records _ _ _ _ _
    · rfl
  case share rx payload =>
    refine State.receive_records fun u => ?_
    split
    · exact u.takeShare_records _ _ _
    · rfl
  case event | response => exact State.receive_records fun _ => rfl
  case unknownRequestKind rx payload => exact State.ite_records (State.receive_records fun u => u.unknownKind_records rx payload) rfl
  case find rx num args => exact State.request_records fun u => u.find_records rx num args
  case collect rx num args => exact State.request_records fun u => u.collect_records rx num
  case configure rx num args => exact State.receive_records <| State.answer_records fun u => owningBlock_records u 1 rx args
  case time rx num args => exact State.request_owningBlock_records 2 args
  case tariff rx num args => exact State.request_owningBlock_records 3 args
  case admitHome rx num args => exact State.request_owningBlock_records 4 args
  case withdraw rx num args => exact State.request_owningBlock_records 5 args
  case unbar rx num args => exact State.request_owningBlock_records 6 args
  case retire rx num args => exact State.request_owningBlock_records 7 args
  case pardon rx num args => exact State.request_owningBlock_records 8 args
  case setClass rx num args => exact State.request_owningBlock_records 9 args
  case search rx num args => exact State.request_owningBlock_records 10 args
  case abortSearch rx num args => exact State.request_owningBlock_records 11 args
  case stopTree rx num args => exact State.request_owningBlock_records 12 args
  case startTree rx num args => exact State.request_owningBlock_records 13 args
  all_goals refine State.request_records <| State.answer_records fun u => State.ranged_records fun arg => ?_
  case readLists => rfl
  case queryHome =>
    unfold State.queryHome
    split <;> rfl
  case queryStation =>
    dsimp only
    split <;> rfl

/-! ### The hold queue stays sound (R159) -/

/-- R159: a record with the counter's number at the tail continues the numbers. -/
theorem Metering.sound.joined {m m' : Metering} (hm : m.sound) {r : Record} (hroom : m.hold.length < 48) (hr : r.number = m.nextNumber)
    (hhold : m'.hold = m.hold ++ [r]) (hnext : m'.nextNumber = m.nextNumber + 1) : m'.sound := by
  obtain ⟨-, hnumbers⟩ := hm
  rw [Metering.sound, hhold, hnext, List.length_append, List.length_singleton]
  refine ⟨hroom, fun i q hq => ?_⟩
  obtain hi | hi := Nat.lt_or_ge i m.hold.length
  · rw [List.getElem?_append_left hi] at hq
    rw [hnumbers i q hq, Nat.sub_add_comm hi.le, BitVec.ofNat_add]
    exact (add_sub_add_right_eq_sub ..).symm
  · rw [List.getElem?_append_right hi, List.getElem?_singleton] at hq
    split at hq
    · rename_i h0
      have hlast : m.hold.length + 1 - i = 1 := by omega
      rw [← Option.some.inj hq, hr, hlast]
      exact (add_sub_cancel_right ..).symm
    · cases hq

/-- R162: without its head the queue keeps its numbers, counted from the tail. -/
theorem Metering.sound.left {m m' : Metering} (hm : m.sound) (hhold : m'.hold = m.hold.tail) (hnext : m'.nextNumber = m.nextNumber) : m'.sound := by
  obtain ⟨hlength, hnumbers⟩ := hm
  rw [Metering.sound, hhold, hnext, List.length_tail]
  refine ⟨(Nat.sub_le _ _).trans hlength, fun i q hq => ?_⟩
  rw [List.getElem?_tail] at hq
  have hplace : m.hold.length - 1 - i = m.hold.length - (i + 1) := by omega
  rw [hplace]
  exact hnumbers (i + 1) q hq

theorem Metering.sound.recordsStep {s s' : State} (hs : s.meter.sound) (h : RecordsStep s.records s'.records) : s'.meter.sound := by
  cases h with
  | stand h =>
    obtain ⟨hhold, hnext⟩ := Prod.mk.inj h
    rw [Metering.sound, hhold, hnext]
    exact hs
  | joined r room number h =>
    obtain ⟨hhold, hnext⟩ := Prod.mk.inj h
    exact hs.joined room number hhold hnext
  | left h =>
    obtain ⟨hhold, hnext⟩ := Prod.mk.inj h
    exact hs.left hhold hnext

/-- Settles O7: after a reset the queue is empty, and every other command lets the records stand, adds one at the tail or takes the head. -/
theorem holdQueueKept : Obligations.HoldQueueKept := by
  refine KeptByEveryStep.of_exec (fun _ _ hs => hs) fun c s s' hs hx => ?_
  by_cases hc : ∃ stn mgt, c = .pinReset stn mgt
  · obtain ⟨stn, mgt, rfl⟩ := hc
    injection hx with hx
    exact hx ▸ Metering.sound_afterReset stn mgt
  · exact hs.recordsStep (exec_recordsStep (fun stn mgt e => hc ⟨stn, mgt, e⟩) hx)

end Sys2Proof.Machine
end

section
/-! SUPPORT. The transmit queue kept (R165 to R168): what each operation of the link controller does to its limits, its order and the attempts of the current frame, and that
every command goes through these operations. -/

namespace Sys2Proof.Machine

/-! ### The limits and the order of the queue, and the current frame -/

/-- The limits and the order of the transmit queue (R168). -/
def Link.Ordered (l : Link) : Prop :=
  l.total ≤ 12 ∧ l.routine ≤ 8 ∧ l.waiting.Pairwise fun a b => b.content.urgent = true → a.content.urgent = true

/-- A frame is current exactly while the sender is not IDLE, on attempt 1 to 16, and one in back-off has an attempt left (R165 to R167). -/
def Link.Attempting (l : Link) : Prop :=
  (l.current = none ↔ l.phase = .idle) ∧ (∀ f a, l.current = some (f, a) → 1 ≤ a ∧ a ≤ 16) ∧
    ∀ f a b, l.current = some (f, a) → l.phase = .backoff b → a ≤ 15 ∧ 64 ≤ b ∧ b ≤ 1024

theorem Link.sound_iff (l : Link) : l.sound ↔ l.Ordered ∧ l.Attempting ∧ (l.phase = .idle → l.waiting = []) := by
  simp only [Link.sound, Link.Ordered, Link.Attempting]
  tauto

theorem Link.sound.ordered {l : Link} (h : l.sound) : l.Ordered := ((l.sound_iff).1 h).1

theorem Link.sound.attempting {l : Link} (h : l.sound) : l.Attempting := ((l.sound_iff).1 h).2.1

/-- Whether a frame is urgent: what the limits and the order of the queue look at. -/
def Frame.mark (f : Frame) : Bool := f.content.urgent

theorem Link.routine_eq_marks (l : Link) : l.routine = (l.frames.map Frame.mark).countP (! ·) := by
  rw [List.countP_map]
  rfl

theorem Link.pairwise_marks (fs : List Frame) :
    fs.Pairwise (fun a b => b.content.urgent = true → a.content.urgent = true) ↔ (fs.map Frame.mark).Pairwise fun a b => b = true → a = true := by
  rw [List.pairwise_map]
  rfl

/-- Frames that leave the queue, and frames that others of their priority replace, keep its limits and its order. -/
theorem Link.Ordered.of_sublist {l l' : Link} (h : l.Ordered) (hf : (l'.frames.map Frame.mark).Sublist (l.frames.map Frame.mark))
    (hw : (l'.waiting.map Frame.mark).Sublist (l.waiting.map Frame.mark)) : l'.Ordered := by
  obtain ⟨ht, hr, hp⟩ := h
  refine ⟨?_, ?_, (Link.pairwise_marks _).2 (((Link.pairwise_marks _).1 hp).sublist hw)⟩
  · have hlength := hf.length_le
    rw [List.length_map, List.length_map] at hlength
    exact hlength.trans ht
  · rw [Link.routine_eq_marks] at hr ⊢
    exact hf.countP_le.trans hr

theorem Link.frames_marks (l : Link) : l.frames.map Frame.mark = (l.current.map fun c => c.1.mark).toList ++ l.waiting.map Frame.mark := by
  rw [Link.frames, List.map_append]
  cases l.current <;> rfl

/-- Waiting frames that leave, while the current frame keeps its priority. -/
theorem Link.Ordered.of_waiting {l l' : Link} (h : l.Ordered) (hc : (l'.current.map fun c => c.1.mark) = l.current.map fun c => c.1.mark)
    (hw : (l'.waiting.map Frame.mark).Sublist (l.waiting.map Frame.mark)) : l'.Ordered := by
  refine h.of_sublist ?_ hw
  rw [l'.frames_marks, l.frames_marks, hc]
  exact hw.append_left _

/-- R165: the frame chosen from an ordered queue leaves a sound sender. -/
theorem Link.Ordered.choose {l : Link} (h : l.Ordered) (ha : l.Attempting) : l.choose.sound := by
  rw [Link.sound_iff]
  unfold Link.choose
  split
  case h_1 f rest hidle hw =>
    have hnone : l.current = none := ha.1.2 hidle
    refine ⟨h.of_sublist ?_ ?_, ⟨by simp, ?_, ?_⟩, fun hp => absurd hp (by simp)⟩
    · rw [Link.frames_marks, Link.frames_marks, hnone, hw]
      exact List.Sublist.refl _
    · rw [hw]
      exact List.sublist_cons_self _ _
    · rintro g a hg
      obtain ⟨-, rfl⟩ := Prod.mk.inj (Option.some.inj hg)
      decide
    · rintro g a b - hp
      cases hp
  case h_2 hn =>
    refine ⟨h, ha, fun hidle => ?_⟩
    cases hw : l.waiting with
    | nil => rfl
    | cons f rest => exact (hn f rest hidle hw).elim

/-- R168: an urgent frame stands behind the urgent ones, a routine one at the tail. -/
theorem insertFrame_ordered (f : Frame) {fs : List Frame} (h : fs.Pairwise fun a b => b.content.urgent = true → a.content.urgent = true) :
    (insertFrame f fs).Pairwise fun a b => b.content.urgent = true → a.content.urgent = true := by
  induction fs with
  | nil => exact List.pairwise_singleton _ _
  | cons x xs ih =>
    obtain ⟨hx, hxs⟩ := List.pairwise_cons.1 h
    simp only [insertFrame]
    split
    · rename_i hurgent
      rw [Bool.and_eq_true] at hurgent
      exact List.pairwise_cons.2 ⟨fun _ _ _ => hurgent.1, h⟩
    · rename_i hplace
      refine List.pairwise_cons.2 ⟨fun g hg hu => ?_, ih hxs⟩
      obtain rfl | hg := (insertFrame_mem f g xs).1 hg
      · simpa [hu] using hplace
      · exact hx g hg hu

namespace Link.sound

variable {l : Link}

/-! ### The operations of the link controller -/

/-- R168: a frame that finds room joins the queue. -/
theorem take (h : l.sound) {f : Frame} (hroom : l.roomFor f.content.urgent = true) : (l.take f).sound := by
  obtain ⟨ht, hr, hp⟩ := h.ordered
  simp only [Link.roomFor, Bool.and_eq_true, Bool.or_eq_true, decide_eq_true_eq] at hroom
  obtain ⟨hplace, hroutine⟩ := hroom
  refine Link.Ordered.choose (l := { l with waiting := insertFrame f l.waiting }) ⟨?_, ?_, insertFrame_ordered f hp⟩ h.attempting
  · rw [Link.total_eq] at hplace ⊢
    dsimp only
    rw [insertFrame_length]
    exact hplace
  · rw [Link.routine_eq] at hr hroutine ⊢
    dsimp only
    rw [insertFrame_countP, ← Nat.add_assoc]
    obtain hurgent | hlt := hroutine
    · rw [hurgent]
      exact hr
    · split
      · exact hlt
      · exact hr

theorem take_routine (h : l.sound) (dest : Byte) {c : Content} (hc : c.urgent = false) (hroom : l.roomFor false = true) :
    (l.take ⟨dest, c, false⟩).sound := h.take (by rw [hc]; exact hroom)

/-- R165, R166: the current frame leaves and the next is chosen. -/
theorem finish (h : l.sound) : l.finish.sound := by
  refine Link.Ordered.choose (h.ordered.of_sublist ?_ (List.Sublist.refl _)) ⟨by simp, by simp, by simp⟩
  rw [Link.frames_marks, Link.frames_marks]
  exact List.sublist_append_right _ _

/-- R168: an urgent frame is taken or dropped. -/
theorem offerUrgent (h : l.sound) {f : Frame} (hf : f.content.urgent = true) : (l.offerUrgent f).sound := by
  unfold Link.offerUrgent
  split
  · rename_i hroom
    exact h.take (by rw [hf]; exact hroom)
  · dsimp only
    split <;> exact h

/-- R55, R169: a waiting CLAIM leaves the queue, one on the line keeps its place. -/
theorem withdrawClaim (h : l.sound) (i : HomeIndex) : (l.withdrawClaim i).sound := by
  obtain ⟨-, ha, hidle⟩ := (l.sound_iff).1 h
  obtain ⟨hcur, hattempt, hback⟩ := ha
  have hfilter : ((l.waiting.filter fun f => !f.claims i).map Frame.mark).Sublist (l.waiting.map Frame.mark) := List.filter_sublist.map _
  have hkept : ({ l with waiting := l.waiting.filter fun f => !f.claims i } : Link).sound :=
    (Link.sound_iff _).2 ⟨h.ordered.of_waiting rfl hfilter, h.attempting, fun hp => by simp [hidle hp]⟩
  unfold Link.withdrawClaim
  dsimp only
  split
  · rename_i f n hf
    have hnot : l.phase ≠ .idle := fun hp => by simp [hcur.2 hp] at hf
    split
    · split
      · refine (Link.sound_iff _).2 ⟨h.ordered.of_waiting (by rw [hf]; rfl) hfilter, ⟨by simpa using hnot, ?_, ?_⟩, fun hp => absurd hp hnot⟩
        · rintro g a hg
          obtain ⟨-, rfl⟩ := Prod.mk.inj (Option.some.inj hg)
          exact hattempt f n hf
        · rintro g a b hg
          obtain ⟨-, rfl⟩ := Prod.mk.inj (Option.some.inj hg)
          exact hback f n b hf
      · exact hkept.finish
    · exact hkept
  · exact hkept

end Link.sound

/-- R166: a back-off lasts 64 to 1024 bit times. -/
theorem backoffBits_bounds (st : Station) (a : Nat) : 64 ≤ backoffBits st a ∧ backoffBits st a ≤ 1024 := by
  unfold backoffBits
  omega

theorem Content.urgent_of_isShare {c : Content} (h : c.isShare = true) : c.urgent = false := by
  cases c with
  | share => rfl
  | _ => cases h

/-- R91: the SHARE that replaces and the SHAREs discarded leave the others in their order. -/
theorem replaceShare_marks (f d : Nat) (fs : List Frame) : ((replaceShare (.share f d) fs).map Frame.mark).Sublist (fs.map Frame.mark) := by
  induction fs with
  | nil => exact List.Sublist.refl _
  | cons x xs ih =>
    simp only [replaceShare]
    split
    · rename_i hx
      have hmark : Frame.mark { x with content := .share f d } = x.mark := (Content.urgent_of_isShare hx).symm
      rw [List.map_cons, List.map_cons, hmark]
      exact (List.filter_sublist.map _).cons_cons _
    · rw [List.map_cons, List.map_cons]
      exact ih.cons_cons _

namespace Link.sound

variable {l : Link}

theorem replaceShare (h : l.sound) (f d : Nat) : ({ l with waiting := Machine.replaceShare (.share f d) l.waiting } : Link).sound := by
  obtain ⟨-, -, hidle⟩ := (l.sound_iff).1 h
  exact (Link.sound_iff _).2 ⟨h.ordered.of_waiting rfl (replaceShare_marks f d _), h.attempting, fun hp => by simp [hidle hp, Machine.replaceShare]⟩

/-- R91, R169: a notice takes the place of a SHARE that waits, joins the queue, or finds no room. -/
theorem offerShare (h : l.sound) (f d : Nat) : (l.offerShare f d).1.sound := by
  obtain ⟨-, ⟨hcur, hattempt, hback⟩, hidle⟩ := (l.sound_iff).1 h
  unfold Link.offerShare
  dsimp only
  split
  · rename_i cur n hf
    have hnot : l.phase ≠ .idle := fun hp => by simp [hcur.2 hp] at hf
    split
    · rename_i hshare
      rw [Bool.and_eq_true] at hshare
      have hmark : Frame.mark { cur with content := .share f d } = cur.mark := (Content.urgent_of_isShare hshare.1).symm
      refine (Link.sound_iff _).2 ⟨h.ordered.of_waiting (by rw [hf]; exact congrArg some hmark) (List.filter_sublist.map _),
        ⟨by simpa using hnot, ?_, ?_⟩, fun hp => absurd hp hnot⟩
      · rintro g a hg
        obtain ⟨-, rfl⟩ := Prod.mk.inj (Option.some.inj hg)
        exact hattempt cur n hf
      · rintro g a b hg
        obtain ⟨-, rfl⟩ := Prod.mk.inj (Option.some.inj hg)
        exact hback cur n b hf
    · split
      · exact h.replaceShare f d
      · split
        · rename_i hroom
          exact h.take_routine _ rfl hroom
        · exact h
  · split
    · exact h.replaceShare f d
    · split
      · rename_i hroom
        exact h.take_routine _ rfl hroom
      · exact h

/-! ### The sender's phases -/

/-- R165, R166: the sender moves between phases in which its frame stays current. -/
theorem toPhase (h : l.sound) {p : SenderPhase} (hl : l.phase ≠ .idle) (hp : p ≠ .idle) (hb : ∀ b, p ≠ .backoff b) :
    ({ l with phase := p } : Link).sound := by
  obtain ⟨hordered, ⟨hcur, hattempt, -⟩, -⟩ := (l.sound_iff).1 h
  exact (Link.sound_iff _).2
    ⟨hordered, ⟨by simp [hcur, hl, hp], hattempt, fun _ _ b _ e => absurd e (hb b)⟩, fun e => absurd e hp⟩

/-- R166, 2: a collision short of the 16th leads to a back-off of 64 to 1024 bit times. -/
theorem backoff (h : l.sound) (st : Station) {f : Frame} {a : Nat} (hf : l.current = some (f, a)) (ha : ¬ 16 ≤ a) :
    ({ l with phase := .backoff (backoffBits st a) } : Link).sound := by
  obtain ⟨hordered, ⟨hcur, hattempt, -⟩, -⟩ := (l.sound_iff).1 h
  refine (Link.sound_iff _).2 ⟨hordered, ⟨by simp [hf], hattempt, ?_⟩, fun e => by cases e⟩
  rintro g k b hg e
  obtain ⟨-, rfl⟩ := Prod.mk.inj (Option.some.inj (hf.symm.trans hg))
  obtain rfl : backoffBits st a = b := by simpa using e
  exact ⟨by omega, backoffBits_bounds st a⟩

/-- R166, 3: after a back-off the next attempt waits its gap. -/
theorem again (h : l.sound) {f : Frame} {a b : Nat} (hf : l.current = some (f, a)) (hp : l.phase = .backoff b) :
    ({ l with current := some (f, a + 1), phase := .gap } : Link).sound := by
  obtain ⟨hordered, ⟨-, -, hback⟩, -⟩ := (l.sound_iff).1 h
  refine (Link.sound_iff _).2 ⟨hordered.of_waiting (by rw [hf]; rfl) (List.Sublist.refl _), ⟨by simp, ?_, ?_⟩, fun e => by cases e⟩
  · rintro g k hg
    obtain ⟨-, rfl⟩ := Prod.mk.inj (Option.some.inj hg)
    have hlast := (hback f a b hf hp).1
    omega
  · rintro g k b - e
    cases e

end Link.sound
end Sys2Proof.Machine
end

section
/-! SUPPORT. Every command goes through the operations of the link controller that keep the transmit queue (R165 to R168). -/

namespace Sys2Proof.Machine

/-- The part has a sound transmit queue. -/
def State.LinkSound (s : State) : Prop := s.link.sound

theorem State.LinkSound.of_link {s s' : State} (hs : s.LinkSound) (h : s'.link = s.link) : s'.LinkSound := by
  rw [State.LinkSound, h]
  exact hs

theorem State.RoundOnly.link {s s' : State} (h : s.RoundOnly s') : s'.link = s.link := by
  rw [h]

theorem State.wakeWalk_link (s : State) : s.wakeWalk.link = s.link := by
  rw [State.wakeWalk_eq]

theorem State.queueWalk_link (s : State) (r : WalkRequest) : (s.queueWalk r).1.link = s.link := by
  unfold State.queueWalk
  split <;> rfl

namespace State.LinkSound

variable {s : State}

theorem ite {P : Prop} [Decidable P] {s' : State} (hs : s.LinkSound) (hs' : s'.LinkSound) : (if P then s else s').LinkSound := by
  split
  · exact hs
  · exact hs'

theorem foldl {α : Type} {f : State → α → State} (hs : s.LinkSound) (hf : ∀ {v : State} (a : α), v.LinkSound → (f v a).LinkSound) (xs : List α) :
    (xs.foldl f s).LinkSound :=
  foldl_keeps (A := State.LinkSound) (fun _ a hv => hf a hv) xs hs

/-! ### Frames offered -/

theorem offerUrgent (hs : s.LinkSound) (dest : Byte) {c : Content} (hc : c.urgent = true) : (s.offerUrgent dest c).LinkSound :=
  Link.sound.offerUrgent hs hc

theorem respond (hs : s.LinkSound) (st : Station) (n : BitVec 16) (k : Byte) (status : Status) (body : List Byte) :
    (s.respond st n k status body).LinkSound := by
  unfold State.respond State.LinkSound
  rw [State.onLink_link]
  split
  · rename_i hroom
    exact Link.sound.take_routine hs _ rfl hroom
  · exact hs

/-- R173: the two parts of a COLLECT answer are taken where two frames find room. -/
theorem respondTwo (hs : s.LinkSound) (st : Station) (n : BitVec 16) (k : Byte) (p q : List Byte) : (s.respondTwo st n k p q).LinkSound := by
  unfold State.respondTwo State.LinkSound
  rw [State.onLink_link]
  split
  · rename_i hroom
    obtain ⟨ht, hr⟩ := hroom
    have hfirst : s.link.roomFor false = true := Link.roomFor_routine.2 ⟨by omega, by omega⟩
    refine Link.sound.take_routine (Link.sound.take_routine hs _ rfl hfirst) _ rfl (Link.roomFor_routine.2 ⟨?_, ?_⟩)
    · exact (Link.take_total_le _ _).trans_lt (by omega)
    · exact (Link.take_routine_le _ _).trans_lt (by omega)
  · exact hs

theorem conclude {rx : Rx} {n : BitVec 16} {k : Byte} {a : Answer} (ha : a.state.LinkSound) : (s.conclude rx n k a).LinkSound := by
  have hcounted : (if refuses k a.status then a.state.onLink fun l => { l with requestsRefused := bump l.requestsRefused } else a.state).LinkSound :=
    .ite ha ha
  exact .ite (hcounted.respond ..) hcounted

theorem offerClaim (hs : s.LinkSound) (h : HomeIndex) : (s.offerClaim h).LinkSound := by
  unfold State.offerClaim
  dsimp only
  split
  · split
    · rename_i hroom
      exact Link.sound.take_routine hs _ rfl hroom
    · exact hs
  · exact hs

theorem reofferClaim (hs : s.LinkSound) (h : HomeIndex) : (s.reofferClaim h).LinkSound := by
  unfold State.reofferClaim
  dsimp only
  split
  · split
    · rename_i hroom
      exact Link.sound.take_routine hs _ rfl hroom.2
    · exact hs
  · exact hs

theorem offerShare (hs : s.LinkSound) (f d : Nat) : (s.offerShare f d).LinkSound := Link.sound.offerShare hs f d

theorem offerOvercommit (hs : s.LinkSound) (c f n : Nat) : (s.offerOvercommit c f n).LinkSound := by
  have hlost : (if s.share.heldOvercommit.isSome then s.onLink Link.loseEvent else s).LinkSound := .ite hs hs
  unfold State.offerOvercommit
  extract_lets v
  split
  · rename_i hroom
    exact Link.sound.take_routine (l := v.link) hlost _ rfl hroom
  · exact hlost

theorem offerHoldFull (hs : s.LinkSound) (depth : Nat) (head tail : BitVec 16) : (s.offerHoldFull depth head tail).LinkSound := by
  have hlost : (if s.meter.heldFull.isSome then s.onLink Link.loseEvent else s).LinkSound := .ite hs hs
  unfold State.offerHoldFull
  extract_lets v
  split
  · rename_i hroom
    exact Link.sound.take_routine (l := v.link) hlost _ rfl hroom
  · exact hlost

theorem reofferFrame (hs : s.LinkSound) (f : HeldFrame) : (s.reofferFrame f).LinkSound := by
  unfold State.reofferFrame
  split
  · exact hs.reofferClaim _
  · split
    · exact hs.offerShare ..
    · exact hs
  · split
    · exact offerOvercommit (s := s.onShare _) hs ..
    · exact hs
  · split
    · exact offerHoldFull (s := s.onMeter _) hs ..
    · exact hs

theorem computeShare (hs : s.LinkSound) (c : Nat) : (s.computeShare c).LinkSound := .ite (offerOvercommit (s := s.onShare _) hs ..) hs

theorem shareEnd (hs : s.LinkSound) : s.shareEnd.LinkSound := by
  unfold State.shareEnd
  dsimp only
  rw [State.LinkSound, State.onShare_link]
  split
  · exact (offerShare (s := { s with share := _, demandSum := 0 }) hs _ _).computeShare _
  · exact hs

/-! ### Entries and their claims -/

theorem abandonClaim (hs : s.LinkSound) (h : HomeIndex) : (s.abandonClaim h).LinkSound :=
  of_link (s := s.onLink fun l => l.withdrawClaim h) (Link.sound.withdrawClaim hs h) (State.freeEntry_link _ h)

theorem isolate (hs : s.LinkSound) (h : HomeIndex) (cause : IsolateCause) (e : Option Evidence) : (s.isolate h cause e).LinkSound := by
  unfold State.isolate
  dsimp only
  refine offerUrgent ?_ _ rfl
  split
  · split <;> exact hs
  · exact hs

theorem succeedClaim (hs : s.LinkSound) (h : HomeIndex) (m : Option Station) : (s.succeedClaim h m).LinkSound := by
  unfold State.succeedClaim
  dsimp only
  split
  · split
    · exact hs
    · exact Link.sound.withdrawClaim hs h
  · exact hs

theorem endClosing (hs : s.LinkSound) (h : HomeIndex) : (s.endClosing h).LinkSound := by
  have hroom : s.makeForwardRoom.LinkSound := by
    unfold State.makeForwardRoom
    split
    · exact .ite (hs.of_link (s.freeEntry_link _)) hs
    · exact hs
  unfold State.endClosing
  dsimp only
  split
  · exact hs.of_link (s.freeEntry_link h)
  · exact hroom

/-! ### Searches -/

theorem setupProbe (hs : s.LinkSound) (t : Tree) (step : SearchStep) (first count : Nat) : (s.setupProbe t step first count).LinkSound :=
  hs.of_link (foldl_link (fun v p => State.commandCandidate_link v t _ p) _ _)

theorem startSearch (hs : s.LinkSound) (t : Tree) (cause : SearchCause) : (s.startSearch t cause).LinkSound := hs.of_link (s.startSearch_link t cause)

theorem endSearch (hs : s.LinkSound) (t : Tree) (o : SearchOutcome) (r : SearchReason) : (s.endSearch t o r).LinkSound := by
  have hsilent : (homeIndexes.foldl (State.endSilence t) (s.onTree t TreeLine.forgetAwaited)).LinkSound := hs.of_link (foldl_link (State.endSilence_link t) _ _)
  unfold State.endSearch
  dsimp only
  generalize homeIndexes.foldl (State.endSilence t) (s.onTree t TreeLine.forgetAwaited) = v at hsilent
  exact offerUrgent (s := v.onTree t _) hsilent _ rfl

theorem nextProbe (hs : s.LinkSound) (t : Tree) (step : SearchStep) (first count : Nat) : (s.nextProbe t step first count).LinkSound :=
  .ite (hs.endSearch t _ _) (hs.setupProbe t _ _ _)

theorem examine (hs : s.LinkSound) (t : Tree) (first count : Nat) : (s.examine t first count).LinkSound :=
  .ite (hs.nextProbe t _ _ _) (hs.nextProbe t _ _ _)

theorem popTrail (hs : s.LinkSound) (t : Tree) : (s.popTrail t).LinkSound := by
  unfold State.popTrail
  dsimp only
  split
  · exact hs.nextProbe t _ _ _
  · exact examine (s := s.onSearch t _) hs t _ _

theorem confirmClear (hs : s.LinkSound) (t : Tree) (pos : Nat) : (s.confirmClear t pos).LinkSound := by
  unfold State.confirmClear
  split
  · exact hs
  · exact .ite (hs.isolate _ _ _) (.ite hs hs)

theorem verdict (hs : s.LinkSound) (t : Tree) (lit : Bool) : (s.verdict t lit).LinkSound := by
  unfold State.verdict
  dsimp only
  split
  case h_1 | h_7 | h_9 | h_10 => exact hs.endSearch t _ _
  case h_2 => exact .ite (hs.nextProbe t _ _ _) (hs.examine t _ _)
  case h_3 => exact hs.examine t _ _
  case h_4 => exact examine (s := s.onSearch t _) hs t _ _
  case h_5 => exact (hs.confirmClear t _).nextProbe t _ _ _
  case h_6 | h_8 => exact hs.popTrail t

theorem observe (hs : s.LinkSound) (t : Tree) (dark : Bool) : (s.observe t dark).LinkSound := by
  unfold State.observe
  dsimp only
  split
  · exact hs
  · exact .ite (verdict (s := s.onSearch t _) hs t _) hs

/-! ### Evidence -/

theorem charge (hs : s.LinkSound) (h : HomeIndex) (k : Evidence) : (s.charge h k).LinkSound := by
  unfold State.charge
  dsimp only
  split
  case h_1 | h_2 | h_3 => exact .ite (isolate (s := s.onHome h _) hs h _ _) hs
  all_goals exact hs

theorem evidence (hs : s.LinkSound) (t : Tree) (h : HomeIndex) (k : Evidence) : (s.evidence t h k).LinkSound := charge (s := s.onTree t _) hs h k

theorem chargeIdentity (hs : s.LinkSound) (h : HomeIndex) : (s.chargeIdentity h).LinkSound :=
  charge (s := { s with identities := bump s.identities }) hs h .identity

theorem addDark (hs : s.LinkSound) (t : Tree) (w : Nat) : (s.addDark t w).LinkSound :=
  .ite hs (.ite (startSearch (s := (s.onTree t _).onTree t _) hs t _) hs)

theorem overlap (hs : s.LinkSound) (t : Tree) : (s.overlap t).LinkSound := addDark (s := s.onTree t _) hs t 2

theorem dark (hs : s.LinkSound) (t : Tree) : (s.dark t).LinkSound := addDark (s := s.onTree t _) hs t 4

/-! ### Captures and the claim protocol -/

theorem admitCapture (hs : s.LinkSound) (t : Tree) (id : Identity) : (s.admitCapture t id).LinkSound := by
  unfold State.admitCapture
  split
  · exact hs
  · split
    · exact hs
    · split
      · exact hs
      · exact .ite hs (.ite hs (offerClaim (s := (s.setHome _ _).poolAdd t _) hs _))

theorem rejoin (hs : s.LinkSound) (h : HomeIndex) (t : Tree) (id : Identity) : (s.rejoin h t id).LinkSound := by
  unfold State.rejoin
  dsimp only
  split <;> exact hs

theorem rejoinMoved (hs : s.LinkSound) (h : HomeIndex) (t : Tree) (id : Identity) : (s.rejoinMoved h t id).LinkSound := by
  unfold State.rejoinMoved
  dsimp only
  split
  · split
    · exact hs
    · exact hs.of_link ((State.drainTag_link _ _).trans (State.leavePool_link _ _))
  · exact hs

theorem localConflict (hs : s.LinkSound) (h : HomeIndex) (t : Tree) (id : Identity) : (s.localConflict h t id).LinkSound := by
  have hreported : ((s.onEnrol fun e => e.bar id).event (.identityConflict id h (s.home h).tree (.localTree t))).LinkSound :=
    offerUrgent (s := s.onEnrol _) hs _ rfl
  exact .ite (hreported.abandonClaim h) (hreported.chargeIdentity h)

theorem actCapture (hs : s.LinkSound) (t : Tree) (id : Identity) : (s.actCapture t id).LinkSound := by
  unfold State.actCapture
  dsimp only
  split
  · exact hs.admitCapture t id
  · split
    case h_1 => exact hs.admitCapture t id
    case h_2 => exact (hs.of_link (s.freeEntry_link _)).admitCapture t id
    case h_3 => exact .ite (hs.rejoin ..) (hs.rejoinMoved ..)
    case h_4 | h_5 => exact .ite (hs.rejoin ..) (hs.localConflict ..)
    case h_6 | h_7 => exact .ite hs (hs.localConflict ..)
    case h_8 | h_9 => exact hs

theorem sendObject (hs : s.LinkSound) (c : Station) (id : Identity) (i : Byte) (k : ObjectKind) : (s.sendObject c id i k).LinkSound :=
  hs.offerUrgent _ rfl

theorem sendRelease (hs : s.LinkSound) (c : Station) (id : Identity) (i : Byte) : (s.sendRelease c id i).LinkSound := hs.offerUrgent _ rfl

theorem hearClaim (hs : s.LinkSound) (c : Station) (id : Identity) (i : Byte) : (s.hearClaim c id i).LinkSound := by
  have hq := of_link (s := s) hs ((s.onEnrol fun e => e.forget id).queueWalk_link (wholeWalk (.claim c i) id))
  unfold State.hearClaim
  dsimp only
  split <;> rename_i e <;> rw [e] at hq
  · exact hq
  · exact hq.sendObject ..

theorem abandonBarred (hs : s.LinkSound) (h : HomeIndex) (id : Identity) (tree : Option Tree) (c : ConflictCause) :
    (((s.abandonClaim h).onEnrol fun x => x.bar id).event (.identityConflict id h tree c)).LinkSound :=
  offerUrgent (s := (s.abandonClaim h).onEnrol _) (hs.abandonClaim h) _ rfl

theorem actClaim (hs : s.LinkSound) (c : Station) (i : Byte) (id : Identity) : (s.actClaim c i id).LinkSound := by
  unfold State.actClaim
  dsimp only
  split
  · exact hs
  · split
    case h_1 | h_4 => exact hs
    case h_2 => exact (hs.of_link (s.closeEntry_link _ _ _)).sendRelease ..
    case h_3 => exact sendRelease (s := s.onHome _ _) hs ..
    case h_5 | h_6 | h_7 => exact (hs.sendObject ..).chargeIdentity _
    case h_8 => exact hs.sendObject ..
    case h_9 => exact hs.abandonBarred ..

theorem actRelease (hs : s.LinkSound) (c : Station) (id : Identity) : (s.actRelease c id).LinkSound := by
  unfold State.actRelease
  split
  · exact hs
  · split <;> exact hs

theorem objectWait (hs : s.LinkSound) (h : HomeIndex) : (s.objectWait h).LinkSound := by
  unfold State.objectWait
  split
  · exact hs
  · exact .ite (hs.abandonClaim h) (.ite hs (offerClaim (s := s.onHome h _) hs h))

theorem lateObject (hs : s.LinkSound) (h : HomeIndex) (st : Station) (id : Identity) (k : ObjectKind) : (s.lateObject h st id k).LinkSound := by
  cases k with
  | wait => exact hs
  | held =>
    have hreported : (s.event (.identityConflict id h (s.home h).tree (.late st))).LinkSound := hs.offerUrgent _ rfl
    exact .ite (hreported.chargeIdentity h) hreported

theorem takeObject (hs : s.LinkSound) (st : Station) (id : Identity) (i : Byte) (k : ObjectKind) : (s.takeObject st id i k).LinkSound := by
  unfold State.takeObject
  split
  · exact hs
  · split
    · split
      · exact hs.abandonBarred ..
      · exact hs.objectWait _
    · exact hs.lateObject ..

theorem takeRelease (hs : s.LinkSound) (r : Station) (id : Identity) (i : Byte) : (s.takeRelease r id i).LinkSound := by
  unfold State.takeRelease
  split
  · exact hs
  · exact .ite (hs.succeedClaim ..) (.ite hs hs)

theorem hearRelease (hs : s.LinkSound) (src : Station) (id : Identity) (r c i : Byte) : (s.hearRelease src id r c i).LinkSound := by
  unfold State.hearRelease
  split
  · exact hs
  · exact .ite (hs.takeRelease ..) (hs.of_link (s.queueWalk_link _))

theorem takeShare (hs : s.LinkSound) (st : Station) (f d : Nat) : (s.takeShare st f d).LinkSound := by
  unfold State.takeShare
  split
  · exact hs
  · exact .ite hs hs

/-! ### Zones, bursts and quiet windows -/

theorem capture (hs : s.LinkSound) (t : Tree) (bursts : List (List Byte)) : (s.capture t bursts).LinkSound :=
  foldl (s := (s.onTree t _).onEnrol _) hs (fun {v} id hv => by
    have hq := hv.of_link (v.queueWalk_link (wholeWalk (.capture t) id))
    unfold State.dealCapture
    split
    · exact hv
    · split <;> rename_i e <;> rw [e] at hq <;> exact hq) _

theorem failMeasurement (hs : s.LinkSound) (h : HomeIndex) (r : UnknownReason) : (s.failMeasurement h r).LinkSound := by
  have hfreed : (s.freeEntry h).LinkSound := hs.of_link (s.freeEntry_link h)
  unfold State.failMeasurement
  dsimp only
  split
  · exact hs
  · split <;> exact hfreed

theorem failAttempt (hs : s.LinkSound) (h : HomeIndex) : (s.failAttempt h).LinkSound := .ite (failMeasurement (s := s.onHome h _) hs h _) hs

theorem acceptAttempt (hs : s.LinkSound) (h : HomeIndex) (t : Tree) (reach : Nat) (m : Sample) : (s.acceptAttempt h t reach m).LinkSound := by
  unfold State.acceptAttempt
  dsimp only
  split <;> exact hs

theorem takeSample (hs : s.LinkSound) (h : HomeIndex) (t : Tree) (n : Nat) (x : Option Sample) : (s.takeSample h t n x).LinkSound := by
  unfold State.takeSample
  dsimp only
  split
  · exact hs.failAttempt h
  · split
    · exact hs.failMeasurement h _
    · refine .ite hs ?_
      split
      · split
        · exact acceptAttempt (s := s.onHome h _) hs ..
        · exact hs
      · exact failAttempt (s := s.onHome h _) hs h

theorem zone (hs : s.LinkSound) (t : Tree) (z : ZoneRx) : (s.zone t z).LinkSound := by
  unfold State.zone
  dsimp only
  split
  · exact hs
  · refine .ite hs ?_
    split
    · exact capture (s := s.onTree t _) hs t _
    · exact .ite (takeSample (s := s.onTree t _) hs ..) hs

theorem deliverPayload (hs : s.LinkSound) (t : Tree) (h : HomeIndex) (ps : Option (List (List Byte))) : (s.deliverPayload t h ps).LinkSound := by
  unfold State.deliverPayload
  split
  · exact hs
  · exact foldl (f := fun v p => v.emit (.upstreamPacket h p)) hs (fun _ hv => hv) _

theorem accumulateDrift (hs : s.LinkSound) (t : Tree) (h : HomeIndex) (δ : Int) : (s.accumulateDrift t h δ).LinkSound := by
  unfold State.accumulateDrift
  dsimp only
  refine .ite hs (.ite hs ?_)
  split
  · split
    · exact hs
    · exact .ite hs hs
  · exact hs

theorem judgeBurst (hs : s.LinkSound) (c : Config) (t : Tree) (h : HomeIndex) (δ : Int) (m l : Nat) : (s.judgeBurst c t h δ m l).LinkSound := by
  have hdrift : (if beyond δ c.drift then s.evidence t h .drift else s).LinkSound := .ite (hs.evidence ..) hs
  exact .ite (hdrift.overlap t) hdrift

theorem lostReturn (hs : s.LinkSound) (c : Config) (h : HomeIndex) (δ : Int) : (s.lostReturn c h δ).LinkSound := .ite (.ite hs hs) hs

theorem goodServed (hs : s.LinkSound) (c : Config) (t : Tree) (h : HomeIndex) (r : BurstRx) (w : Window) (δ : Int) (d : Head) (m : Nat) :
    (s.goodServed c t h r w δ d m).LinkSound := by
  have hpaid : (((s.onHome h fun y => { y with missed := 0 }).recordReport h d.report).deliverPayload t h (burstPackets r d.bytes w.payload)).LinkSound :=
    deliverPayload (s := (s.onHome h _).recordReport h _) hs ..
  exact (accumulateDrift (s := State.onHome _ h _) hpaid t h δ).judgeBurst ..

theorem goodLost (hs : s.LinkSound) (c : Config) (t : Tree) (h : HomeIndex) (r : BurstRx) (w : Window) (δ : Int) (d : Head) (m : Nat) :
    (s.goodLost c t h r w δ d m).LinkSound := by
  unfold State.goodLost
  dsimp only
  split
  · have hpaid : ((s.onHome h fun y => { y with missed := 0 }).deliverPayload t h (burstPackets r d.bytes w.payload)).LinkSound :=
      deliverPayload (s := s.onHome h _) hs ..
    exact .ite ((hpaid.judgeBurst ..).lostReturn ..) ((hpaid.lostReturn ..).judgeBurst ..)
  · have hpaid : (((s.onHome h fun y => { y with missed := 0 }).recordReport h d.report).deliverPayload t h (burstPackets r d.bytes w.payload)).LinkSound :=
      deliverPayload (s := (s.onHome h _).recordReport h _) hs ..
    exact (lostReturn (s := State.onHome _ h _) hpaid c h δ).judgeBurst ..

theorem takeBurst (hs : s.LinkSound) (c : Config) (t : Tree) (w : Window) (r : BurstRx) : (s.takeBurst c t w r).LinkSound := by
  unfold State.takeBurst
  dsimp only
  split
  · exact .ite hs hs
  · exact hs
  · exact .ite (.ite (hs.goodLost ..) (hs.goodServed ..)) hs

theorem takeGuard (hs : s.LinkSound) (t : Tree) (before : Option Window) (lit : Bool) (w : Window) (r : BurstRx) :
    (s.takeGuard t before lit w r).LinkSound := .ite (hs.evidence ..) hs

theorem burst (hs : s.LinkSound) (c : Config) (t : Tree) (r : BurstRx) : (s.burst c t r).LinkSound := by
  unfold State.burst
  extract_lets x
  split
  · exact hs
  · exact .ite ((takeGuard (s := s.onTree t _) hs ..).takeBurst ..) ((takeBurst (s := s.onTree t _) hs ..).takeGuard ..)

theorem handQuiet (hs : s.LinkSound) (t : Tree) (observed dark : Bool) : (s.handQuiet t observed dark).LinkSound :=
  .ite (.ite (hs.observe t dark) hs) (.ite (hs.dark t) hs)

theorem quietWindow (hs : s.LinkSound) (c : Config) (t : Tree) (level : Byte) : (s.quietWindow c t level).LinkSound := by
  unfold State.quietWindow
  dsimp only
  split
  · exact handQuiet (s := s.onTree t _) hs t _ _
  · split
    · exact handQuiet (s := s.onTree t _) hs t _ _
    · exact hs

theorem downstream (hs : s.LinkSound) (home : Nat) (packet : List Byte) : (s.downstream home packet).LinkSound := by
  unfold State.downstream
  split
  · dsimp only
    split
    · exact .ite hs hs
    · exact hs
  · exact hs

/-! ### The emission walk and the map point -/

theorem walkStep (hs : s.LinkSound) : s.walkStep.LinkSound := by
  have hjoined : ∀ r, ({ s with emission := { s.emission with passes := 0 } } : State).enqueue r |>.LinkSound := fun r =>
    .ite (offerHoldFull (s := State.onMeter (State.onMeter { s with emission := _ } _) _) hs ..) hs
  unfold State.walkStep
  dsimp only
  split
  · split
    · exact .ite (hjoined _) ((hjoined _).endClosing _)
    · exact hs
  · exact hs

theorem mapPoint (hs : s.LinkSound) : s.mapPoint.LinkSound := by
  cases hc : s.config with
  | none => simp only [State.mapPoint, hc]; exact hs
  | some c => rw [State.mapPoint_frame hc]; exact hs

theorem reoffer (hs : s.LinkSound) (t : Tree) (i : Nat) : (s.reoffer t i).LinkSound := by
  unfold State.reoffer
  dsimp only
  split
  · exact hs
  · exact .ite hs (.ite hs (.ite hs hs))

/-! ### The sender -/

theorem claimSent (hs : s.LinkSound) (f : Frame) : (s.claimSent f).LinkSound := by
  unfold State.claimSent
  split
  · exact .ite hs hs
  all_goals exact hs

theorem dropped (hs : s.LinkSound) (f : Frame) : (s.dropped f).LinkSound := by
  unfold State.dropped
  split
  · exact .ite (offerClaim (s := s.onHome _ _) hs _) hs
  all_goals exact hs

/-! ### Frames received and requests -/

variable {rx : Rx}

theorem receive (hs : s.LinkSound) {f : State → State} (hf : ∀ {v : State}, v.LinkSound → (f v).LinkSound) : (s.receive rx f).LinkSound :=
  .ite (hf (v := s.countReceived) hs) hs

theorem receivePeer (hs : s.LinkSound) {f : State → State} (hf : ∀ {v : State}, v.LinkSound → (f v).LinkSound) : (s.receivePeer rx f).LinkSound :=
  hs.receive fun hv => by
    split
    · exact hv
    · exact .ite (hf hv) hv

theorem request (hs : s.LinkSound) {n : BitVec 16} {k : Byte} {top : Nat} {only : Bool} {act : State → State}
    (ha : ∀ {v : State}, v.LinkSound → (act v).LinkSound) : (s.request rx n k top only act).LinkSound :=
  hs.receive fun hv => by
    split
    · exact .ite (conclude hv) hv
    · exact .ite hv (.ite (conclude hv) (ha hv))

theorem ranged {α : Type} (hs : s.LinkSound) {read : Option α} {f : α → Answer} (hf : ∀ a, (f a).state.LinkSound) : (s.ranged read f).state.LinkSound := by
  cases read with
  | none => exact hs
  | some a => exact hf a

theorem stopTree (hs : s.LinkSound) (t : Tree) : (s.stopTree t).LinkSound := by
  have hended : (if (s.tree t).search.running then s.endSearch t .aborted .stop else s).LinkSound := .ite (hs.endSearch t _ _) hs
  exact hended

/-- Of the owning blocks of the kinds 1 to 13 those of a search that ends alone offer a frame, an urgent one. -/
theorem owningBlock (hs : s.LinkSound) (k : Nat) (rx : Rx) (args : List Byte) : (owningBlock k rx args s).state.LinkSound := by
  unfold Machine.owningBlock
  split
  case h_1 =>
    rw [State.configure]
    split
    · exact hs
    · refine hs.ranged fun c => ?_
      split
      · exact hs
      · exact hs.of_link (s.applyConfig_link c)
  case h_14 => exact hs
  all_goals refine hs.ranged fun arg => ?_
  case h_2 => exact hs.of_link (s.applyTime_link _ _)
  case h_3 => exact hs
  case h_4 => exact hs.of_link (s.takeAdmission_link rx arg)
  case h_5 | h_6 => split <;> exact hs
  case h_7 => exact hs.of_link (s.retire_link arg)
  case h_8 => exact hs.of_link (s.pardon_link arg)
  case h_9 => exact hs.of_link (s.setClass_link _ _ _)
  case h_10 =>
    unfold State.searchRequest
    split
    · exact hs
    · split
      · exact hs
      · exact hs.startSearch arg .request
  case h_11 =>
    unfold State.abortRequest
    dsimp only
    split
    · exact hs
    · exact hs.endSearch arg _ _
  case h_12 =>
    unfold State.stopRequest
    split
    · exact hs.stopTree arg
    · exact hs
  case h_13 =>
    unfold State.startRequest
    split
    · exact hs
    · split
      · exact hs
      · rw [State.accept_state]
        exact hs.of_link (s.startTree_link _ arg)

theorem request_owningBlock (hs : s.LinkSound) {n : BitVec 16} {b : Byte} {top : Nat} {only : Bool} (k : Nat) (args : List Byte) :
    (s.request rx n b top only (State.answer rx n b (Machine.owningBlock k rx args))).LinkSound :=
  hs.request fun hv => conclude (hv.owningBlock k rx args)

theorem request_ranged (hs : s.LinkSound) {α : Type} {n : BitVec 16} {b : Byte} {top : Nat} {only : Bool} {read : Option α} {f : State → α → Answer}
    (hf : ∀ {v : State} (a : α), v.LinkSound → (f v a).state.LinkSound) :
    (s.request rx n b top only (State.answer rx n b fun v => v.ranged read (f v))).LinkSound :=
  hs.request fun hv => conclude (hv.ranged fun a => hf a hv)

theorem find (hs : s.LinkSound) (rx : Rx) (n : BitVec 16) (args : List Byte) : (s.find rx n args).LinkSound := by
  unfold State.find
  split
  · exact conclude hs
  · rename_i id start count _
    have hq := hs.of_link (s.queueWalk_link ⟨.find rx.src n, id, start, count⟩)
    split <;> rename_i e <;> rw [e] at hq
    · exact hq
    · exact conclude hq

theorem collect (hs : s.LinkSound) (rx : Rx) (n : BitVec 16) : (s.collect rx n).LinkSound := by
  unfold State.collect
  split
  · exact conclude hs
  · exact hs.respondTwo ..

theorem releaseRecord (hs : s.LinkSound) (n : BitVec 16) : (s.releaseRecord n).state.LinkSound := by
  unfold State.releaseRecord
  split
  · exact hs
  · split
    · rw [State.dropHead_eq]
      exact hs
    · exact hs

theorem unknownKind (hs : s.LinkSound) (payload : List Byte) : (s.unknownKind rx payload).LinkSound :=
  .ite (conclude hs) (.ite (conclude hs) hs)

end State.LinkSound

/-! ### Every command -/

theorem exec_linkSound {c : Instr} {s s' : State} (hs : s.LinkSound) (hc : ∀ stn mgt, c ≠ .pinReset stn mgt) (hx : exec c s = .next s') : s'.LinkSound := by
  cases c
  case pinReset stn mgt => exact absurd rfl (hc stn mgt)
  all_goals
    injection hx with hx
    subst hx
    replace hs : s.begin.LinkSound := hs
    generalize s.begin = v at hs
    beta_reduce
  case roundBoundary => exact hs.of_link v.boundary_roundOnly.link
  case controlMessageReoffer t place => exact hs.reoffer t place
  case heldFrameReoffer f => exact hs.reofferFrame f
  case soakEnd | probeSettled | epochEnd | secondTick => exact .ite hs hs
  case claimHoldExpiry h =>
    split
    · exact .ite (hs.succeedClaim h none) hs
    · exact hs
  case laserOffRefresh h =>
    refine .ite ?_ hs
    split
    · exact .ite hs hs
    · exact hs
  case sharePeriodEnd => exact .ite (State.LinkSound.shareEnd (s := v.onClock _) hs) hs
  case lostTimeout h =>
    split
    · exact .ite (hs.of_link (v.closeEntry_link h _ _)) hs
    · exact hs
  case periodClose =>
    split
    · exact hs.of_link (State.wakeWalk_link _)
    · exact hs
  case forwardRetentionExpiry h => exact .ite (hs.of_link (v.freeEntry_link h)) hs
  case mapPoint => exact .ite hs hs.mapPoint
  case burstReceived t r =>
    split
    · exact hs.burst _ t r
    · exact hs
  case zoneReceived t z => exact hs.zone t z
  case quietWindowMeasured t level =>
    split
    · exact hs.quietWindow _ t level
    · exact hs
  case downstreamPacket home packet => exact hs.downstream home packet
  case captureCheckComplete =>
    split
    · exact State.LinkSound.actCapture (s := v.endWalk) hs ..
    · exact hs
  case claimCheckComplete =>
    split
    · exact State.LinkSound.actClaim (s := v.endWalk) hs ..
    · exact hs
  case releaseCheckComplete =>
    split
    · exact State.LinkSound.actRelease (s := v.endWalk) hs ..
    · exact hs
  case findWalkComplete r =>
    split
    · split
      · exact hs
      · exact State.LinkSound.respond (s := { v.endWalk with findWalk := _ }) hs ..
    · exact hs
  case emissionWalk => exact .ite hs.walkStep hs
  case idleGapElapsed =>
    split
    · rename_i hp
      exact Link.sound.toPhase hs (by simp [hp]) (by simp) (by simp)
    all_goals exact hs
  case frameSent =>
    split
    · have hcounted : ({ v.link with framesSent := bump v.link.framesSent } : Link).sound := hs
      exact State.LinkSound.claimSent (s := State.emit { v with link := _ } _) hcounted.finish _
    · exact hs
  case linkCollision =>
    split
    · rename_i hp
      exact Link.sound.toPhase hs (by simp [hp]) (by simp) (by simp)
    all_goals exact hs
  case jamEnd =>
    split
    · rename_i f a _ hf
      have hcounted : ({ v.link with collisions := bump v.link.collisions } : Link).sound := hs
      have hdropped : ({ v.link with collisions := bump v.link.collisions, collisionDrops := bump v.link.collisionDrops } : Link).sound := hs
      split
      · exact State.LinkSound.dropped (s := { v with link := _ }) hdropped.finish _
      · rename_i ha
        exact hcounted.backoff v.own hf ha
    · exact hs
  case backoffEnd =>
    split
    · rename_i b f a hp hf
      exact Link.sound.again hs hf hp
    · exact hs
  case badFrame bytes => split <;> exact hs
  case unknownClass rx cls payload => exact .ite hs hs
  case claim rx payload =>
    refine hs.receivePeer fun hv => ?_
    split
    · exact hv.hearClaim ..
    · exact hv
  case object rx payload =>
    refine hs.receivePeer fun hv => ?_
    split
    · split
      · exact hv.takeObject ..
      · exact hv
    · exact hv
  case release rx payload =>
    refine hs.receivePeer fun hv => ?_
    split
    · exact hv.hearRelease ..
    · exact hv
  case share rx payload =>
    refine hs.receive fun hv => ?_
    split
    · exact hv.takeShare ..
    · exact hv
  case event | response => exact hs.receive id
  case configure rx num args => exact hs.receive fun hv => .conclude (hv.owningBlock 1 rx args)
  case time rx num args => exact hs.request_owningBlock 2 args
  case tariff rx num args => exact hs.request_owningBlock 3 args
  case admitHome rx num args => exact hs.request_owningBlock 4 args
  case withdraw rx num args => exact hs.request_owningBlock 5 args
  case unbar rx num args => exact hs.request_owningBlock 6 args
  case retire rx num args => exact hs.request_owningBlock 7 args
  case pardon rx num args => exact hs.request_owningBlock 8 args
  case setClass rx num args => exact hs.request_owningBlock 9 args
  case search rx num args => exact hs.request_owningBlock 10 args
  case abortSearch rx num args => exact hs.request_owningBlock 11 args
  case stopTree rx num args => exact hs.request_owningBlock 12 args
  case startTree rx num args => exact hs.request_owningBlock 13 args
  case find rx num args => exact hs.request fun hv => hv.find rx num args
  case collect rx num args => exact hs.request fun hv => hv.collect rx num
  case unknownRequestKind rx payload => exact .ite (hs.receive fun hv => hv.unknownKind payload) hs
  case releaseRecord rx num args => exact hs.request_ranged fun n hv => hv.releaseRecord n
  case readLists rx num args => exact hs.request_ranged fun _ hv => hv
  case queryHome rx num args =>
    refine hs.request_ranged fun h hv => ?_
    unfold State.queryHome
    split <;> exact hv
  case queryStation rx num args =>
    refine hs.request_ranged fun _ hv => ?_
    dsimp only
    split <;> exact hv

/-- Settles O8: after a reset the queue is empty and the sender IDLE, and every other command goes through the operations of the link controller. -/
theorem transmitQueueKept : Obligations.TransmitQueueKept := by
  refine KeptByEveryStep.of_exec (fun _ _ hs => hs) fun c s s' hs hx => ?_
  by_cases hc : ∃ stn mgt, c = .pinReset stn mgt
  · obtain ⟨stn, mgt, rfl⟩ := hc
    injection hx with hx
    exact hx ▸ Link.sound_afterReset stn mgt
  · exact exec_linkSound hs (fun stn mgt e => hc ⟨stn, mgt, e⟩) hx

end Sys2Proof.Machine
end

section
/-! SUPPORT. Frames on the line (R170, R180, 12.2, 12.3): what the receiver makes of a frame laid out as Table 12-1 gives it, and of the payload of a request. -/

namespace Sys2Proof

/-! ### Frames -/

theorem toBE_length (k n : Nat) : (toBE k n).length = k := by
  induction k with
  | zero => rfl
  | succ k ih => rw [toBE, List.length_cons, ih]

/-- R170: a frame laid out on the line passes checks 1 to 3 and gives its header and its payload. -/
theorem lineFrame_frameBytes (rx : Rx) (cls : Byte) {p : List Byte} (hp : p.length ≤ 96) :
    lineFrame (frameBytes rx.dest (BitVec.ofNat 8 rx.src.val) cls p) = some ⟨rx, cls, p⟩ := by
  have hlen : (BitVec.ofNat 8 p.length).toNat = p.length := BitVec.toNat_ofNat .. ▸ Nat.mod_eq_of_lt (by omega)
  have hsrc : (BitVec.ofNat 8 rx.src.val).toNat = rx.src.val := BitVec.toNat_ofNat .. ▸ Nat.mod_eq_of_lt (by omega)
  have hcrc : ∀ bs, (crcBytes bs).length = 2 := fun bs => toBE_length 2 _
  simp only [frameBytes, lineFrame, List.cons_append, hlen, List.take_left, List.drop_left, List.take_of_length_le (hcrc _).le, List.length_append,
    hcrc, checked, hp, le_refl, decide_true, and_self, if_true, hsrc, rx.src.isLt, dif_pos]

/-! ### Requests -/

/-- R180: a request number is read back from its two bytes. -/
theorem beNat_toBE_two (n : BitVec 16) : BitVec.ofNat 16 (beNat (toBE 2 n.toNat)) = n := by
  refine BitVec.eq_of_toNat_eq ?_
  have hn := n.isLt
  simp only [toBE, beNat, List.foldl_cons, List.foldl_nil, BitVec.toNat_ofNat]
  omega

/-- 12.3: the payload of a request gives its number, its kind and its arguments. -/
theorem decodeRequest_payload (rx : Rx) (num : BitVec 16) (kind : Byte) (args : List Byte) :
    decodeRequest rx (toBE 2 num.toNat ++ kind :: args) =
      (requestOf rx num args kind.toNat).getD (.unknownRequestKind rx (toBE 2 num.toNat ++ kind :: args)) :=
  congrArg (fun n => (requestOf rx n args kind.toNat).getD _) (beNat_toBE_two num)

theorem requestOf_unknown {rx : Rx} {num : BitVec 16} {args : List Byte} {k : Nat} (h : k = 0 ∨ 19 < k) : requestOf rx num args k = none := by
  unfold requestOf
  split
  case h_20 => rfl
  all_goals omega

/-- 12.3: a payload with a kind code outside 1 to 19, or with none, is a request of an unknown kind. -/
theorem decodeRequest_unknown (rx : Rx) {p : List Byte} (h : unknownKind p = true) : decodeRequest rx p = .unknownRequestKind rx p := by
  match p with
  | [] | [_] | [_, _] => rfl
  | n1 :: n0 :: kind :: args =>
    simp only [unknownKind, requestKindByte, List.getElem?_cons_succ, List.getElem?_cons_zero, Bool.or_eq_true, decide_eq_true_eq] at h
    simp only [decodeRequest, requestOf_unknown h, Option.getD_none]

/-! ### Commands -/

theorem decodeClass_unknown (rx : Rx) {cls : Byte} (p : List Byte) (h : unknownClassCode cls = true) : decodeClass rx cls p = .unknownClass rx cls p := by
  simp only [unknownClassCode, Bool.or_eq_true, decide_eq_true_eq] at h
  unfold decodeClass
  split
  case h_8 => rfl
  all_goals omega

/-- A well-formed command on the line is a request of a known kind, or its class code and its payload alone give it back (Tables 12-1 and 12-4). -/
theorem request_or_decodeClass {i : Instr} {rx : Rx} {cls : Byte} {p : List Byte} (hw : i.wellFormed = true) (h : i.lineParts = some (rx, cls, p)) :
    (∃ num kind args, cls = 6 ∧ p = toBE 2 (BitVec.toNat num) ++ kind :: args ∧ argsOk args = true ∧ requestOf rx num args kind.toNat = some i) ∨
      (payloadOk p = true ∧ decodeClass rx cls p = i) := by
  cases i with
  | unknownClass r c q =>
    simp only [Instr.lineParts, Option.some.injEq, Prod.mk.injEq] at h
    obtain ⟨rfl, rfl, rfl⟩ := h
    obtain ⟨hunknown, hlength⟩ := Bool.and_eq_true_iff.1 hw
    exact .inr ⟨hlength, decodeClass_unknown _ _ hunknown⟩
  | unknownRequestKind r q =>
    simp only [Instr.lineParts, Option.some.injEq, Prod.mk.injEq] at h
    obtain ⟨rfl, rfl, rfl⟩ := h
    obtain ⟨hunknown, hlength⟩ := Bool.and_eq_true_iff.1 hw
    exact .inr ⟨hlength, decodeRequest_unknown _ hunknown⟩
  | claim r q | object r q | release r q | share r q | event r q | response r q =>
    simp only [Instr.lineParts, Option.some.injEq, Prod.mk.injEq] at h
    obtain ⟨rfl, rfl, rfl⟩ := h
    exact .inr ⟨hw, rfl⟩
  | configure r n a | time r n a | tariff r n a | admitHome r n a | withdraw r n a | unbar r n a | retire r n a | pardon r n a | setClass r n a
  | search r n a | abortSearch r n a | stopTree r n a | startTree r n a | queryHome r n a | find r n a | readLists r n a | queryStation r n a
  | collect r n a | releaseRecord r n a =>
    simp only [Instr.lineParts, Option.some.injEq, Prod.mk.injEq] at h
    obtain ⟨rfl, rfl, rfl⟩ := h
    exact .inl ⟨n, _, a, rfl, rfl, hw, rfl⟩
  | _ => simp [Instr.lineParts] at h

/-- Table 12-1: the payload of a well-formed command holds 96 bytes at most. -/
theorem payload_length_of_wellFormed {i : Instr} {rx : Rx} {cls : Byte} {p : List Byte} (hw : i.wellFormed = true)
    (h : i.lineParts = some (rx, cls, p)) : p.length ≤ 96 := by
  obtain ⟨num, kind, args, -, rfl, hargs, -⟩ | ⟨hp, -⟩ := request_or_decodeClass hw h
  · have hlength : args.length ≤ 93 := of_decide_eq_true hargs
    rw [List.length_append, toBE_length, List.length_cons]
    omega
  · exact of_decide_eq_true hp

/-- R170, R171: the class code and the payload of a well-formed command give the command. -/
theorem decodeClass_lineParts {i : Instr} {rx : Rx} {cls : Byte} {p : List Byte} (hw : i.wellFormed = true) (h : i.lineParts = some (rx, cls, p)) :
    decodeClass rx cls p = i := by
  obtain ⟨num, kind, args, rfl, rfl, -, hi⟩ | ⟨-, hi⟩ := request_or_decodeClass hw h
  · exact (decodeRequest_payload rx num kind args).trans (by rw [hi, Option.getD_some])
  · exact hi

/-- Settles O4: the receiver finds the header and the payload that were laid out, and they give the command. -/
theorem lineFramesRoundTrip : Obligations.LineFramesRoundTrip := by
  intro i bytes hw hb
  obtain ⟨⟨rx, cls, p⟩, hparts, rfl⟩ := Option.map_eq_some_iff.1 hb
  rw [decodeLine, lineFrame_frameBytes rx cls (payload_length_of_wellFormed hw hparts)]
  exact decodeClass_lineParts hw hparts

end Sys2Proof
end

section
/-! SUPPORT. Frames that are discarded (R170, R171), requests refused before their owning block reads them (R172, R173, R176), and CONFIGURE (R178, R179). -/

namespace Sys2Proof.Machine

/-! ### Discarded frames -/

theorem State.receivePeer_unheard {s : State} {rx : Rx} (f : State → State) (h : s.hears rx = false) : s.receivePeer rx f = s := State.receive_unheard _ h

theorem State.request_unheard {s : State} {rx : Rx} (num : BitVec 16) (kind : Byte) (top : Nat) (b : Bool) (act : State → State)
    (h : s.hears rx = false) : s.request rx num kind top b act = s := State.receive_unheard _ h

/-- R170, checks 4 and 5: a frame of the own number or for another station changes nothing. -/
theorem exec_unheard {s : State} {i : Instr} {rx : Rx} {cls : Byte} {p : List Byte} (hi : i.lineParts = some (rx, cls, p)) (h : s.hears rx = false) :
    exec i s = .next s.begin := by
  have hb : s.begin.hears rx = false := h
  cases i with
  | claim r q | object r q | release r q =>
    obtain ⟨rfl, -, -⟩ : r = rx ∧ _ := by simpa only [Instr.lineParts, Option.some.injEq, Prod.mk.injEq] using hi
    exact congrArg Host.Outcome.next (State.receivePeer_unheard _ hb)
  | share r q | event r q | response r q | configure r n a =>
    obtain ⟨rfl, -, -⟩ : r = rx ∧ _ := by simpa only [Instr.lineParts, Option.some.injEq, Prod.mk.injEq] using hi
    exact congrArg Host.Outcome.next (State.receive_unheard _ hb)
  | time r n a | tariff r n a | admitHome r n a | withdraw r n a | unbar r n a | retire r n a | pardon r n a | setClass r n a | search r n a
  | abortSearch r n a | stopTree r n a | startTree r n a | queryHome r n a | find r n a | readLists r n a | queryStation r n a | collect r n a
  | releaseRecord r n a =>
    obtain ⟨rfl, -, -⟩ : r = rx ∧ _ := by simpa only [Instr.lineParts, Option.some.injEq, Prod.mk.injEq] using hi
    exact congrArg Host.Outcome.next (State.request_unheard _ _ _ _ _ hb)
  | unknownClass r c q =>
    obtain ⟨rfl, -, -⟩ : r = rx ∧ _ := by simpa only [Instr.lineParts, Option.some.injEq, Prod.mk.injEq] using hi
    exact congrArg Host.Outcome.next (if_neg (by simp [hb]))
  | unknownRequestKind r q =>
    obtain ⟨rfl, -, -⟩ : r = rx ∧ _ := by simpa only [Instr.lineParts, Option.some.injEq, Prod.mk.injEq] using hi
    exact congrArg Host.Outcome.next ((if_congr Iff.rfl (State.receive_unheard _ hb) rfl).trans (ite_self _))
  | _ => simp [Instr.lineParts] at hi

theorem unknownClassCode_iff (cls : Byte) : unknownClassCode cls = true ↔ cls = 0 ∨ 8 ≤ cls.toNat := by
  have hzero : cls.toNat = 0 ↔ cls = 0 := ⟨fun e => BitVec.eq_of_toNat_eq e, fun e => by rw [e]; rfl⟩
  rw [unknownClassCode, Bool.or_eq_true, decide_eq_true_eq, decide_eq_true_eq, hzero]
  rfl

/-- Settles O24: the counters rise where the frame is heard, and a frame not heard passes unseen. -/
theorem discardedFrames : Obligations.DiscardedFrames := by
  intro s
  refine ⟨fun bytes hb => ?_, fun rx cls p hsrc hdest => ?_, fun rx i cls p hi h => exec_unheard hi ((s.hears_false_iff rx).2 h)⟩
  · have hx : exec (.badFrame bytes) s = .next (match lineFrame bytes with
        | none => s.begin.onLink fun l => { l with badFrames := bump l.badFrames }
        | some _ => s.begin) := rfl
    rw [hx, hb]
    rfl
  · have hears : s.begin.hears rx = true := (s.hears_iff rx).2 ⟨hsrc, hdest⟩
    exact ⟨congrArg Host.Outcome.next (State.receive_heard _ hears), congrArg Host.Outcome.next (State.receive_heard _ hears), fun hcls =>
      congrArg Host.Outcome.next (if_pos (Bool.and_eq_true_iff.2 ⟨hears, (unknownClassCode_iff cls).2 hcls⟩))⟩

/-! ### Requests of a known kind and of an unknown one -/

/-- The highest rank value a kind takes (Table 10-2). -/
def topRank (kind : Nat) : Nat := if kind ≤ 13 then 0 else 1

/-- A request of a known kind other than CONFIGURE goes through the checks of R171 to R173 with the rank of Table 10-2. -/
theorem exec_request {rx : Rx} {num : BitVec 16} {args : List Byte} {kind : Byte} {i : Instr} (hi : requestOf rx num args kind.toNat = some i)
    (hlo : 2 ≤ kind.toNat) (hhi : kind.toNat ≤ 19) :
    ∃ act, ∀ s, exec i s = .next (s.begin.request rx num kind (topRank kind.toNat) (decide (14 ≤ kind.toNat)) act) := by
  have hkind : kind = BitVec.ofNat 8 kind.toNat := by simp
  generalize kind.toNat = k at hi hlo hhi hkind
  subst hkind
  interval_cases k <;> (obtain rfl := Option.some.inj hi; exact ⟨_, fun _ => rfl⟩)

/-- 12.3: a payload with a kind code outside 1 to 19 is a request of an unknown kind. -/
theorem unknownKind_of_byte (num : BitVec 16) {kind : Byte} (args : List Byte) (h : kind.toNat = 0 ∨ 19 < kind.toNat) :
    Sys2Proof.unknownKind (toBE 2 num.toNat ++ kind :: args) = true := by
  simpa [Sys2Proof.unknownKind, requestKindByte, toBE] using h

theorem requestNumber_payload (num : BitVec 16) (kind : Byte) (args : List Byte) : requestNumber (toBE 2 num.toNat ++ kind :: args) = num := by
  have hn := num.isLt
  refine BitVec.eq_of_toNat_eq ?_
  simp only [requestNumber, field, toBE, List.cons_append, List.nil_append, List.length_cons, List.drop_zero, List.take_succ_cons, List.take_zero, beNat,
    List.foldl_cons, List.foldl_nil]
  rw [if_neg (by omega)]
  simp only [BitVec.toNat_ofNat]
  omega

theorem echoedKind_payload (num : BitVec 16) (kind : Byte) (args : List Byte) : echoedKind (toBE 2 num.toNat ++ kind :: args) = kind := rfl

/-- A request of an unknown kind is refused RANGE in RUN; in WAIT_CONFIG it is refused NOT_READY, or discarded when sent to all (R171, R172). -/
theorem exec_unknownRequestKind {s : State} {rx : Rx} {num : BitVec 16} {kind : Byte} {args : List Byte} (hk : kind.toNat = 0 ∨ 19 < kind.toNat)
    (hh : s.hears rx = true) :
    exec (.unknownRequestKind rx (toBE 2 num.toNat ++ kind :: args)) s =
      .next (if s.inRun then s.heard.conclude rx num kind (s.heard.refuse .range)
        else if s.addressed rx then s.heard.conclude rx num kind (s.heard.refuse .notReady) else s.heard) := by
  have hx : s.begin.receive rx (fun v => v.unknownKind rx (toBE 2 num.toNat ++ kind :: args)) =
      s.heard.unknownKind rx (toBE 2 num.toNat ++ kind :: args) := State.receive_heard (s := s.begin) _ hh
  refine congrArg Host.Outcome.next ((if_pos (unknownKind_of_byte num args hk)).trans (hx.trans ?_))
  rw [State.unknownKind, requestNumber_payload, echoedKind_payload]
  rfl

/-- A well-formed request is of a kind 1 to 19, and then the command that the kind names, or an UNKNOWN_REQUEST_KIND (12.3). -/
theorem request_cases {i : Instr} {rx : Rx} {num : BitVec 16} {kind : Byte} {args : List Byte} (hw : i.wellFormed = true)
    (h : i.lineParts = some (rx, 6, toBE 2 num.toNat ++ kind :: args)) :
    (1 ≤ kind.toNat ∧ kind.toNat ≤ 19 ∧ requestOf rx num args kind.toNat = some i) ∨
      ((kind.toNat = 0 ∨ 19 < kind.toNat) ∧ i = .unknownRequestKind rx (toBE 2 num.toNat ++ kind :: args)) := by
  by_cases hk : 1 ≤ kind.toNat ∧ kind.toNat ≤ 19
  · obtain ⟨hlo, hhi⟩ := hk
    exact .inl ⟨hlo, hhi, requestOf_of_lineParts hw h hlo hhi⟩
  · have hunknown : kind.toNat = 0 ∨ 19 < kind.toNat := by omega
    have hdecoded := (decodeRequest_payload rx num kind args).symm.trans (decodeClass_lineParts hw h)
    rw [requestOf_unknown hunknown, Option.getD_none] at hdecoded
    exact .inr ⟨hunknown, hdecoded.symm⟩

/-! ### Refusals before the owning block -/

/-- R172: a refusal of an addressed request that finds room for its answer. -/
theorem State.conclude_refusal {s : State} {rx : Rx} (num : BitVec 16) (kind : Byte) {st : Status} (hd : rx.dest = toStation s.own)
    (hroom : s.link.roomFor false = true) (hr : refuses kind st = true) :
    s.heard.conclude rx num kind (s.heard.refuse st) =
      { s with link := s.link.received.refused.take (responseFrame rx.src num kind st []), out := [] } :=
  State.conclude_refused (s := s.heard) (a := s.heard.refuse st) hr ((s.addressed_iff rx).2 hd) hroom

/-- Settles O25: the configuration that is missing decides before the kind is looked at. -/
theorem notReadyWhileWaiting : Obligations.NotReadyWhileWaiting := by
  intro s i rx num kind args hw hi hone hc hsrc
  have waits : s.hears rx = true → exec i s =
      .next (if s.addressed rx then s.heard.conclude rx num kind (s.heard.refuse .notReady) else s.heard) := fun hh => by
    obtain ⟨hlo, hhi, hi⟩ | ⟨hk, rfl⟩ := request_cases hw hi
    · have htwo : 2 ≤ kind.toNat := Nat.lt_of_le_of_ne hlo fun e => hone (BitVec.eq_of_toNat_eq e.symm)
      obtain ⟨act, hact⟩ := exec_request hi htwo hhi
      rw [hact, State.request_waiting (s := s.begin) _ _ _ _ _ hc hh]
      rfl
    · have hrun : s.inRun = false := by rw [State.inRun, hc]; rfl
      rw [exec_unknownRequestKind hk hh, hrun]
      rfl
  refine ⟨fun hd hroom => ?_, fun hd => ?_⟩
  · rw [waits ((s.hears_iff rx).2 ⟨hsrc, .inl hd⟩), (s.addressed_iff rx).2 hd, if_pos rfl, State.conclude_refusal num kind hd hroom rfl]
  · rw [waits ((s.hears_iff rx).2 ⟨hsrc, .inr hd⟩), State.not_addressed_of_all hd]
    rfl

/-- Settles O26: the rank is checked before the owning block acts, and no rank is asked of an unknown kind. -/
theorem rankAndUnreadRequests : Obligations.RankAndUnreadRequests := by
  refine ⟨fun s c i rx num kind args hw hi hlo hhi hc hsrc => ?_, fun s c rx num kind args hk hc hsrc => ?_⟩
  · obtain ⟨act, hact⟩ := exec_request (requestOf_of_lineParts hw hi (by omega) hhi) hlo hhi
    refine ⟨fun hd hroom hrank => ?_, fun hd hkind => ?_⟩
    · rw [hact, State.request_rank (s := s.begin) (top := topRank kind.toNat) num kind _ act hc ⟨hd, hsrc⟩ hrank]
      exact congrArg Host.Outcome.next (State.conclude_refusal num kind hd hroom rfl)
    · rw [hact, decide_eq_true hkind, State.request_unread (s := s.begin) num kind act hc hsrc hd]
      rfl
  · have hcode : kind.toNat = 0 ∨ 19 < kind.toNat := hk.imp_left fun e => by rw [e]; rfl
    have hrun : s.inRun = true := by rw [State.inRun, hc]; rfl
    refine ⟨fun hd hroom => ?_, fun hd => ?_⟩
    · rw [exec_unknownRequestKind hcode ((s.hears_iff rx).2 ⟨hsrc, .inl hd⟩), if_pos hrun, State.conclude_refusal num kind hd hroom rfl]
    · rw [exec_unknownRequestKind hcode ((s.hears_iff rx).2 ⟨hsrc, .inr hd⟩), if_pos hrun, State.conclude,
        show s.heard.addressed rx = false from State.not_addressed_of_all hd]
      rfl

/-! ### CONFIGURE -/

theorem foldl_onTree_frame (f : TreeLine → TreeLine) (xs : List Tree) (s : State) :
    xs.foldl (fun v t => v.onTree t f) s = { s with trees := (xs.foldl (fun v t => v.onTree t f) s).trees } :=
  foldl_keeps (A := fun v : State => v = { s with trees := v.trees }) (fun v t hv => by rw [hv]; rfl) xs rfl

/-- Each tree of a list without repetitions is changed once. -/
theorem foldl_onTree_tree (f : TreeLine → TreeLine) {xs : List Tree} (hn : xs.Nodup) (s : State) (t : Tree) :
    (xs.foldl (fun v t => v.onTree t f) s).tree t = if t ∈ xs then f (s.tree t) else s.tree t := by
  induction xs generalizing s with
  | nil => rfl
  | cons u us ih =>
    obtain ⟨hu, hus⟩ := List.nodup_cons.1 hn
    rw [List.foldl_cons, ih hus, State.onTree_tree]
    by_cases e : t = u
    · rw [e, if_neg hu, if_pos rfl, if_pos List.mem_cons_self]
    · simp only [e, if_false, List.mem_cons, false_or]

/-- R179: what an applied configuration writes. -/
theorem State.applyConfig_frame (s : State) (c : Config) :
    s.applyConfig c = { s with config := some c, share := s.share.purge c.ranks, cal := { s.cal with closeTime := c.close }
                               trees := (s.applyConfig c).trees } :=
  foldl_onTree_frame (fun x => x.start c) _ _

/-- R24, R43: an enabled tree runs with its discovery due. -/
theorem State.applyConfig_tree (s : State) (c : Config) (t : Tree) :
    (s.applyConfig c).tree t = if c.enable.get t.idx then { s.tree t with running := true, discovery := c.discovery } else s.tree t := by
  have hnodup : Tree.all.Nodup := by decide
  have hall : t ∈ Tree.all := by cases t <;> decide
  refine (foldl_onTree_tree (fun x => x.start c) (hnodup.filter _) _ t).trans (if_congr ?_ rfl rfl)
  rw [List.mem_filter, and_iff_right hall]

theorem State.configure_applied {s : State} {c : Config} {rx : Rx} {args : List Byte} (hc : s.config = none) (hm : rx.src = s.mgt)
    (hargs : configArgs args s.mgt = some c) : s.configure rx args = ⟨s.applyConfig c, .ok, configBytes c⟩ := by
  have hwait : s.inRun = false := by rw [State.inRun, hc]; rfl
  rw [State.configure, if_neg (not_not.2 hm), State.ranged_some _ hargs, hwait]
  rfl

theorem State.configure_range {s : State} {rx : Rx} {args : List Byte} (hm : rx.src = s.mgt) (hargs : configArgs args s.mgt = none) :
    s.configure rx args = s.refuse .range := by
  rw [State.configure, if_neg (not_not.2 hm), State.ranged_none _ hargs]

theorem exec_configure {s : State} {rx : Rx} {num : BitVec 16} {args : List Byte} (hm : s.toMe rx) :
    exec (.configure rx num args) s = .next (s.heard.conclude rx num 1 (s.heard.configure rx args)) :=
  congrArg Host.Outcome.next (State.receive_heard (s := s.begin) _ hm.hears)

/-- Settles O27: the source, the ranges and the start-up state decide in this order, and what is applied is answered. -/
theorem configureApplied : Obligations.ConfigureApplied := by
  intro s rx num args hm hc hroom
  have hd : s.heard.addressed rx = true := (s.addressed_iff rx).2 hm.1
  refine ⟨fun c hsrc hargs => ?_, fun hsrc hargs => ?_, fun hsrc => ?_⟩
  · have hblock := State.configure_applied (s := s.heard) hc hsrc hargs
    have hlink : (s.heard.applyConfig c).link = s.link.received := s.heard.applyConfig_link c
    have hshare : (s.heard.applyConfig c).share = s.share.purge c.ranks := by rw [State.applyConfig_frame]; rfl
    refine ⟨{ s.heard.applyConfig c with link := s.link.answered rx num 1 .ok (configBytes c) }, ?_, ?_, fun t => State.applyConfig_tree s.heard c t, ?_,
      fun j => ?_⟩
    · rw [exec_configure hm, hblock, State.conclude_taken rfl hd (by rw [hlink]; exact hroom), hlink]
      rfl
    · rw [State.applyConfig_frame]
      rfl
    · dsimp only
      rw [hshare]
      rfl
    · dsimp only
      rw [hshare]
      exact ShareState.purge_peers s.share c.ranks j
  · have hblock := State.configure_range (s := s.heard) hsrc hargs
    rw [exec_configure hm, hblock, State.conclude_refusal num 1 hm.1 hroom rfl]
  · have hblock : s.heard.configure rx args = s.heard.refuse .rank := if_pos hsrc
    rw [exec_configure hm, hblock, State.conclude_refusal num 1 hm.1 hroom rfl]

end Sys2Proof.Machine
end

section
/-! SUPPORT. Requests that find no room for their RESPONSE (R168, R173): an owning block does not look at the link controller, so that it acts alike whether the answer finds room or not. -/

namespace Sys2Proof.Machine

/-! ### Operations that do not look at the link controller -/

/-- The part with another state of the link controller. -/
def State.withLink (s : State) (l : Link) : State := { s with link := l }

section Operations

variable (s : State) (l : Link)

@[simp] theorem State.withLink_home (h : HomeIndex) : (s.withLink l).home h = s.home h := rfl
@[simp] theorem State.withLink_tree (t : Tree) : (s.withLink l).tree t = s.tree t := rfl
@[simp] theorem State.setHome_withLink (h : HomeIndex) (x : Home) : (s.withLink l).setHome h x = (s.setHome h x).withLink l := rfl
@[simp] theorem State.onHome_withLink (h : HomeIndex) (f : Home → Home) : (s.withLink l).onHome h f = (s.onHome h f).withLink l := rfl
@[simp] theorem State.mapHomes_withLink (f : HomeIndex → Home → Home) : (s.withLink l).mapHomes f = (s.mapHomes f).withLink l := rfl
@[simp] theorem State.onTree_withLink (t : Tree) (f : TreeLine → TreeLine) : (s.withLink l).onTree t f = (s.onTree t f).withLink l := rfl
@[simp] theorem State.offerCtl_withLink (t : Tree) (m : CtlMsg) : (s.withLink l).offerCtl t m = (s.offerCtl t m).withLink l := rfl
@[simp] theorem State.leaveForwardList_withLink (h : HomeIndex) : (s.withLink l).leaveForwardList h = (s.leaveForwardList h).withLink l := rfl

theorem State.event_withLink (e : EventKind) : (s.withLink l).event e = (s.event e).withLink (l.offerUrgent ⟨toAll, .event e, false⟩) := rfl

theorem foldl_withLink {α : Type} {f : State → α → State} (hf : ∀ s l a, f (s.withLink l) a = (f s a).withLink l) (xs : List α) (s : State) (l : Link) :
    xs.foldl f (s.withLink l) = (xs.foldl f s).withLink l := by
  induction xs generalizing s with
  | nil => rfl
  | cons a xs ih => rw [List.foldl_cons, hf, ih, List.foldl_cons]

theorem State.ite_withLink {P Q : Prop} [Decidable P] [Decidable Q] (h : P ↔ Q) {a a' b b' : State} (ha : a' = a.withLink l) (hb : b' = b.withLink l) :
    (if P then a' else b') = (if Q then a else b).withLink l := by
  rw [if_congr h ha hb]
  split <;> rfl

@[simp] theorem State.leavePool_withLink (x : Home) : (s.withLink l).leavePool x = (s.leavePool x).withLink l := by
  unfold State.leavePool
  split
  · split <;> rfl
  · rfl

@[simp] theorem State.drainTag_withLink (x : Home) : (s.withLink l).drainTag x = (s.drainTag x).withLink l := by
  unfold State.drainTag
  split <;> rfl

@[simp] theorem State.leaveIsolated_withLink (x : Home) : (s.withLink l).leaveIsolated x = (s.leaveIsolated x).withLink l := by
  unfold State.leaveIsolated
  split
  · split <;> rfl
  · rfl

@[simp] theorem State.wakeWalk_withLink : (s.withLink l).wakeWalk = s.wakeWalk.withLink l := by
  rw [State.wakeWalk_eq, State.wakeWalk_eq]
  rfl

theorem State.freeEntry_withLink (h : HomeIndex) : (s.withLink l).freeEntry h = (s.freeEntry h).withLink l := by
  simp [State.freeEntry]

theorem State.closeEntry_withLink (h : HomeIndex) (r : LeaveReason) (f : Option Station) :
    (s.withLink l).closeEntry h r f = (s.closeEntry h r f).withLink l := by
  simp [State.closeEntry]

theorem State.pardonHome_withLink (h : HomeIndex) : (s.withLink l).pardonHome h = (s.pardonHome h).withLink l := by
  simp only [State.pardonHome, State.withLink_home, State.leaveIsolated_withLink]
  split <;> rfl

theorem State.writeClass_withLink (h : HomeIndex) (g p : Nat) : (s.withLink l).writeClass h g p = (s.writeClass h g p).withLink l := by
  simp only [State.writeClass, State.withLink_home]
  split <;> rfl

theorem State.commandCandidate_withLink (t : Tree) (target : List Nat) (place : Candidate × Nat) :
    (s.withLink l).commandCandidate t target place = (s.commandCandidate t target place).withLink l := by
  unfold State.commandCandidate
  refine State.ite_withLink l Iff.rfl ?_ rfl
  simp only [State.withLink_home]
  split
  · rfl
  · exact State.ite_withLink l Iff.rfl rfl (State.ite_withLink l Iff.rfl rfl rfl)

theorem State.setupProbe_withLink (t : Tree) (step : SearchStep) (first count : Nat) :
    (s.withLink l).setupProbe t step first count = (s.setupProbe t step first count).withLink l := by
  simp only [State.setupProbe, State.onSearch, State.onTree_withLink, State.withLink_tree]
  exact foldl_withLink (fun u l p => u.commandCandidate_withLink l t _ p) _ _ l

theorem State.insertRanked_withLink (a : HomeIndex) (xs : List HomeIndex) : (s.withLink l).insertRanked a xs = s.insertRanked a xs := by
  induction xs with
  | nil => rfl
  | cons b bs ih => exact if_congr Iff.rfl rfl (congrArg (b :: ·) ih)

theorem State.candidatesOf_withLink (t : Tree) : (s.withLink l).candidatesOf t = s.candidatesOf t := by
  have hrank : (s.withLink l).insertRanked = s.insertRanked := funext fun a => funext fun xs => s.insertRanked_withLink l a xs
  simp only [State.candidatesOf, State.withLink_home, hrank]

theorem State.startSearch_withLink (t : Tree) (c : SearchCause) : (s.withLink l).startSearch t c = (s.startSearch t c).withLink l := by
  simp only [State.startSearch, State.candidatesOf_withLink, State.onTree_withLink, State.setupProbe_withLink]

theorem State.endSilence_withLink (t : Tree) (h : HomeIndex) : State.endSilence t (s.withLink l) h = (State.endSilence t s h).withLink l := by
  unfold State.endSilence
  refine State.ite_withLink l Iff.rfl ?_ rfl
  simp only [State.withLink_home]
  split <;> rfl

/-- R134: the end of a search offers its SEARCH_END, whatever the link controller holds. -/
theorem State.endSearch_withLink (t : Tree) (o : SearchOutcome) (r : SearchReason) :
    ∃ l', (s.withLink l).endSearch t o r = (s.endSearch t o r).withLink l' := by
  have hsilent := foldl_withLink (fun u l h => u.endSilence_withLink l t h) homeIndexes
  simp only [State.endSearch, State.withLink_tree, State.onTree_withLink, hsilent, State.event_withLink]
  exact ⟨_, rfl⟩

theorem State.stopTree_withLink (t : Tree) : ∃ l', (s.withLink l).stopTree t = (s.stopTree t).withLink l' := by
  have hended : ∃ l', (if ((s.withLink l).tree t).search.running then (s.withLink l).endSearch t .aborted .stop else s.withLink l) =
      (if (s.tree t).search.running then s.endSearch t .aborted .stop else s).withLink l' := by
    rw [State.withLink_tree]
    split
    · exact s.endSearch_withLink l t .aborted .stop
    · exact ⟨l, rfl⟩
  obtain ⟨l', h⟩ := hended
  exact ⟨l', by simp only [State.stopTree, h, State.onTree_withLink, State.mapHomes_withLink]⟩

theorem State.assignAgain_withLink (t : Tree) (h : HomeIndex) : State.assignAgain t (s.withLink l) h = (State.assignAgain t s h).withLink l := by
  unfold State.assignAgain
  refine State.ite_withLink l Iff.rfl ?_ rfl
  simp only [State.withLink_home]
  split
  · exact State.ite_withLink l Iff.rfl rfl rfl
  · rfl

theorem State.laserOffAgain_withLink (t : Tree) (h : HomeIndex) : State.laserOffAgain t (s.withLink l) h = (State.laserOffAgain t s h).withLink l := by
  unfold State.laserOffAgain
  refine State.ite_withLink l Iff.rfl ?_ rfl
  simp only [State.withLink_home]
  split <;> rfl

theorem State.startTree_withLink (c : Config) (t : Tree) : (s.withLink l).startTree c t = (s.startTree c t).withLink l := by
  have hassigned := foldl_withLink (fun u l h => u.assignAgain_withLink l t h) homeIndexes
  have hsilenced := foldl_withLink (fun u l h => u.laserOffAgain_withLink l t h) homeIndexes
  simp only [State.startTree, State.onTree_withLink, State.mapHomes_withLink, hassigned, hsilenced]

theorem State.applyConfig_withLink (c : Config) : (s.withLink l).applyConfig c = (s.applyConfig c).withLink l :=
  foldl_withLink (f := fun v t => v.onTree t fun x => x.start c) (fun u l t => u.onTree_withLink l t _) _
    { s with config := some c, share := s.share.purge c.ranks, cal := { s.cal with closeTime := c.close } } l

theorem State.applyTime_withLink (m : Moment) (w : Nat) : (s.withLink l).applyTime m w = (s.applyTime m w).withLink l := by
  have hc : (s.withLink l).cal = s.cal := rfl
  simp only [State.applyTime, hc]
  split <;> rfl

end Operations

/-! ### Blocks that do not look at the link controller -/

/-- What an owning block makes of two parts that differ in the link controller alone: the same status, and states that differ there alone. -/
def Answer.SameAct (a b : Answer) : Prop := b.status = a.status ∧ ∃ l, b.state = a.state.withLink l

/-- An owning block that does not look at the link controller, and speaks through it once at most. -/
structure Blind (f : State → Answer) : Prop where
  sameAct : ∀ s l, (f s).SameAct (f (s.withLink l))
  speaks : ∀ s : State, s.Speaks (f s).state

theorem Answer.SameAct.refuse (s : State) (l : Link) (st : Status) : (s.refuse st).SameAct ((s.withLink l).refuse st) := ⟨rfl, l, rfl⟩

theorem Answer.SameAct.accept {s s' : State} (h : ∃ l, s' = s.withLink l) : s.accept.SameAct s'.accept := ⟨rfl, h⟩

theorem Answer.SameAct.ite {P Q : Prop} [Decidable P] [Decidable Q] (h : P ↔ Q) {a a' b b' : Answer} (ha : a.SameAct a') (hb : b.SameAct b') :
    (if P then a else b).SameAct (if Q then a' else b') := by
  rw [← if_congr h rfl rfl]
  split
  · exact ha
  · exact hb

theorem Answer.SameAct.ranged {α : Type} {s : State} {l : Link} {read : Option α} {f g : α → Answer} (h : ∀ x, (f x).SameAct (g x)) :
    (s.ranged read f).SameAct ((s.withLink l).ranged read g) := by
  cases read with
  | none => exact .refuse s l .range
  | some x => exact h x

section Blocks

variable (s : State) (l : Link)

theorem State.configure_sameAct (rx : Rx) (args : List Byte) : (s.configure rx args).SameAct ((s.withLink l).configure rx args) :=
  .ite .rfl (.refuse s l _) (.ranged fun c => .ite .rfl (.refuse s l _) ⟨rfl, l, s.applyConfig_withLink l c⟩)

theorem State.takeAdmission_sameAct (rx : Rx) (a : Admission) : (s.takeAdmission rx a).SameAct ((s.withLink l).takeAdmission rx a) := by
  have he : (s.withLink l).enrol = s.enrol := rfl
  have hd : (s.withLink l).addressed rx = s.addressed rx := rfl
  simp only [State.takeAdmission, he, hd]
  split
  · exact .accept ⟨l, rfl⟩
  · exact .ite .rfl (.refuse s l _) (.accept ⟨l, rfl⟩)

theorem State.retire_sameAct (h : HomeIndex) : (s.retire h).SameAct ((s.withLink l).retire h) := by
  simp only [State.retire, State.withLink_home]
  split
  case h_2 => exact .accept ⟨l, s.freeEntry_withLink l h⟩
  case h_6 | h_7 | h_8 | h_9 => exact .accept ⟨l, s.closeEntry_withLink l h _ _⟩
  all_goals exact .refuse s l _

theorem State.pardon_sameAct (h : HomeIndex) : (s.pardon h).SameAct ((s.withLink l).pardon h) := by
  simp only [State.pardon, State.withLink_home]
  split
  case h_2 => exact ⟨rfl, l, rfl⟩
  case h_9 => exact .accept ⟨l, s.pardonHome_withLink l h⟩
  all_goals exact .refuse s l _

theorem State.setClass_sameAct (h : HomeIndex) (g p : Nat) : (s.setClass h g p).SameAct ((s.withLink l).setClass h g p) := by
  have hpool : (s.withLink l).poolWith (s.home h) g = s.poolWith (s.home h) g := rfl
  simp only [State.setClass, State.withLink_home, hpool]
  split
  case h_2 => exact ⟨rfl, l, rfl⟩
  case h_6 | h_7 | h_8 | h_9 => exact .ite .rfl (.refuse s l _) ⟨rfl, l, s.writeClass_withLink l h g p⟩
  all_goals exact .refuse s l _

theorem State.searchRequest_sameAct (t : Tree) : (s.searchRequest t).SameAct ((s.withLink l).searchRequest t) := by
  simp only [State.searchRequest, State.withLink_tree, State.startSearch_withLink]
  exact .ite .rfl (.refuse s l _) (.ite .rfl (.refuse s l _) ⟨rfl, l, rfl⟩)

theorem State.abortRequest_sameAct (t : Tree) : (s.abortRequest t).SameAct ((s.withLink l).abortRequest t) :=
  .ite .rfl (.refuse s l _) ⟨rfl, s.endSearch_withLink l t _ _⟩

theorem State.stopRequest_sameAct (t : Tree) : (s.stopRequest t).SameAct ((s.withLink l).stopRequest t) := by
  unfold State.stopRequest
  exact .ite .rfl (.accept (s.stopTree_withLink l t)) (.refuse s l _)

theorem State.startRequest_sameAct (t : Tree) : (s.startRequest t).SameAct ((s.withLink l).startRequest t) := by
  have hc : (s.withLink l).config = s.config := rfl
  simp only [State.startRequest, hc, State.withLink_tree]
  split
  · exact .refuse s l _
  · exact .ite .rfl (.refuse s l _) (.accept ⟨l, s.startTree_withLink l _ t⟩)

theorem State.queryHome_sameAct (h : HomeIndex) : (s.queryHome h).SameAct ((s.withLink l).queryHome h) := by
  simp only [State.queryHome, State.withLink_home]
  split <;> exact ⟨rfl, l, rfl⟩

theorem State.releaseRecord_sameAct (n : BitVec 16) : (s.releaseRecord n).SameAct ((s.withLink l).releaseRecord n) := by
  have hm : (s.withLink l).meter = s.meter := rfl
  simp only [State.releaseRecord, hm]
  split
  · exact .refuse s l _
  · refine .ite .rfl ⟨rfl, l, ?_⟩ ⟨rfl, l, rfl⟩
    dsimp only
    rw [State.dropHead_eq, State.dropHead_eq]
    rfl

end Blocks

/-- The owning blocks of the kinds 1 to 13 are blind to the link controller. -/
theorem owningBlock_blind (k : Nat) (rx : Rx) (args : List Byte) : Blind (owningBlock k rx args) := by
  refine ⟨fun s l => ?_, owningBlock_speaks k rx args⟩
  unfold owningBlock
  split
  case h_1 => exact s.configure_sameAct l rx args
  case h_14 => exact .accept ⟨l, rfl⟩
  all_goals refine .ranged fun x => ?_
  case h_2 => exact ⟨rfl, l, s.applyTime_withLink l _ _⟩
  case h_3 => exact .accept ⟨l, rfl⟩
  case h_4 => exact s.takeAdmission_sameAct l rx x
  case h_5 | h_6 => exact .ite .rfl (.accept ⟨l, rfl⟩) (.refuse s l _)
  case h_7 => exact s.retire_sameAct l x
  case h_8 => exact s.pardon_sameAct l x
  case h_9 => exact s.setClass_sameAct l _ _ _
  case h_10 => exact s.searchRequest_sameAct l x
  case h_11 => exact s.abortRequest_sameAct l x
  case h_12 => exact s.stopRequest_sameAct l x
  case h_13 => exact s.startRequest_sameAct l x

theorem Blind.refuse (st : Status) : Blind fun s => s.refuse st := ⟨fun s l => .refuse s l st, fun _ => .silent rfl⟩

/-- What the owning block makes of a request of the kinds 14, 16, 17 and 19, whose effect is the answer (R173). -/
def answerBlock (kind : Nat) (args : List Byte) (s : State) : Answer :=
  match kind with
  | 14 => s.ranged (homeArg args) s.queryHome
  | 16 => s.ranged (readListsArgs args) fun (list, start) => ⟨s, .ok, listBody s.enrol list start⟩
  | 17 => s.ranged (queryStationArgs args) fun (part, index) =>
      match s.config with
      | none => s.refuse .notReady
      | some c => ⟨s, .ok, s.part c part index⟩
  | 19 => s.ranged (recordArg args) s.releaseRecord
  | _ => s.accept

theorem exec_answerOf {rx : Rx} {num : BitVec 16} {args : List Byte} {k : Nat} {i : Instr} (hi : requestOf rx num args k = some i)
    (hk : k = 14 ∨ k = 16 ∨ k = 17 ∨ k = 19) (s : State) :
    exec i s = .next (s.begin.request rx num (BitVec.ofNat 8 k) 1 true (State.answer rx num (BitVec.ofNat 8 k) (answerBlock k args))) := by
  obtain rfl | rfl | rfl | rfl := hk <;> (obtain rfl := Option.some.inj hi; rfl)

theorem State.Speaks.queryHome (s : State) (h : HomeIndex) : s.Speaks (s.queryHome h).state := by
  unfold State.queryHome
  split <;> exact .silent rfl

theorem State.Speaks.releaseRecord (s : State) (n : BitVec 16) : s.Speaks (s.releaseRecord n).state := by
  unfold State.releaseRecord
  split
  · exact .silent rfl
  · split
    · rw [State.dropHead_eq]
      exact .silent rfl
    · exact .silent rfl

/-- The owning blocks of the kinds 14, 16, 17 and 19 are blind to the link controller, the counters that QUERY-STATION reads off it aside. -/
theorem answerBlock_blind (k : Nat) (args : List Byte) : Blind (answerBlock k args) where
  sameAct s l := by
    unfold answerBlock
    split
    case h_1 => exact .ranged fun h => s.queryHome_sameAct l h
    case h_2 => exact .ranged fun _ => ⟨rfl, l, rfl⟩
    case h_3 =>
      have hc : (s.withLink l).config = s.config := rfl
      refine .ranged fun x => ?_
      dsimp only
      rw [hc]
      split <;> exact ⟨rfl, l, rfl⟩
    case h_4 => exact .ranged fun n => s.releaseRecord_sameAct l n
    case h_5 => exact .accept ⟨l, rfl⟩
  speaks s := by
    unfold answerBlock
    split
    case h_1 => exact .ranged (State.Speaks.queryHome s)
    case h_2 => exact .ranged fun _ => .silent rfl
    case h_3 =>
      refine .ranged fun x => ?_
      dsimp only
      split <;> exact .silent rfl
    case h_4 => exact .ranged (State.Speaks.releaseRecord s)
    case h_5 => exact .silent rfl

/-! ### A full transmit queue -/

namespace Link

variable {l : Link}

/-- The counters that a request moves (R170, R172, R168). -/
def requestCounts (l : Link) : Nat × Nat × Nat := (l.framesReceived, l.requestsRefused, l.responsesDropped)

theorem choose_requestCounts (l : Link) : l.choose.requestCounts = l.requestCounts := by
  unfold choose
  split <;> rfl

theorem take_requestCounts (l : Link) (f : Frame) : (l.take f).requestCounts = l.requestCounts := choose_requestCounts _

theorem offerUrgent_requestCounts (l : Link) (f : Frame) : (l.offerUrgent f).requestCounts = l.requestCounts := by
  unfold offerUrgent
  split
  · exact l.take_requestCounts f
  · dsimp only
    split <;> rfl

theorem roomFor_of_frames {l' : Link} (h : l'.frames = l.frames) (u : Bool) : l'.roomFor u = l.roomFor u := by
  unfold roomFor total routine
  rw [h]

theorem roomFor_routine_false : l.roomFor false = false ↔ 12 ≤ l.total ∨ 8 ≤ l.routine := by
  rw [← Bool.not_eq_true, roomFor_routine]
  omega

/-- R168: a frame taken leaves no more room than there was. -/
theorem take_full (h : l.current = none ∨ l.phase ≠ .idle) (hfull : l.roomFor false = false) (f : Frame) : (l.take f).roomFor false = false := by
  have hframes : (l.take f).frames = (l.current.map Prod.fst).toList ++ insertFrame f l.waiting := choose_frames _ h
  rw [roomFor_routine_false] at hfull ⊢
  simp only [total, routine, hframes, List.length_append, List.countP_append, insertFrame_length, insertFrame_countP]
  simp only [total, routine, frames, List.length_append, List.countP_append] at hfull
  omega

theorem offerUrgent_full (h : l.current = none ∨ l.phase ≠ .idle) (hfull : l.roomFor false = false) (f : Frame) :
    (l.offerUrgent f).roomFor false = false := by
  unfold offerUrgent
  split
  · exact take_full h hfull f
  · dsimp only
    split <;> exact hfull

end Link

theorem State.Speaks.requestCounts {s s' : State} (h : s.Speaks s') : s'.link.requestCounts = s.link.requestCounts := by
  obtain h | ⟨e, h⟩ := h
  · rw [h]
  · rw [h, Link.offerUrgent_requestCounts]

theorem State.Speaks.full {s s' : State} (h : s.Speaks s') (hl : s.link.sound) (hfull : s.link.roomFor false = false) : s'.link.roomFor false = false := by
  obtain h | ⟨e, h⟩ := h
  · rw [h]
    exact hfull
  · rw [h]
    exact Link.offerUrgent_full hl.chooses hfull _

/-! ### Answers without room -/

/-- The part with an empty transmit queue. -/
def State.emptied (s : State) : State := s.withLink { s.link with current := none, waiting := [], phase := .idle }

/-- What O33 asks of the outcomes of a request that finds no room and of the same request with an empty queue: alike but for the link controller, the RESPONSE dropped and
counted (R168, R173). -/
def State.Dropped (s s₁ s₂ : State) : Prop :=
  s₁ = { s₂ with link := s₁.link } ∧ s₁.link.responsesDropped = min 65535 (s.link.responsesDropped + 1) ∧
    s₁.link.requestsRefused = s₂.link.requestsRefused ∧ s₁.link.framesReceived = s₂.link.framesReceived ∧ s₁.link.responses = s.link.responses

/-- R168: a RESPONSE that finds no room is dropped and counted. -/
theorem State.respond_full {s : State} (st : Station) (num : BitVec 16) (kind : Byte) (status : Status) (body : List Byte)
    (h : s.link.roomFor false = false) :
    s.respond st num kind status body = s.withLink { s.link with responsesDropped := bump s.link.responsesDropped } := by
  simp only [State.respond, State.onLink, h, Bool.false_eq_true, if_false]
  rfl

/-- What an answer leaves before its RESPONSE is offered: a refusal is counted (R172). -/
def Answer.counted (kind : Byte) (a : Answer) : State :=
  if refuses kind a.status then a.state.onLink fun l => { l with requestsRefused := bump l.requestsRefused } else a.state

theorem State.conclude_addressed {s : State} {rx : Rx} (num : BitVec 16) (kind : Byte) (a : Answer) (hd : s.addressed rx = true) :
    s.conclude rx num kind a = (a.counted kind).respond rx.src num kind a.status a.body := if_pos hd

/-- A refusal that is counted moves no frame and no other counter. -/
theorem Answer.counted_link (kind : Byte) (a : Answer) :
    (a.counted kind).link = if refuses kind a.status then a.state.link.refused else a.state.link := by
  unfold Answer.counted
  split <;> rfl

theorem Answer.counted_frames (kind : Byte) (a : Answer) : (a.counted kind).link.frames = a.state.link.frames := by
  rw [Answer.counted_link]
  split <;> rfl

theorem Answer.counted_requestCounts (kind : Byte) (a : Answer) {r n d : Nat} (h : a.state.link.requestCounts = (r, n, d)) :
    (a.counted kind).link.requestCounts = (r, if refuses kind a.status then bump n else n, d) := by
  obtain ⟨rfl, rfl, rfl⟩ : _ = r ∧ _ = n ∧ _ = d := by simpa [Link.requestCounts] using h
  rw [Answer.counted_link]
  split <;> rfl

/-- A RESPONSE offered to whatever queue moves no other counter of the request. -/
theorem State.respond_counts {s : State} (st : Station) (num : BitVec 16) (kind : Byte) (status : Status) (body : List Byte) :
    (s.respond st num kind status body).link.framesReceived = s.link.framesReceived ∧
      (s.respond st num kind status body).link.requestsRefused = s.link.requestsRefused := by
  unfold State.respond
  rw [State.onLink_link]
  split
  · obtain ⟨hr, hn, -⟩ : _ ∧ _ ∧ _ := by
      simpa only [Link.requestCounts, Prod.mk.injEq] using Link.take_requestCounts s.link ⟨toStation st, .response num kind status 0 body, false⟩
    exact ⟨hr, hn⟩
  · exact ⟨rfl, rfl⟩

theorem Answer.SameAct.counted {kind : Byte} {a b : Answer} (h : a.SameAct b) : ∃ l, b.counted kind = (a.counted kind).withLink l := by
  obtain ⟨hstatus, l, hstate⟩ := h
  unfold Answer.counted
  rw [hstatus, hstate]
  split <;> exact ⟨_, rfl⟩

/-- R168, R173: the answer of a block is dropped and counted, and the block has acted as it does with an empty queue. -/
theorem State.dropped_of_conclude {s : State} {rx : Rx} {num : BitVec 16} {kind : Byte} {a b : Answer} (hm : s.toMe rx) (hl : s.link.sound)
    (hfull : s.link.roomFor false = false) (ha : s.heard.Speaks a.state) (hb : s.emptied.heard.Speaks b.state) (hab : a.SameAct b) :
    s.Dropped (s.heard.conclude rx num kind a) (s.emptied.heard.conclude rx num kind b) := by
  have hd : s.heard.addressed rx = true := (s.addressed_iff rx).2 hm.1
  have hd' : s.emptied.heard.addressed rx = true := hd
  have hcounts := a.counted_requestCounts kind ha.requestCounts
  have hcounts' := b.counted_requestCounts kind hb.requestCounts
  have hnone : (a.counted kind).link.roomFor false = false := by
    have hspoken := ha.full (s := s.heard) hl hfull
    exact (Link.roomFor_of_frames (a.counted_frames kind) false).trans hspoken
  obtain ⟨hreceived, hrefused⟩ := State.respond_counts (s := b.counted kind) rx.src num kind b.status b.body
  obtain ⟨l, hsame⟩ := hab.counted (kind := kind)
  rw [State.conclude_addressed num kind a hd, State.conclude_addressed num kind b hd', State.respond_full _ _ _ _ _ hnone]
  simp only [Link.requestCounts, Prod.mk.injEq] at hcounts hcounts'
  obtain ⟨hr, hn, hdrop⟩ := hcounts
  obtain ⟨hr', hn', -⟩ := hcounts'
  refine ⟨?_, congrArg bump hdrop, ?_, ?_, ?_⟩
  · rw [hsame]
    rfl
  · rw [hrefused, hn', hab.1]
    exact hn
  · rw [hreceived, hr']
    exact hr
  · have hresponses := ha.responses (s := s.heard) hl
    simp only [Link.responses, Link.frames] at hresponses ⊢
    exact (congrArg (List.filter _) (a.counted_frames kind)).trans hresponses

/-! ### Requests without room -/

section Requests

variable {s : State} {rx : Rx} {num : BitVec 16} {kind : Byte}

theorem Blind.dropped {f : State → Answer} (hf : Blind f) (hm : s.toMe rx) (hl : s.link.sound) (hfull : s.link.roomFor false = false) :
    s.Dropped (s.heard.conclude rx num kind (f s.heard)) (s.emptied.heard.conclude rx num kind (f s.emptied.heard)) :=
  State.dropped_of_conclude hm hl hfull (hf.speaks _) (hf.speaks _) (hf.sameAct s.heard _)

/-- The link checks look at the configuration and the header alone: what they refuse is dropped alike, and what passes is left to the owning block (R171 to R173). -/
theorem State.request_dropped {top : Nat} {b : Bool} {act : State → State} (hm : s.toMe rx) (hl : s.link.sound) (hfull : s.link.roomFor false = false)
    (hact : ∀ c, s.asked rx c top → s.Dropped (act s.heard) (act s.emptied.heard)) :
    s.Dropped (s.begin.request rx num kind top b act) (s.emptied.begin.request rx num kind top b act) := by
  have hd : s.addressed rx = true := (s.addressed_iff rx).2 hm.1
  cases hc : s.config with
  | none =>
    rw [State.request_waiting (s := s.begin) _ _ _ _ _ hc hm.hears, State.request_waiting (s := s.emptied.begin) _ _ _ _ _ hc hm.hears]
    rw [if_pos (show s.begin.addressed rx = true from hd), if_pos (show s.emptied.begin.addressed rx = true from hd)]
    exact (Blind.refuse .notReady).dropped hm hl hfull
  | some c =>
    by_cases hr : top < (c.ranks[rx.src]).val
    · rw [State.request_rank (s := s.begin) _ _ _ _ hc hm hr, State.request_rank (s := s.emptied.begin) _ _ _ _ hc hm hr]
      exact (Blind.refuse .rank).dropped hm hl hfull
    · have ha : s.asked rx c top := ⟨hc, hm, Nat.not_lt.1 hr⟩
      rw [State.request_heard _ _ _ _ ha, State.request_heard (s := s.emptied) _ _ _ _ ha]
      exact hact c ha

theorem Blind.request_dropped {f : State → Answer} (hf : Blind f) {top : Nat} {b : Bool} (hm : s.toMe rx) (hl : s.link.sound)
    (hfull : s.link.roomFor false = false) :
    s.Dropped (s.begin.request rx num kind top b (State.answer rx num kind f)) (s.emptied.begin.request rx num kind top b (State.answer rx num kind f)) :=
  State.request_dropped hm hl hfull fun _ _ => hf.dropped hm hl hfull

/-- R22: a FIND that is refused RANGE or BUSY. -/
theorem State.find_dropped {args : List Byte} (hm : s.toMe rx) (hl : s.link.sound) (hfull : s.link.roomFor false = false)
    (hf : findArgs args = none ∨ 6 ≤ s.walks.length) : s.Dropped (s.heard.find rx num args) (s.emptied.heard.find rx num args) := by
  unfold State.find
  split
  · exact (Blind.refuse .range).dropped hm hl hfull
  · rename_i id start count hargs
    have hbusy : ¬ s.walks.length < 6 := Nat.not_lt.2 (hf.resolve_left (by rw [hargs]; exact Option.some_ne_none _))
    have hq : ∀ r, s.heard.queueWalk r = (s.heard, false) := fun r => if_neg hbusy
    have hq' : ∀ r, s.emptied.heard.queueWalk r = (s.emptied.heard, false) := fun r => if_neg hbusy
    rw [hq, hq']
    exact (Blind.refuse .busy).dropped hm hl hfull

/-- R173: both parts of a COLLECT answer are dropped, and counted once. -/
theorem State.collect_dropped (hm : s.toMe rx) (hl : s.link.sound) (hfull : s.link.roomFor false = false) :
    s.Dropped (s.heard.collect rx num) (s.emptied.heard.collect rx num) := by
  cases hh : s.meter.hold with
  | nil =>
    rw [State.collect_empty (s := s.heard) hh, State.collect_empty (s := s.emptied.heard) hh]
    exact (Blind.refuse .empty).dropped hm hl hfull
  | cons r rest =>
    have hnone : ¬ (s.heard.link.total + 2 ≤ 12 ∧ s.heard.link.routine + 2 ≤ 8) := by
      have h : 12 ≤ s.heard.link.total ∨ 8 ≤ s.heard.link.routine := Link.roomFor_routine_false.1 hfull
      omega
    rw [State.collect_head (s := s.heard) hh, State.collect_head (s := s.emptied.heard) hh]
    have hdropped : ∀ p q, s.heard.respondTwo rx.src num 18 p q =
        s.heard.withLink { s.link.received with responsesDropped := bump s.link.responsesDropped } := fun p q =>
      congrArg s.heard.withLink (if_neg hnone)
    rw [hdropped]
    exact ⟨rfl, rfl, rfl, rfl, rfl⟩

theorem exec_find (rx : Rx) (num : BitVec 16) (args : List Byte) (s : State) :
    exec (.find rx num args) s = .next (s.begin.request rx num 15 1 true fun v => v.find rx num args) := rfl

theorem exec_collectRequest (rx : Rx) (num : BitVec 16) (args : List Byte) (s : State) :
    exec (.collect rx num args) s = .next (s.begin.request rx num 18 1 true fun v => v.collect rx num) := rfl

/-- A request of a known kind that finds no room (R168, R173): a FIND with its walk to come aside, every kind acts and loses its answer. -/
theorem exec_requestOf_dropped {i : Instr} {k : Nat} {args : List Byte} (hi : requestOf rx num args k = some i) (hlo : 1 ≤ k) (hhi : k ≤ 19)
    (hm : s.toMe rx) (hl : s.link.sound) (hfull : s.link.roomFor false = false)
    (hfind : k = 15 → ∀ c, s.asked rx c 1 → findArgs args = none ∨ 6 ≤ s.walks.length) :
    ∃ s₁ s₂, exec i s = .next s₁ ∧ exec i s.emptied = .next s₂ ∧ s.Dropped s₁ s₂ := by
  obtain rfl | hlo := hlo.eq_or_lt
  · refine ⟨_, _, exec_configureOf hi s, exec_configureOf hi s.emptied, ?_⟩
    rw [State.receive_heard (s := s.begin) _ hm.hears, State.receive_heard (s := s.emptied.begin) _ hm.hears]
    exact (owningBlock_blind 1 rx args).dropped hm hl hfull
  have hkinds : k ≤ 13 ∨ k = 15 ∨ k = 18 ∨ (k = 14 ∨ k = 16 ∨ k = 17 ∨ k = 19) := by omega
  obtain hle | rfl | rfl | hk := hkinds
  · exact ⟨_, _, exec_requestOf hi hlo hle s, exec_requestOf hi hlo hle s.emptied, (owningBlock_blind k rx args).request_dropped hm hl hfull⟩
  · obtain rfl := Option.some.inj hi
    exact ⟨_, _, exec_find rx num args s, exec_find rx num args s.emptied,
      State.request_dropped hm hl hfull fun c hc => State.find_dropped hm hl hfull (hfind rfl c hc)⟩
  · obtain rfl := Option.some.inj hi
    exact ⟨_, _, exec_collectRequest rx num args s, exec_collectRequest rx num args s.emptied,
      State.request_dropped hm hl hfull fun _ _ => State.collect_dropped hm hl hfull⟩
  · exact ⟨_, _, exec_answerOf hi hk s, exec_answerOf hi hk s.emptied, (answerBlock_blind k args).request_dropped hm hl hfull⟩

theorem exec_unknownRequestKind_dropped {args : List Byte} (hk : kind.toNat = 0 ∨ 19 < kind.toNat) (hm : s.toMe rx) (hl : s.link.sound)
    (hfull : s.link.roomFor false = false) :
    ∃ s₁ s₂, exec (.unknownRequestKind rx (toBE 2 num.toNat ++ kind :: args)) s = .next s₁ ∧
      exec (.unknownRequestKind rx (toBE 2 num.toNat ++ kind :: args)) s.emptied = .next s₂ ∧ s.Dropped s₁ s₂ := by
  have hd : s.addressed rx = true := (s.addressed_iff rx).2 hm.1
  refine ⟨_, _, exec_unknownRequestKind hk hm.hears, exec_unknownRequestKind (s := s.emptied) hk hm.hears, ?_⟩
  rw [if_pos hd, if_pos (show s.emptied.addressed rx = true from hd), show s.emptied.inRun = s.inRun from rfl]
  split
  · exact (Blind.refuse .range).dropped hm hl hfull
  · exact (Blind.refuse .notReady).dropped hm hl hfull

end Requests

/-- Settles O33: an owning block is blind to the transmit queue, and leaves a full one full. -/
theorem answersWithoutRoom : Obligations.AnswersWithoutRoom := by
  refine ⟨fun s i rx num kind args hw hi hm hl hfull hfind => ?_, fun s st num id start count rest hwalks hfull => ?_⟩
  · obtain ⟨hlo, hhi, hof⟩ | ⟨hk, rfl⟩ := request_cases hw hi
    · refine exec_requestOf_dropped hof hlo hhi hm hl hfull fun hk c hc => ?_
      obtain hroom | hfullWalks := Nat.lt_or_ge s.walks.length 6
      · obtain hnone | hargs | ⟨c', hc', hr⟩ := hfind (BitVec.eq_of_toNat_eq hk) hroom
        · rw [hc.1] at hnone
          cases hnone
        · exact .inl hargs
        · obtain rfl : c = c' := Option.some.inj (hc.1.symm.trans hc')
          exact absurd hc.2.2 (Nat.not_le.2 hr)
      · exact .inr hfullWalks
    · exact exec_unknownRequestKind_dropped hk hm hl hfull
  · refine congrArg Host.Outcome.next ?_
    simp only [State.begin_walks, hwalks, State.endWalk]
    exact (State.respond_full st num 15 _ _ (by exact hfull)).trans rfl

end Sys2Proof.Machine
end

section
/-! SUPPORT. The configuration in the layout of Table 12-4 (R178, R179): what the part lays out as applied is read back as it stands. -/

namespace Sys2Proof.Machine

/-! ### Numbers -/

theorem foldl_toBE (k n a : Nat) : (toBE k n).foldl (fun m b => m * 256 + b.toNat) a = a * 256 ^ k + n % 256 ^ k := by
  induction k generalizing a with
  | zero => simp [toBE, Nat.mod_one]
  | succ k ih =>
    have hmod : n % 256 ^ (k + 1) = n % 256 ^ k + 256 ^ k * (n / 256 ^ k % 256) := pow_succ 256 k ▸ Nat.mod_mul
    have hbyte : (BitVec.ofNat 8 (n / 256 ^ k)).toNat = n / 256 ^ k % 256 := BitVec.toNat_ofNat ..
    rw [toBE, List.foldl_cons, ih, hbyte, hmod]
    ring

/-- R180: a number within its field is read back from its bytes. -/
theorem beNat_toBE {k n : Nat} (h : n < 256 ^ k) : beNat (toBE k n) = n := by
  rw [beNat, foldl_toBE, Nat.zero_mul, Nat.zero_add, Nat.mod_eq_of_lt h]

theorem toBE_one (n : Nat) : toBE 1 n = [BitVec.ofNat 8 n] := by simp [toBE]

theorem toBE_two (n : Nat) : toBE 2 n = [BitVec.ofNat 8 (n / 256), BitVec.ofNat 8 n] := by simp [toBE]

/-- R178: a field that is not 0 keeps its value. -/
theorem orDefault_of_pos {d n : Nat} (h : 0 < n) : orDefault d n = n := if_neg h.ne'

/-! ### The tree mask -/

/-- R180: each tree is read back from its own bit of the mask. -/
theorem maskBytes_bits (q : Quad Bool) :
    (⟨(byteAt (maskBytes q) 0).getLsbD 0, (byteAt (maskBytes q) 0).getLsbD 1, (byteAt (maskBytes q) 0).getLsbD 2,
      (byteAt (maskBytes q) 0).getLsbD 3⟩ : Quad Bool) = q := by
  obtain ⟨a, b, c, d⟩ := q
  revert a b c d
  decide

/-! ### The rank table -/

/-- Four ranks in one byte, the first in bits 1 and 0 (Table 12-4). -/
def packRanks (q : Quad Rank) : Byte := BitVec.ofNat 8 (q.q0.val + 4 * q.q1.val + 16 * q.q2.val + 64 * q.q3.val)

/-- The ranks of the four stations that share one byte of the rank table. -/
def ranksOf (ranks : Vector Rank 16) (i : Fin 4) : Quad Rank :=
  ⟨ranks[4 * i.val], ranks[4 * i.val + 1], ranks[4 * i.val + 2], ranks[4 * i.val + 3]⟩

theorem packRanks_digit (q : Quad Rank) (j : Fin 4) : (packRanks q).toNat / 4 ^ j.val % 4 = (q.get j).val := by
  have h0 := q.q0.isLt
  have h1 := q.q1.isLt
  have h2 := q.q2.isLt
  have h3 := q.q3.isLt
  rw [packRanks, BitVec.toNat_ofNat]
  match j with
  | ⟨0, _⟩ | ⟨1, _⟩ | ⟨2, _⟩ | ⟨3, _⟩ => simp only [Quad.get]; omega

/-- Table 12-4: each byte of the rank table packs the ranks of its four stations. -/
theorem ranksBytes_eq (ranks : Vector Rank 16) : ranksBytes ranks = (List.finRange 4).map fun i => packRanks (ranksOf ranks i) := by
  have hrange : List.range 4 = (List.finRange 4).map Fin.val := by decide
  rw [ranksBytes, hrange, List.map_map]
  refine List.map_congr_left fun i _ => congrArg (BitVec.ofNat 8) ?_
  fin_cases i <;> simp [List.finRange_succ, ranksOf] <;> ring

theorem ranksOf_get (ranks : Vector Rank 16) (st : Station) :
    (ranksOf ranks ⟨st.val / 4, by omega⟩).get ⟨st.val % 4, by omega⟩ = ranks[st] := by
  fin_cases st <;> rfl

/-- R164: the table read back is the table laid out, once the management station stands in it at rank 0. -/
theorem rankTable_eq {args : List Byte} {off : Nat} {mgt : Station} {ranks : Vector Rank 16} (hat : ∀ st, rankAt args off st = ranks[st])
    (hmgt : ranks[mgt] = 0) : rankTable args off mgt = ranks := by
  refine Vector.ext fun i hi => ?_
  have hget : (rankTable args off mgt)[i] = if (⟨i, hi⟩ : Station) = mgt then 0 else rankAt args off ⟨i, hi⟩ := by
    simp [rankTable]
  rw [hget]
  split
  · next heq =>
    subst heq
    exact hmgt.symm
  · exact hat ⟨i, hi⟩

/-! ### The whole configuration -/

/-- Table 12-4: the 25 bytes of a configuration as applied. -/
theorem configBytes_eq (c : Config) :
    configBytes c = [BitVec.ofNat 8 (c.capacity / 256), BitVec.ofNat 8 c.capacity,
      packRanks (ranksOf c.ranks 0), packRanks (ranksOf c.ranks 1), packRanks (ranksOf c.ranks 2), packRanks (ranksOf c.ranks 3),
      byteAt (maskBytes c.enable) 0,
      BitVec.ofNat 8 c.spread.q0, BitVec.ofNat 8 c.spread.q1, BitVec.ofNat 8 c.spread.q2, BitVec.ofNat 8 c.spread.q3,
      BitVec.ofNat 8 (c.discovery / 256), BitVec.ofNat 8 c.discovery,
      BitVec.ofNat 8 c.quiet, BitVec.ofNat 8 c.dark, BitVec.ofNat 8 c.overlap, BitVec.ofNat 8 c.drift, BitVec.ofNat 8 c.kOnline,
      BitVec.ofNat 8 (c.soak / 256), BitVec.ofNat 8 c.soak, BitVec.ofNat 8 (c.lostTimeout / 256), BitVec.ofNat 8 c.lostTimeout,
      BitVec.ofNat 8 c.close.hh, BitVec.ofNat 8 c.close.mm, BitVec.ofNat 8 c.close.ss] := by
  simp [configBytes, ranksBytes_eq, List.finRange_succ, maskBytes, timeBytes, Quad.toList, byteAt, toBE_one, toBE_two]

theorem configBytes_length (c : Config) : (configBytes c).length = 25 := by rw [configBytes_eq]; rfl

/-- Table 12-4: each station's rank is read back from its two bits. -/
theorem rankAt_configBytes (c : Config) (st : Station) : rankAt (configBytes c) 2 st = c.ranks[st] := by
  have hbyte : ∀ i : Fin 4, byteAt (configBytes c) (2 + i.val) = packRanks (ranksOf c.ranks i) := by
    rw [configBytes_eq]
    intro i
    fin_cases i <;> rfl
  refine Fin.ext ?_
  rw [← ranksOf_get c.ranks st, ← packRanks_digit, ← hbyte]
  rfl

/-- Table 12-4: every field but the ranks is read at the place where it was laid out. -/
theorem configFields_configBytes (c : Config) (mgt : Station) :
    configFields (configBytes c) mgt =
      { capacity := beNat (toBE 2 c.capacity)
        ranks := rankTable (configBytes c) 2 mgt
        enable := ⟨(byteAt (maskBytes c.enable) 0).getLsbD 0, (byteAt (maskBytes c.enable) 0).getLsbD 1,
          (byteAt (maskBytes c.enable) 0).getLsbD 2, (byteAt (maskBytes c.enable) 0).getLsbD 3⟩
        spread := c.spread.map fun n => beNat (toBE 1 n)
        discovery := orDefault 500 (beNat (toBE 2 c.discovery))
        quiet := orDefault 16 (beNat (toBE 1 c.quiet))
        dark := orDefault 40 (beNat (toBE 1 c.dark))
        overlap := orDefault 12 (beNat (toBE 1 c.overlap))
        drift := orDefault 8 (beNat (toBE 1 c.drift))
        kOnline := orDefault 4 (beNat (toBE 1 c.kOnline))
        soak := orDefault 1024 (beNat (toBE 2 c.soak))
        lostTimeout := orDefault 600 (beNat (toBE 2 c.lostTimeout))
        close := ⟨beNat (toBE 1 c.close.hh), beNat (toBE 1 c.close.mm), beNat (toBE 1 c.close.ss)⟩ } := by
  simp only [configBytes_eq, toBE_one, toBE_two]
  rfl

/-- Table 11-2: a value within its range fits the field it is laid out in, and is not 0 where 0 stands for a default. -/
theorem configFields_configBytes_of_inRange {c : Config} {mgt : Station} (hc : configInRange c = true) (hm : c.ranks[mgt] = 0) :
    configFields (configBytes c) mgt = c := by
  simp only [configInRange, timeValid, Quad.toList, List.all_cons, List.all_nil, Bool.and_true, Bool.and_eq_true, and_assoc, decide_eq_true_eq] at hc
  obtain ⟨-, hcap, hspread0, hspread1, hspread2, hspread3, hdisc, hdisc', hquiet, hdark', hdark, hover, hover', hdrift, hdrift', hkon, hkon', hsoak, hsoak',
    hlost, hlost', hhh, hmm, hss⟩ := hc
  have hquiet : 0 < c.quiet ∧ c.quiet ≤ 64 := (by decide : ∀ q ∈ [4, 8, 16, 32, 64], 0 < q ∧ q ≤ 64) _ hquiet
  rw [configFields_configBytes, rankTable_eq (rankAt_configBytes c) hm, maskBytes_bits]
  simp (disch := omega) only [Quad.map, beNat_toBE, orDefault_of_pos]

/-- Settles O5: in range, each field is read back from its own bytes, and the ranks from theirs. -/
theorem configurationRoundTrip : Obligations.ConfigurationRoundTrip := by
  intro c mgt hc hm
  have hlen : ¬ (configBytes c).length < 25 := (configBytes_length c).not_lt
  simp only [configArgs, if_neg hlen, configFields_configBytes_of_inRange hc hm, if_pos hc]

end Sys2Proof.Machine
end

section
/-! SUPPORT. What a step does with the queue of commands (assumption 1): one equation per form of the queue. -/

namespace Sys2Proof.Machine

theorem step_of_pending_cons {c : Instr} {rest : List Instr} {s : State} (h : s.pending = c :: rest) :
    step s = exec c { s with pending := rest } := by
  simp only [step, h]

theorem step_of_pending_nil {s : State} (h : s.pending = []) : step s = .next s := by
  simp only [step, h]

/-- Settles O1: the two forms of the queue are the two branches of the step. -/
theorem stepTakesTheFrontCommand : Obligations.StepTakesTheFrontCommand :=
  ⟨fun _ _ _ => step_of_pending_cons, fun _ => step_of_pending_nil⟩

end Sys2Proof.Machine
end
